-- ==== Sys2Proof/Word.lean ====
section
/-! DEFINITION. The words of the part: a byte of a frame, a CRC register and a 32-bit count. -/

namespace Sys2Proof

/-- One character's data on the loop, one byte of a frame (R165, R177). -/
abbrev Byte := BitVec 8

/-- A 16-bit field, and the CRC register (R177). -/
abbrev Word16 := BitVec 16

/-- A 32-bit field: floor milliseconds, floor seconds, a monitor serial, an alarm detail (R1, R13, R44). -/
abbrev Word32 := BitVec 32

end Sys2Proof
end

