-- ==== Sys2Proof/Syntax.lean ====
section
/-! DEFINITION. The commands of the block: one constructor of `Instr` for each row of spec/opcode_table.json,
with the operands its rules name. An enumerated field of a request is carried as its code (R178), so that a
code outside its list can be given and is refused by the request's own checks (R184). The byte layout of the
request fields is not in the spec: a request's fields stand as operands (log entry 3). -/

namespace Sys2Proof

/-- The two loop ports (R165). -/
inductive Port where
  | s
  | f
  deriving DecidableEq, Repr

/-- A configured node by its table index: the holder of a watch (R26). -/
inductive NodeRef where
  | cabinet (c : Nat)
  | string (i : Nat)
  deriving DecidableEq, Repr

/-- Who sent a tracked order (R116). -/
inductive Origin where
  | site
  | plan
  deriving DecidableEq, Repr

/-- The key of an Outstanding Order List entry: origin, target address and sequence (R116). -/
structure OrderKey where
  origin : Origin
  target : Nat
  seq : Byte
  deriving DecidableEq, Repr

/-- A flag field of Write Alarm Class: YES, NO, or a value that is neither (R46). -/
inductive FlagField where
  | yes
  | no
  | neither
  deriving DecidableEq, Repr

/-- The role fields a Write Node Entry carries (R2, R3); `otherRole` is a role field that holds neither role. -/
inductive NodeRoleReq where
  | cabinet (index group : Nat) (lead : Bool) (rating : Nat) (restoreLimit : Option Nat)
  | stringMonitor (index owner blocks capacity : Nat)
  | otherRole
  deriving DecidableEq, Repr

/-- The complete entry a Write Node Entry carries (R3). -/
structure NodeReq where
  addr : Nat
  interval : Nat
  missLimit : Nat
  role : NodeRoleReq
  deriving DecidableEq, Repr

/-- The fields a Write Group Parameters may name (R123). -/
inductive GroupField where
  | minInService
  | capacityMargin
  | reserveThreshold
  | rampStep
  | rampInterval
  | matchTolerance
  | matchWindow
  | replyWindow
  | completionWindow
  | settleBypass
  | settleMaint
  | settleOutput
  | settleIsolate
  | mismatchAllowance
  deriving DecidableEq, Repr

/-- The fields a Write Port Settings may name (R165, R187). -/
inductive PortField where
  | bitRate
  | guard
  | waitLimit
  | raiseLevel
  deriving DecidableEq, Repr

/-- One named field of a Stage Ageing Parameters (R63, R64): a single factor or weight by its index, a whole
table, or a scalar field. -/
inductive AgeingField where
  | factor (i v : Nat)
  | factorTable (vs : Vector Nat 10)
  | designLife (v : Nat)
  | weight (i v : Nat)
  | weightTable (vs : Vector Nat 4)
  | rEol (v : Nat)
  | dischargeThreshold (v : Nat)
  | dtLimit (v : Nat)
  | learningCycles (v : Nat)
  | trimStep (v : Nat)
  | recoveryTime (v : Nat)
  | t1 (v : Nat)
  | t2 (v : Nat)
  | t3 (v : Nat)
  deriving DecidableEq, Repr

/-- The history a String Restore carries (R102). -/
structure RestoreReq where
  wCal : Nat
  rCal : Nat
  qThr : Nat
  bins : Vector Nat 4
  baseline : List Nat
  baselineState : Nat
  learnCount : Nat
  deriving DecidableEq, Repr

/-- The fields of a Write Limit Entry (R31): codes for measurement, subject and direction (R178). -/
structure LimitReq where
  measurement : Nat
  subject : Nat
  direction : Nat
  trip : Int
  clear : Int
  persistence : Nat
  code : Nat
  enabled : Bool
  deriving DecidableEq, Repr

/-- The fields of a Visit Open (R149). -/
structure VisitReq where
  id : Nat
  cabinets : List Nat
  strings : List Nat
  depth : Nat
  duration : Nat
  prepareLimit : Nat
  deriving DecidableEq, Repr

/-- The commands. Each constructor's docstring names its row of spec/opcode_table.json and the row's rule. -/
inductive Instr where
  /-- POWER_ON (R20). -/
  | powerOn
  /-- RESET_LINE_ASSERTED (R175). -/
  | resetLineAsserted
  /-- RESET_LINE_RELEASED (R20). -/
  | resetLineReleased
  /-- IDLE_DETECTED (R167): the line of port `p` has stayed idle for `bits` further bit times. -/
  | idleDetected (p : Port) (bits : Nat)
  /-- FRAME_COMPLETE (R168). -/
  | frameComplete (p : Port)
  /-- PAYLOAD_LENGTH_TOO_LONG (R167). -/
  | payloadLengthTooLong (p : Port)
  /-- CHARACTER_WAIT_EXPIRY (R167): the line of port `p` has stayed idle for `bits` further bit times. -/
  | characterWaitExpiry (p : Port) (bits : Nat)
  /-- ABANDONED_RX (R166). -/
  | abandonedRx (p : Port)
  /-- REPORT_INSPECTION (R23). -/
  | reportInspection
  /-- VISIT_HAND_OFF (R152): the oldest waiting hand-off to the Visit Register is taken. -/
  | visitHandOff
  /-- AGEING_UPDATE (R68): the oldest waiting hand-off to the Ageing Engine is taken. -/
  | ageingUpdate
  /-- RAMP_STEP_JUDGEMENT (R137): the oldest waiting hand-off to the Transfer Sequencer is taken. -/
  | rampStepJudgement
  /-- REPLY_MATCH (R118). -/
  | replyMatch
  /-- SITE_ORDER_JUDGEMENT (R107). -/
  | siteOrderJudgement
  /-- FRAME_FORWARD (R169): the head of the inbound queue of port `p`. -/
  | frameForward (p : Port)
  /-- TRANSMIT_TAKE (R171). -/
  | transmitTake (p : Port)
  /-- FRAME_SENT (R172). -/
  | frameSent (p : Port)
  /-- ABANDONED_TX (R172). -/
  | abandonedTx (p : Port)
  /-- WATCH_EXPIRY (R27). -/
  | watchExpiry (n : NodeRef)
  /-- QUIET_TIMER_EXPIRY (R24). -/
  | quietTimerExpiry
  /-- REPLY_WINDOW_EXPIRY (R117). -/
  | replyWindowExpiry (k : OrderKey)
  /-- COMPLETION_WINDOW_EXPIRY (R117). -/
  | completionWindowExpiry (k : OrderKey)
  /-- SETTLE_EXPIRY (R135). -/
  | settleExpiry (slot : Nat)
  /-- RAMP_INTERVAL_EXPIRY (R137). -/
  | rampIntervalExpiry (slot : Nat)
  /-- MATCH_WINDOW_EXPIRY (R139). -/
  | matchWindowExpiry (slot : Nat)
  /-- STEP_TRIGGER (R131). -/
  | stepTrigger (slot : Nat)
  /-- RECOVERY_TIMER_EXPIRY (R91). -/
  | recoveryTimerExpiry (i : Nat)
  /-- PREPARE_TIMER_EXPIRY (R153). -/
  | prepareTimerExpiry (visit : Nat)
  /-- DURATION_TIMER_EXPIRY (R154). -/
  | durationTimerExpiry (visit : Nat)
  /-- CLOSE_TIMER_EXPIRY (R156). -/
  | closeTimerExpiry (visit : Nat)
  /-- MANAGE_BAD_REQUEST (R184). -/
  | manageBadRequest
  /-- READ_IDENTITY (R186). -/
  | readIdentity
  /-- WRITE_NODE_ENTRY (R3). -/
  | writeNodeEntry (index : Nat) (entry : NodeReq)
  /-- CLEAR_NODE_ENTRY (R4). -/
  | clearNodeEntry (index : Nat)
  /-- READ_NODE_ENTRY (R4). -/
  | readNodeEntry (index : Nat)
  /-- START_SUPERVISION (R18). -/
  | startSupervision
  /-- STOP_SUPERVISION (R19). -/
  | stopSupervision
  /-- WRITE_GROUP_PARAMETERS (R124). -/
  | writeGroupParameters (group : Nat) (fields : List (GroupField × Nat))
  /-- WRITE_LIMIT_ENTRY (R31). -/
  | writeLimitEntry (index : Nat) (entry : LimitReq)
  /-- WRITE_ALARM_CLASS (R46). -/
  | writeAlarmClass (code level : Nat) (latching shelvable : FlagField)
  /-- WRITE_GATE_ENTRY (R105). -/
  | writeGateEntry (kind cls : Nat)
  /-- WRITE_PORT_SETTINGS (R187). -/
  | writePortSettings (port : Nat) (fields : List (PortField × Nat))
  /-- STAGE_AGEING_PARAMETERS (R64). -/
  | stageAgeingParameters (fields : List AgeingField)
  /-- COMMIT_AGEING_PARAMETERS (R65). -/
  | commitAgeingParameters
  /-- READ_AGEING_PARAMETERS (R66). -/
  | readAgeingParameters (copy : Nat)
  /-- READ_CABINET_RECORD (R21). -/
  | readCabinetRecord (c : Nat)
  /-- READ_STRING_RECORD (R21). -/
  | readStringRecord (i : Nat)
  /-- READ_STRING_BLOCKS (R188). -/
  | readStringBlocks (i first : Nat)
  /-- READ_STRING_AGEING (R188); `first` is the first block of the LISTS part. -/
  | readStringAgeing (i part first : Nat)
  /-- STRING_RESTORE (R103). -/
  | stringRestore (i : Nat) (history : RestoreReq)
  /-- ACCEPT_REPLACEMENT_NEW (R98): Accept Replacement with any choice but SAME. -/
  | acceptReplacementNew (i choice : Nat)
  /-- ACCEPT_REPLACEMENT_SAME (R99): Accept Replacement with the choice SAME. -/
  | acceptReplacementSame (i : Nat)
  /-- READ_ALARM_LIST (R57). -/
  | readAlarmList (start : Nat)
  /-- ACKNOWLEDGE_ALARM (R53): the subject as its kind and index (R178). -/
  | acknowledgeAlarm (code subjectKind subjectIndex : Nat)
  /-- PLAN_REQUEST (R127). -/
  | planRequest (kind group : Nat) (target : Option Nat)
  /-- PLAN_RESUME (R141). -/
  | planResume (id : Nat)
  /-- PLAN_ABANDON (R142). -/
  | planAbandon (id : Nat)
  /-- READ_PLAN (R145). -/
  | readPlan (group : Nat)
  /-- VISIT_OPEN (R151). -/
  | visitOpen (visit : VisitReq)
  /-- VISIT_CLOSE (R156). -/
  | visitClose (id : Nat)
  /-- VISIT_FORCE_CLOSE (R157). -/
  | visitForceClose (id : Nat)
  /-- VISIT_CANCEL (R158). -/
  | visitCancel (id : Nat)
  /-- READ_VISIT (R162). -/
  | readVisit (id : Nat)
  /-- READ_PORT_COUNTERS (R173). -/
  | readPortCounters (clear : Bool)
  /-- RESET_TRAFFIC (R191): Reset with any kind but FULL. -/
  | resetTraffic (kind : Nat)
  /-- RESET_FULL (R190): Reset with the kind FULL. -/
  | resetFull
  /-- FULL_RESET_TAKEN (R190). -/
  | fullResetTaken
  /-- FLOOR_CLOCK_TICK (R1). -/
  | floorClockTick
  /-- CHARACTER_RECEIVED (R167): the data bits, the parity bit and whether a stop bit was found. -/
  | characterReceived (p : Port) (data : Byte) (parity stop : Bool)
  /-- CHARACTER_REPEATED (R166): the refused character's position in the frame, from 0. -/
  | characterRepeated (p : Port) (char : Nat)
  deriving DecidableEq, Repr

end Sys2Proof
end

