-- ==== Sys2Proof/WellFormed.lean ====
section
/-! DEFINITION. Which commands can be given: every operand lies in the range its carrier can hold. An enumerated field, an
index or a port is one byte (R178, R183, R188); an index of a table, a slot or a loop address that an event names lies in the
table's range (R2, R44, R125, R147). A numeric field whose width the spec does not give is not bounded (log entry 3). -/

namespace Sys2Proof

/-- A value one byte carries (R178). -/
def isByte (n : Nat) : Bool := decide (n < 256)

/-- A value two bytes carry (R188). -/
def isTwoBytes (n : Nat) : Bool := decide (n < 65536)

/-- A node with a watch stands in its table (R7, R13). -/
def NodeRef.wf : NodeRef → Bool
  | .cabinet c => decide (c < 24)
  | .string i => decide (i < 32)

/-- The key of a tracked order: its target is a loop address of a node (R2, R116). -/
def OrderKey.wf (k : OrderKey) : Bool := decide (1 ≤ k.target) && decide (k.target ≤ 239)

/-- A plan slot (R125). -/
def slotWf (g : Nat) : Bool := decide (g < 4)

/-- A visit id an occupied entry can hold (R147). -/
def visitIdWf (id : Nat) : Bool := decide (1 ≤ id) && isByte id

/-- The structural fields of a Write Node Entry are bytes (R2, R178). -/
def NodeReq.wf (r : NodeReq) : Bool :=
  isByte r.addr &&
    (match r.role with
    | .cabinet index group _ _ _ => isByte index && isByte group
    | .stringMonitor index owner blocks _ => isByte index && isByte owner && isByte blocks
    | .otherRole => true)

/-- The structural fields of a Write Limit Entry are bytes (R31, R178). -/
def LimitReq.wf (r : LimitReq) : Bool :=
  isByte r.measurement && isByte r.subject && isByte r.direction && isByte r.code

/-- The baselines of a String Restore are carried in two bytes, its baseline state in one (R178, R188). -/
def RestoreReq.wf (r : RestoreReq) : Bool := r.baseline.all isTwoBytes && isByte r.baselineState

/-- The scopes, the id and the depth of a Visit Open are bytes (R149, R178). -/
def VisitReq.wf (r : VisitReq) : Bool :=
  isByte r.id && r.cabinets.all isByte && r.strings.all isByte && isByte r.depth

/-- The indices of the staged fields are bytes (R64). -/
def AgeingField.wf : AgeingField → Bool
  | .factor i _ => isByte i
  | .weight i _ => isByte i
  | _ => true

/-- A position within the greatest frame: a header of 5, a payload of at most 128 and a CRC of 2 (R167, R177). -/
def charWf (char : Nat) : Bool := decide (char < 135)

/-- The command can be given. -/
def Instr.wf : Instr → Bool
  | .powerOn => true
  | .resetLineAsserted => true
  | .resetLineReleased => true
  | .idleDetected _ _ => true
  | .frameComplete _ => true
  | .payloadLengthTooLong _ => true
  | .characterWaitExpiry _ _ => true
  | .abandonedRx _ => true
  | .reportInspection => true
  | .visitHandOff => true
  | .ageingUpdate => true
  | .rampStepJudgement => true
  | .replyMatch => true
  | .siteOrderJudgement => true
  | .frameForward _ => true
  | .transmitTake _ => true
  | .frameSent _ => true
  | .abandonedTx _ => true
  | .watchExpiry n => n.wf
  | .quietTimerExpiry => true
  | .replyWindowExpiry k => k.wf
  | .completionWindowExpiry k => k.wf
  | .settleExpiry slot => slotWf slot
  | .rampIntervalExpiry slot => slotWf slot
  | .matchWindowExpiry slot => slotWf slot
  | .stepTrigger slot => slotWf slot
  | .recoveryTimerExpiry i => decide (i < 32)
  | .prepareTimerExpiry visit => visitIdWf visit
  | .durationTimerExpiry visit => visitIdWf visit
  | .closeTimerExpiry visit => visitIdWf visit
  | .manageBadRequest => true
  | .readIdentity => true
  | .writeNodeEntry index entry => isByte index && entry.wf
  | .clearNodeEntry index => isByte index
  | .readNodeEntry index => isByte index
  | .startSupervision => true
  | .stopSupervision => true
  | .writeGroupParameters group _ => isByte group
  | .writeLimitEntry index entry => isByte index && entry.wf
  | .writeAlarmClass code _ _ _ => isByte code
  | .writeGateEntry kind cls => isByte kind && isByte cls
  | .writePortSettings port _ => isByte port
  | .stageAgeingParameters fields => fields.all AgeingField.wf
  | .commitAgeingParameters => true
  | .readAgeingParameters copy => isByte copy
  | .readCabinetRecord c => isByte c
  | .readStringRecord i => isByte i
  | .readStringBlocks i first => isByte i && isByte first
  | .readStringAgeing i part first => isByte i && isByte part && isByte first
  | .stringRestore i history => isByte i && history.wf
  | .acceptReplacementNew i choice => isByte i && isByte choice && decide (choice ≠ 2)
  | .acceptReplacementSame i => isByte i
  | .readAlarmList start => isByte start
  | .acknowledgeAlarm code subjectKind subjectIndex => isByte code && isByte subjectKind && isByte subjectIndex
  | .planRequest kind group target => isByte kind && isByte group && target.all isByte
  | .planResume id => isByte id
  | .planAbandon id => isByte id
  | .readPlan group => isByte group
  | .visitOpen visit => visit.wf
  | .visitClose id => isByte id
  | .visitForceClose id => isByte id
  | .visitCancel id => isByte id
  | .readVisit id => isByte id
  | .readPortCounters _ => true
  | .resetTraffic kind => isByte kind && decide (kind ≠ 2)
  | .resetFull => true
  | .fullResetTaken => true
  | .floorClockTick => true
  | .characterReceived _ _ _ _ => true
  | .characterRepeated _ char => charWf char

end Sys2Proof
end

