-- ==== Sys2Proof/Config.lean ====
section
/-! DEFINITION. What the manual fixes once for the part, and the seven values it leaves free. A free value is an
opaque constant: it has no body, so nothing can be proved that depends on which value it is. -/

namespace Sys2Proof.Config

/-- The part code that Read Identity carries (R186). -/
def partCode : Nat := 4120

/-- The design level that Read Identity carries (R186). -/
def designLevel : Nat := 1

/-- The loop address of the site controller (00_scope.md, Where the part sits on the loop). -/
def siteAddr : Nat := 0

/-- The supervisor's own loop address (00_scope.md, Where the part sits on the loop). -/
def supervisorAddr : Nat := 240

/-- The broadcast address (00_scope.md, Where the part sits on the loop). -/
def broadcastAddr : Nat := 255

/-- FREE VALUE (log entry 15). Whether a string report whose declared sensor count lies outside 1 to 4 has the cause
FORM (true) or LENGTH (false): R23 gives the form test the cause FORM or LENGTH and does not say which this
failure has. The argument is the report's payload. -/
opaque sensorCountCauseIsForm : List Byte → Bool

/-- FREE VALUE (log entry 16). The order-kind byte in the answer to a site order whose payload is empty: R107 answers
it and R180 gives the answer an order-kind byte, which such an order does not carry. The arguments are the
order's target and sequence. -/
opaque absentOrderKind : Byte → Byte → Byte

/-- FREE VALUE (log entry 4). The bytes of one field of a MANAGE-REPLY that is neither an enumerated field nor a flag: R183 to
R188 name these fields and do not give the width of each. The arguments are the request code, the number of the field in its
reply, and its value: one number, or the members of a list. -/
opaque resultBytes : Nat → Nat → List Int → List Byte

/-- FREE VALUE (log entry 4). The bytes of the number of entries and the lost-alarm count in the reply to Read Alarm List: R57
names the two fields, R188 has them fit beside eight entries, and the spec does not give their widths. The arguments are the
two numbers. -/
opaque alarmCountBytes : Nat → Nat → List Byte

/-- FREE VALUE (log entry 4). The bytes of a rise in the LISTS part of Read String Ageing: R188 gives the width of the baseline
beside it alone. The argument is the rise. -/
opaque riseBytes : Nat → List Byte

/-- FREE VALUE (log entry 3). By how many bytes a part of a MANAGE request is longer than one byte for each of its fields:
R184 answers a payload that is shorter or longer than its fields call for, and the spec does not give the width of each
field. The arguments are the request code and the part: 0 for the fields of a request with one form; the number of the form
for one with several; the number of a named field; 0 and 1 for the fields before and behind the variable lists. -/
opaque moreBytes : Nat → Nat → Nat

/-- FREE VALUE (log entry 3). The identifier byte of a named field: R184 answers an identifier that the code does not know,
and the spec gives none of them. The arguments are the request code and the number of the field in its rule's table. -/
opaque fieldIdentifier : Nat → Nat → Byte

end Sys2Proof.Config
end

