-- ==== Sys2Proof/Machine/Types.lean ====
section
/-! DEFINITION. The enumerations and the records that State is made of. Each record is one row of a table of the spec;
its docstring names the rule that lists its fields. -/

namespace Sys2Proof.Machine

/-- The seven cabinet modes (R10). A reported mode is `none` for NOT_REPORTED, an expected mode is `none` for
UNKNOWN (R7). -/
inductive Mode where
  | isolated
  | standby
  | online
  | onBattery
  | staticBypass
  | maintBypass
  | fault
  deriving DecidableEq, Repr

/-- Bypass source status (R7). -/
inductive BypassStatus where
  | good
  | poor
  | absent
  deriving DecidableEq, Repr

/-- Door state (R7). -/
inductive Door where
  | closed
  | opened
  deriving DecidableEq, Repr

/-- Liveness of a node (R7, R13). -/
inductive Liveness where
  | neverSeen
  | live
  | silent
  deriving DecidableEq, Repr

/-- Supervision mode (R16). -/
inductive SupMode where
  | unconfigured
  | supervising
  deriving DecidableEq, Repr

/-- The thirteen order kinds (R10). -/
inductive OrderKind where
  | deisolate
  | isolate
  | outputClose
  | outputOpen
  | goBypass
  | goInverter
  | maintClose
  | maintOpen
  | setShare
  | batteryTestStart
  | batteryTestStop
  | alarmSilence
  | readDetail
  deriving DecidableEq, Repr

/-- The class of an order kind (R104). -/
inductive GateClass where
  | forward
  | interlocked
  | supervisorOnly
  deriving DecidableEq, Repr

/-- The answers of the Order Gate (R108). -/
inductive GateAnswer where
  | held
  | refused
  deriving DecidableEq, Repr

/-- The causes of the Order Gate (R108). -/
inductive GateCause where
  | form
  | broadcast
  | notConfigured
  | sequenceInUse
  | usePlan
  | visit
  | repeatLimit
  | planBusy
  | silent
  | capacity
  | state
  | busy
  | bypass
  | reserve
  | trackingFull
  deriving DecidableEq, Repr

/-- A cabinet's reply kinds (R118). -/
inductive ReplyKind where
  | accepted
  | done
  | rejected
  deriving DecidableEq, Repr

/-- Frame kinds (R177). -/
inductive FrameKind where
  | report
  | order
  | reply
  | notice
  | manage
  | manageReply
  deriving DecidableEq, Repr

/-- Notice kinds (R61). -/
inductive NoticeKind where
  | alarmRaised
  | alarmCleared
  | alarmUnshelved
  | planStage
  | planHalted
  | planDone
  | visitState
  | stringGrade
  | stringReplaced
  | stringSwapPending
  | supervisionState
  deriving DecidableEq, Repr

/-- What an alarm concerns (R44). -/
inductive Subject where
  | cabinet (c : Nat)
  | string (i : Nat)
  | group (g : Nat)
  | port (p : Port)
  | supervisor
  deriving DecidableEq, Repr

/-- The state of an Alarm List entry (R47). -/
inductive AlarmState where
  | active
  | acknowledged
  | shelved
  | cleared
  deriving DecidableEq, Repr

/-- The outcome an ALARM_CLEARED notice carries (R52). -/
inductive ClearOutcome where
  | cleared
  | removed
  deriving DecidableEq, Repr

/-- The kinds of a transfer plan (R125). -/
inductive PlanKind where
  | withdraw
  | restore
  | groupToMaint
  | groupFromMaint
  deriving DecidableEq, Repr

/-- The stages of the plans (R130). -/
inductive Stage where
  | check
  | rampDown
  | openOut
  | isolate
  | deisolate
  | close
  | rampUp
  | toStatic
  | maintClose
  | openAll
  | isolateAll
  | deisolateAll
  | closeAll
  | maintOpen
  | toInverter
  deriving DecidableEq, Repr

/-- The states of a plan (R125). -/
inductive PlanState where
  | checking
  | issued
  | settling
  | ramping
  | halted
  deriving DecidableEq, Repr

/-- The causes of a halt (R140). -/
inductive HaltCause where
  | silent
  | bypass
  | capacity
  | noReply
  | noCompletion
  | rejected
  | noMatch
  | reset
  deriving DecidableEq, Repr

/-- The states of a visit; an entry of the register is in one of the first three (R147). -/
inductive VisitState where
  | preparing
  | active
  | closing
  | closed
  | cancelled
  deriving DecidableEq, Repr

/-- The depth of a visit (R148). -/
inductive Depth where
  | doorOnly
  | bypass
  | isolation
  deriving DecidableEq, Repr

/-- String grades (R83). -/
inductive Grade where
  | good
  | fair
  | poor
  | replace
  deriving DecidableEq, Repr

/-- The limiting factor of L (R83). -/
inductive Limiting where
  | calendar
  | cycles
  | resistance
  deriving DecidableEq, Repr

/-- The causes of STRING_CONFIG_MISMATCH (R25). -/
inductive StringConfigCause where
  | form
  | length
  | blocks
  deriving DecidableEq, Repr

/-- The state of the ageing time base (R69). -/
inductive TimeBase where
  | fresh
  | valid
  | broken
  deriving DecidableEq, Repr

/-- The activity state of a string (R87). -/
inductive Activity where
  | float
  | discharge
  | recharge
  deriving DecidableEq, Repr

/-- The baseline state of a string (R92, R93). -/
inductive BaselineState where
  | learning
  | learned
  deriving DecidableEq, Repr

/-- The measurements a limit entry may watch (R31). -/
inductive Measurement where
  | cabLoad
  | cabInV
  | cabOutV
  | cabTemp
  | blockVMin
  | blockVMax
  | blockVSpread
  | stringTemp
  deriving DecidableEq, Repr

/-- The direction of a limit entry (R31). -/
inductive Direction where
  | high
  | low
  deriving DecidableEq, Repr

/-- The subject of a limit entry: every subject of the kind, or one index (R31). -/
inductive LimitSubject where
  | all
  | one (i : Nat)
  deriving DecidableEq, Repr

/-- The status of a MANAGE-REPLY (R183). -/
inductive Status where
  | ok
  | okClamped
  | refused
  | badRequest
  deriving DecidableEq, Repr

/-- The refusal causes of a MANAGE-REPLY (R183). -/
inductive Cause where
  | mode
  | badValue
  | busy
  | directory
  | notFound
  | state
  | full
  | id
  | scope
  | overlap
  | planConflict
  | visit
  deriving DecidableEq, Repr

/-- The state of the loop bridge (R175). -/
inductive Bridge where
  | opened
  | closed
  deriving DecidableEq, Repr

/-- How far a Reset FULL has come (R190): `waiting n` while `n` frames of the reply queue, the OK reply the last of
them, have still to be taken; `sending` while the OK reply is on the line; `finished` when it has ended. -/
inductive FullReset where
  | idle
  | waiting (n : Nat)
  | sending
  | finished
  deriving DecidableEq, Repr

/-- A running timer: the floor milliseconds at its start and its length (00_scope.md, Time base). -/
structure Timer where
  start : Word32
  len : Nat
  deriving DecidableEq, Repr

/-- The Floor Clock (R1); `phase` is how many milliseconds of the running second have passed. -/
structure FloorClock where
  ms : Word32
  sec : Word32
  phase : Nat
  deriving DecidableEq, Repr

/-- The cabinet fields of a directory entry (R2). -/
structure CabNode where
  index : Nat
  group : Nat
  lead : Bool
  rating : Nat
  restoreLimit : Nat
  deriving DecidableEq, Repr

/-- The string fields of a directory entry (R2). -/
structure StrNode where
  index : Nat
  owner : Nat
  blocks : Nat
  capacity : Nat
  deriving DecidableEq, Repr

/-- The role of a directory entry with the fields of that role alone (R2). -/
inductive NodeRole where
  | cabinet (n : CabNode)
  | stringMonitor (n : StrNode)
  deriving DecidableEq, Repr

/-- An occupied Node Directory entry (R2). -/
structure DirEntry where
  addr : Nat
  interval : Nat
  missLimit : Nat
  role : NodeRole
  deriving DecidableEq, Repr

/-- A Cabinet Table record (R7); `watch` is `none` while the watch is stopped. -/
structure CabRec where
  reported : Option Mode
  load : Nat
  shareEcho : Nat
  inV : Nat
  outV : Nat
  temp : Int
  bypass : BypassStatus
  door : Door
  faultCode : Option Nat
  testRunning : Bool
  watch : Option Timer
  liveness : Liveness
  mismatch : Nat
  expected : Option Mode
  share : Nat
  testFlag : Bool
  addr : Nat
  group : Nat
  lead : Bool
  rating : Nat
  restoreLimit : Nat
  deriving DecidableEq, Repr

/-- An ageing record (R14, R69); `lastTeff` and `pendingSerial` are `none` while invalid or absent. -/
structure Ageing where
  base : TimeBase
  lastMs : Word32
  wCal : Nat
  rCal : Nat
  qThr : Nat
  bins : Vector Nat 4
  activity : Activity
  confirm : Nat
  charge : Nat
  eventIsTest : Bool
  soc : Nat
  recovery : Option Timer
  baseline : List Nat
  baselineState : BaselineState
  learnCount : Nat
  rises : List Nat
  worstRise : Nat
  cFrac : Nat
  yFrac : Nat
  rFrac : Nat
  life : Nat
  limiting : Limiting
  grade : Grade
  reserve : Nat
  gaps : Nat
  unrestored : Bool
  frozen : Bool
  pendingSerial : Option Word32
  lastTeff : Option Int
  deriving DecidableEq, Repr

/-- A String Table record (R13) with its ageing record (R14). -/
structure StrRec where
  volts : List Nat
  current : Int
  temps : List Int
  serial : Word32
  watch : Option Timer
  liveness : Liveness
  ageing : Ageing
  deriving DecidableEq, Repr

/-- One copy of the Ageing Parameter Set (R63). -/
structure AgeingParams where
  factors : Vector Nat 10
  designLife : Nat
  weights : Vector Nat 4
  rEol : Nat
  dTh : Nat
  dtLimit : Nat
  learningCycles : Nat
  trimStep : Nat
  recoveryTime : Nat
  t1 : Nat
  t2 : Nat
  t3 : Nat
  deriving DecidableEq, Repr

/-- The two copies of the Ageing Parameter Set (R63). -/
structure ParamSets where
  active : AgeingParams
  staged : AgeingParams
  deriving DecidableEq, Repr

/-- An occupied Limit Table entry (R31). -/
structure LimitEntry where
  measurement : Measurement
  subject : LimitSubject
  direction : Direction
  trip : Int
  clear : Int
  persistence : Nat
  code : Nat
  enabled : Bool
  deriving DecidableEq, Repr

/-- A limit record (R32). -/
structure LimitRec where
  count : Nat
  tripped : Bool
  deriving DecidableEq, Repr

/-- The state the Management Responder owns (R2, R16, R31). -/
structure Responder where
  mode : SupMode
  dir : Vector (Option DirEntry) 56
  limits : Vector (Option LimitEntry) 32
  deriving DecidableEq, Repr

/-- The state the Report Inspector owns beside the live fields: the limit state array, one list of records for each
limit entry in the order of the subjects it covers (R32), and the unexpected-node quiet timer (R24). -/
structure Inspector where
  records : Vector (List LimitRec) 32
  quiet : Option Timer
  deriving DecidableEq, Repr

/-- An Alarm Class Table entry (R45). -/
structure AlarmClass where
  level : Nat
  latching : Bool
  shelvable : Bool
  deriving DecidableEq, Repr

/-- An Alarm List entry (R47). -/
structure AlarmEntry where
  code : Nat
  subject : Subject
  level : Nat
  state : AlarmState
  firstRaised : Word32
  lastRaised : Word32
  count : Nat
  detail : Option Word32
  deriving DecidableEq, Repr

/-- The window of an Outstanding Order List entry (R117). -/
inductive WindowKind where
  | reply
  | completion
  deriving DecidableEq, Repr

/-- The state of an Outstanding Order List entry (R116). -/
inductive EntryState where
  | waiting
  | accepted
  | lapsed
  deriving DecidableEq, Repr

/-- An Outstanding Order List entry (R116). -/
structure OrderEntry where
  origin : Origin
  target : Nat
  seq : Byte
  kind : OrderKind
  value : Option Nat
  sentMs : Word32
  sends : Nat
  state : EntryState
  slot : Option Nat
  window : Option (WindowKind × Timer)
  deriving DecidableEq, Repr

/-- The state the Order Tracker owns (R116 to R118). -/
structure Tracker where
  orders : List OrderEntry
  siteExpiries : Nat
  unmatched : Nat
  deriving DecidableEq, Repr

/-- A Group Parameter Table entry (R123). -/
structure GroupParams where
  minInService : Nat
  capacityMargin : Nat
  reserveThreshold : Nat
  rampStep : Nat
  rampInterval : Nat
  matchTolerance : Nat
  matchWindow : Nat
  replyWindow : Nat
  completionWindow : Nat
  settleBypass : Nat
  settleMaint : Nat
  settleOutput : Nat
  settleIsolate : Nat
  mismatchAllowance : Nat
  deriving DecidableEq, Repr

/-- The current order of a plan (R125). -/
structure PlanOrder where
  kind : OrderKind
  target : Nat
  seq : Byte
  value : Option Nat
  deriving DecidableEq, Repr

/-- The ramp record of a plan (R125, R136); `window` is the match window. -/
structure Ramp where
  limit : Nat
  step : Nat
  interval : Nat
  lastStep : Option Word32
  timer : Option Timer
  window : Option Timer
  deriving DecidableEq, Repr

/-- A plan record (R125). `stepDone` says that the present step, or the present CHECK or ramp stage, counts as done
(R131, R135; log entry 23). -/
structure Plan where
  id : Nat
  kind : PlanKind
  group : Nat
  target : Option Nat
  state : PlanState
  stage : Option Stage
  step : Nat
  stepDone : Bool
  order : Option PlanOrder
  sends : Nat
  settle : Nat
  settleTimer : Option Timer
  ramp : Option Ramp
  haltCause : Option HaltCause
  haltDetail : Option Nat
  lateSinceHalt : Bool
  lateFlag : Bool
  deriving DecidableEq, Repr

/-- The state the Transfer Sequencer owns (R123, R125, R126). -/
structure Sequencer where
  plans : Vector (Option Plan) 4
  groups : Vector GroupParams 4
  nextPlan : Nat
  nextSeq : Byte
  deriving DecidableEq, Repr

/-- A visit record (R147). -/
structure Visit where
  id : Nat
  cabinets : List Nat
  strings : List Nat
  depth : Depth
  duration : Nat
  prepareLimit : Nat
  state : VisitState
  openedAt : Word32
  activeFrom : Option Word32
  closingFrom : Option Word32
  overstay : Bool
  closeLimitPassed : Bool
  prepareTimer : Option Timer
  durationTimer : Option Timer
  closeTimer : Option Timer
  deriving DecidableEq, Repr

/-- The state the Visit Register owns (R147, R160): the entries, and the Force Close list of cabinet and visit id. -/
structure VisitRegister where
  entries : Vector (Option Visit) 8
  forceClose : List (Nat × Nat)
  deriving DecidableEq, Repr

/-- The line settings of a port (R165). -/
structure LineSettings where
  bitRate : Nat
  guard : Nat
  waitLimit : Nat
  raiseLevel : Nat
  deriving DecidableEq, Repr

/-- The nine counters of a port (R173). -/
structure Counters where
  framesIn : Nat
  framesOut : Nat
  crcError : Nat
  truncated : Nat
  abandonedRx : Nat
  abandonedTx : Nat
  repetitions : Nat
  overrun : Nat
  droppedAddress : Nat
  deriving DecidableEq, Repr

/-- The result fields of a MANAGE-REPLY, by the names its request's rule gives (R183; log entry 4). -/
inductive Result where
  | none
  | identity (part level : Nat) (mode : SupMode) (sec ms : Word32) (nodes plans visits alarms : Nat)
  | nodeEntry (e : Option DirEntry)
  | params (p : AgeingParams) (equal : Bool)
  | cabinet (r : CabRec) (watchLeft reserve : Nat)
  | string (volts : List Nat) (current : Int) (temps : List Int) (serial : Word32) (watchLeft : Nat) (liveness : Liveness)
      (ageing : Ageing) (recoveryLeft : Option Nat)
  | blocks (bs : List (Nat × Nat × Nat))
  | ageingRecord (a : Ageing) (recoveryLeft : Option Nat)
  | ageingLists (bs : List (Nat × Nat))
  | alarmList (count lost : Nat) (entries : List (List Byte))
  | planId (id : Nat)
  | plan (p : Option Plan) (settleLeft intervalLeft matchLeft : Option Nat)
  | visitState (st : VisitState)
  | visitSummary (vs : List (Nat × VisitState))
  | visit (v : Visit) (prepareLeft durationLeft closeLeft : Option Nat) (forceClose : List (Nat × Nat))
  | portCounters (s f : Counters) (scoreS scoreF siteExpiries unmatched : Nat)
  deriving DecidableEq, Repr

/-- The payload of a MANAGE-REPLY by its named fields (R183): `code` is 0 when the request carried none, `cause` is
`none` for the code 0. -/
structure ManageReply where
  code : Nat
  status : Status
  cause : Option Cause
  detail : Option Nat
  result : Result
  deriving DecidableEq, Repr

/-- A frame after its header: payload bytes and CRC as they stand on the line (R177), or, for a MANAGE-REPLY the
supervisor builds, its named fields, from which its bytes and its CRC follow (`Frame.payload`, `Frame.crc`; log entry
4). -/
inductive Body where
  | wire (payload : List Byte) (crc : Word16)
  | manageReply (r : ManageReply)
  deriving DecidableEq, Repr

/-- A frame (R177). -/
structure Frame where
  dest : Byte
  src : Byte
  kind : FrameKind
  seq : Byte
  body : Body
  deriving DecidableEq, Repr

/-- The states of a receiver (R167). -/
inductive RxPhase where
  | waitIdle
  | idle
  | inFrame
  deriving DecidableEq, Repr

/-- A receiver (R166, R167): the characters of the frame taken so far, the bit times of idle line counted since the end
of the last character, the refusals of the present character, and the settings in force on the line. -/
structure Rx where
  phase : RxPhase
  taken : List Byte
  idleBits : Nat
  refusals : Nat
  settings : LineSettings
  deriving DecidableEq, Repr

/-- A frame being sent (R166, R172): the settings in force, the position of the character last refused and how many
times it has been refused. -/
structure Tx where
  frame : Frame
  settings : LineSettings
  char : Nat
  refusals : Nat
  deriving DecidableEq, Repr

/-- The state one Loop Port owns of both kinds (R165 to R174); `tx` is `none` while the transmitter is free. -/
structure PortState where
  settings : LineSettings
  rx : Rx
  tx : Option Tx
  inq : List Frame
  fwd : List Frame
  counters : Counters
  score : Nat
  sound : Nat
  deriving DecidableEq, Repr

/-- The state the Alarm Unit owns (R45, R47, R51, R59, R60). -/
structure AlarmUnit where
  list : List AlarmEntry
  classes : Vector AlarmClass 52
  notices : List Frame
  lost : Nat
  dropped : Nat
  number : Byte
  deriving DecidableEq, Repr

/-- What the Inspector hands the Visit Register (R42). -/
structure VisitHand where
  cabinet : Nat
  mode : Mode
  door : Door
  deriving DecidableEq, Repr

/-- What the Inspector hands the Ageing Engine (R43); an empty `resistances` is "no resistance list" (R30). -/
structure AgeingHand where
  string : Nat
  now : Word32
  current : Int
  temps : List Int
  serial : Word32
  resistances : List (Nat × Nat)
  deriving DecidableEq, Repr

/-- The hand-offs the Inspector has made and the receiving blocks have not yet taken, oldest first (R42, R43; log
entry 5). -/
structure HandOffs where
  visit : List VisitHand
  ageing : List AgeingHand
  ramp : List Nat
  deriving DecidableEq, Repr

/-- A frame of the Port F priority queue with the plan slot it belongs to (R170). -/
structure PrioFrame where
  slot : Nat
  frame : Frame
  deriving DecidableEq, Repr

end Sys2Proof.Machine
end

