-- ==== Sys2Proof/Machine/Arith.lean ====
section
/-! DEFINITION. Saturation, clamping, timers, byte order, parity and the CRC: the arithmetic the rules share. -/

namespace Sys2Proof.Machine

/-- Saturating addition: the sum, stopped at `top` (00_scope.md, Integer arithmetic). -/
def satAdd (top a b : Nat) : Nat := min top (a + b)

/-- A value clamped to the range `lo` to `hi` (00_scope.md, Integer arithmetic). -/
def clamp (lo hi v : Nat) : Nat := max lo (min hi v)

/-- A value carried for a field with a range: what is stored, and whether it was clamped (R64, R184). -/
def clamped (lo hi v : Nat) : Nat × Bool := (clamp lo hi v, clamp lo hi v != v)

/-- The values a trim step or ramp step may have (R63, R123). -/
def stepSet (v : Nat) : Bool := v == 10 || v == 20 || v == 40 || v == 80

/-- A signed value clamped to the range `lo` to `hi` (00_scope.md, Integer arithmetic). -/
def clampInt (lo hi v : Int) : Int := max lo (min hi v)

/-- The invalid temperature (00_scope.md, Units). -/
def invalidTemp : Int := -32768

/-- The block voltage "not measured" (00_scope.md, Units). -/
def notMeasured : Nat := 65535

/-- The greatest value of a 40-bit accumulator (R14). -/
def max40 : Nat := 2 ^ 40 - 1

/-- The greatest value of a 32-bit accumulator (R14). -/
def max32 : Nat := 2 ^ 32 - 1

/-- A duration in floor milliseconds: the difference of two values modulo 2^32 (00_scope.md, Time base). -/
def elapsed (now start : Word32) : Nat := (now - start).toNat

/-- A timer started now. -/
def Timer.begin (now : Word32) (len : Nat) : Timer := ⟨now, len⟩

/-- The time left on a running timer (R26, R145, R162). -/
def Timer.left (t : Timer) (now : Word32) : Nat := t.len - elapsed now t.start

/-- A timer's length has passed, so that its expiry may come (00_scope.md, Time base). -/
def Timer.due (t : Timer) (now : Word32) : Bool := decide (t.len ≤ elapsed now t.start)

/-- A timer that may be stopped is running and its length has passed. -/
def timerDue (t : Option Timer) (now : Word32) : Bool := t.any (·.due now)

/-- The time left on a timer, 0 while it is stopped. -/
def timerLeft (t : Option Timer) (now : Word32) : Nat := (t.map (·.left now)).getD 0

/-- The byte at position `i` of a payload, 0 beyond its end. -/
def byteAt (p : List Byte) (i : Nat) : Nat := (p.getD i 0).toNat

/-- The two-byte field at position `i`, most significant byte first (00_scope.md, Byte order). -/
def be16 (p : List Byte) (i : Nat) : Nat := byteAt p i * 256 + byteAt p (i + 1)

/-- The four-byte field at position `i`, most significant byte first (00_scope.md, Byte order). -/
def be32 (p : List Byte) (i : Nat) : Nat := be16 p i * 65536 + be16 p (i + 2)

/-- A 16-bit field read in two's complement (R177). -/
def signed16 (n : Nat) : Int := if n < 32768 then (n : Int) else (n : Int) - 65536

/-- One byte of a number. -/
def byteOf (n : Nat) : Byte := BitVec.ofNat 8 n

/-- A number in two bytes, most significant byte first (00_scope.md, Byte order). -/
def bytes16 (n : Nat) : List Byte := [byteOf (n / 256), byteOf n]

/-- A 32-bit word in four bytes, most significant byte first (00_scope.md, Byte order). -/
def bytes32 (w : Word32) : List Byte :=
  [w.extractLsb' 24 8, w.extractLsb' 16 8, w.extractLsb' 8 8, w.extractLsb' 0 8]

/-- A flag byte: the supervisor writes 1 for a set flag (R178). -/
def flagByte (b : Bool) : Byte := if b then 1 else 0

/-- The number of ones among the data bits of a character (R165). -/
def onesCount (b : Byte) : Nat := (List.range 8).countP (fun i => b.getLsbD i)

/-- A received character is faulty: its parity is wrong, or its stop bit is not found (R165, R166). -/
def charFaulty (data : Byte) (parity stop : Bool) : Bool :=
  !stop || (onesCount data + parity.toNat) % 2 != 0

/-- One bit shifted into the CRC register of x^16 + x^12 + x^5 + 1 (R177). -/
def crcBit (r : Word16) : Word16 := if r.msb then (r <<< 1) ^^^ 0x1021#16 else r <<< 1

/-- One byte shifted into the CRC register, most significant bit first (R177). -/
def crcByte (r : Word16) (b : Byte) : Word16 :=
  Nat.repeat crcBit 8 (r ^^^ (b.zeroExtend 16 <<< 8))

/-- The CRC of a run of bytes: the register starts at all ones and is not inverted at the end (R177). -/
def crc16 (bs : List Byte) : Word16 := bs.foldl crcByte 0xFFFF#16

end Sys2Proof.Machine
end

