-- ==== Sys2Proof/Machine/Defaults.lean ====
section
/-! DEFINITION. The values the tables hold after power-on, the reset line and Reset FULL (R45, R63, R104, R123, R165). -/

namespace Sys2Proof.Machine

/-- The default Ageing Parameter Set (R63). -/
def defaultAgeing : AgeingParams where
  factors := #v[64, 64, 96, 160, 256, 512, 1024, 2048, 4096, 8192]
  designLife := 3650
  weights := #v[100, 400, 1000, 2500]
  rEol := 500
  dTh := 20
  dtLimit := 300
  learningCycles := 4
  trimStep := 20
  recoveryTime := 480
  t1 := 500
  t2 := 800
  t3 := 950

/-- The default Group Parameter Table entry (R123). -/
def defaultGroup : GroupParams where
  minInService := 1
  capacityMargin := 900
  reserveThreshold := 500
  rampStep := 20
  rampInterval := 1000
  matchTolerance := 20
  matchWindow := 15000
  replyWindow := 500
  completionWindow := 30000
  settleBypass := 2000
  settleMaint := 5000
  settleOutput := 1000
  settleIsolate := 1000
  mismatchAllowance := 3

/-- The place of an alarm code in the Alarm Class Table: codes 1 to 20, then 32 to 63 (R45). -/
def classIndex (code : Nat) : Option Nat :=
  if 1 ≤ code ∧ code ≤ 20 then some (code - 1)
  else if 32 ≤ code ∧ code ≤ 63 then some (code - 12)
  else none

/-- The alarm code at a place of the Alarm Class Table (R45). -/
def classCode (i : Nat) : Nat := if i < 20 then i + 1 else i + 12

/-- The default class of an alarm code (R45). -/
def defaultClass (code : Nat) : AlarmClass :=
  if code ∈ [7, 10] then ⟨3, true, false⟩
  else if code ∈ [4, 16] then ⟨3, true, true⟩
  else if code ∈ [1, 2, 3, 5, 8, 9, 12] then ⟨2, true, true⟩
  else if code = 11 then ⟨1, false, false⟩
  else ⟨1, false, true⟩

/-- The default Alarm Class Table (R45). -/
def defaultClasses : Vector AlarmClass 52 := (Vector.range 52).map (fun i => defaultClass (classCode i))

/-- The place of an order kind in the Order Gate Table, in the order of R178. -/
def OrderKind.index : OrderKind → Fin 13
  | .deisolate => 0
  | .isolate => 1
  | .outputClose => 2
  | .outputOpen => 3
  | .goBypass => 4
  | .goInverter => 5
  | .maintClose => 6
  | .maintOpen => 7
  | .setShare => 8
  | .batteryTestStart => 9
  | .batteryTestStop => 10
  | .alarmSilence => 11
  | .readDetail => 12

/-- The default Order Gate Table (R104), in the order of `OrderKind.index`. -/
def defaultGate : Vector GateClass 13 :=
  #v[.interlocked, .supervisorOnly, .interlocked, .supervisorOnly, .supervisorOnly, .supervisorOnly,
     .supervisorOnly, .supervisorOnly, .interlocked, .interlocked, .forward, .forward, .forward]

/-- The default line settings (R165). -/
def defaultLine : LineSettings := ⟨115200, 1, 8, 16⟩

/-- Counters at 0 (R173). -/
def zeroCounters : Counters := ⟨0, 0, 0, 0, 0, 0, 0, 0, 0⟩

/-- A receiver beginning to wait for idle under the settings it takes then, its idle count at `idle` (R165, R167). -/
def rxWaitIdle (st : LineSettings) (idle : Nat) : Rx := ⟨.waitIdle, [], idle, 0, st⟩

/-- A Loop Port after a full reset (R165, R173 to R175). -/
def resetPort : PortState := ⟨defaultLine, rxWaitIdle defaultLine 0, none, [], [], zeroCounters, 0, 0⟩

/-- The ageing record a Start Supervision gives a string of `n` blocks (R14). DESIGN CHOICE (log entry 35): the number of
last update ms, which is invalid while the base is FRESH, is 0. -/
def startAgeing (n : Nat) : Ageing where
  base := .fresh
  lastMs := 0
  wCal := 0
  rCal := 0
  qThr := 0
  bins := #v[0, 0, 0, 0]
  activity := .float
  confirm := 0
  charge := 0
  eventIsTest := false
  soc := 1000
  recovery := none
  baseline := List.replicate n 0
  baselineState := .learning
  learnCount := 0
  rises := List.replicate n 0
  worstRise := 0
  cFrac := 0
  yFrac := 0
  rFrac := 0
  life := 0
  limiting := .calendar
  grade := .good
  reserve := 1000
  gaps := 0
  unrestored := true
  frozen := false
  pendingSerial := none
  lastTeff := none

/-- The length of a node's watch: report interval × miss limit (R26). -/
def DirEntry.watchLen (e : DirEntry) : Nat := e.interval * e.missLimit

/-- The Cabinet Table record Start Supervision creates for a cabinet entry (R7, R18). -/
def startCabinet (now : Word32) (e : DirEntry) (n : CabNode) : CabRec where
  reported := none
  load := 0
  shareEcho := 1000
  inV := 0
  outV := 0
  temp := invalidTemp
  bypass := .absent
  door := .closed
  faultCode := none
  testRunning := false
  watch := some (.begin now e.watchLen)
  liveness := .neverSeen
  mismatch := 0
  expected := none
  share := 1000
  testFlag := false
  addr := e.addr
  group := n.group
  lead := n.lead
  rating := n.rating
  restoreLimit := n.restoreLimit

/-- The String Table record Start Supervision creates for a string-monitor entry (R13, R14, R18). -/
def startString (now : Word32) (e : DirEntry) (n : StrNode) : StrRec where
  volts := List.replicate n.blocks notMeasured
  current := 0
  temps := []
  serial := 0
  watch := some (.begin now e.watchLen)
  liveness := .neverSeen
  ageing := startAgeing n.blocks

end Sys2Proof.Machine
end

