-- ==== Sys2Proof/Machine/State.lean ====
section
/-! DEFINITION. The state of the part, grouped by the block that owns it (00_scope.md, Block overview), the outcomes that
are no next state, the state after reset, and one named update for each field. -/

namespace Sys2Proof.Machine

/-- The part has no fault state: a bad frame is dropped and counted (R168), a bad order or request is answered (R108,
R183). No command raises a fault, so there is no constructor. -/
inductive Fault where
  deriving DecidableEq, Repr

/-- Why a command has no meaning. -/
inductive Refusal where
  /-- Raised by `exec` for a command that is not modelled yet, named by its mnemonic; safe. No arm raises it. -/
  | notModelled (mnemonic : String)
  deriving DecidableEq, Repr

/-- The state of the part. -/
structure State where
  /-- The commands that wait, the front first (the model's own field; log entry 1). -/
  pending : List Instr
  /-- The reset line is held (R175). -/
  resetLine : Bool
  /-- The loop bridge (R175). -/
  bridge : Bridge
  /-- How far a Reset FULL has come (R190). -/
  fullReset : FullReset
  /-- The Floor Clock (R1). -/
  clock : FloorClock
  /-- Supervision mode, Node Directory and Limit Table (R2, R16, R31). -/
  resp : Responder
  /-- Limit state array and unexpected-node quiet timer (R24, R32). -/
  insp : Inspector
  /-- The Cabinet Table (R7). -/
  cabs : Vector (Option CabRec) 24
  /-- The String Table with the ageing records (R13, R14). -/
  strs : Vector (Option StrRec) 32
  /-- The Ageing Parameter Set, ACTIVE and STAGED (R63). -/
  params : ParamSets
  /-- Alarm List, Alarm Class Table, Notice Queue and their counts (R45 to R62). -/
  alarm : AlarmUnit
  /-- The Order Gate Table (R104). -/
  gate : Vector GateClass 13
  /-- Outstanding Order List and its two counts (R116 to R118). -/
  tracker : Tracker
  /-- Plan Table, Group Parameter Table and their counters (R123, R125, R126). -/
  seq : Sequencer
  /-- Visit Register and Force Close list (R147, R160). -/
  visits : VisitRegister
  /-- Port S (R165 to R174). -/
  portS : PortState
  /-- Port F (R165 to R174). -/
  portF : PortState
  /-- The Port F priority queue (R170). -/
  prio : List PrioFrame
  /-- The Port S reply queue (R170). -/
  replyQ : List Frame
  /-- The forward run count of Port S (R171). -/
  fwdRun : Nat
  /-- The hand-offs not yet taken (R42, R43). -/
  hand : HandOffs
  deriving DecidableEq, Repr

/-- The part after power-on, the reset line and Reset FULL: the table of R190 with the values of R1, R16, R20 and R175. -/
def State.reset : State where
  pending := []
  resetLine := false
  bridge := .opened
  fullReset := .idle
  clock := ⟨0, 0, 0⟩
  resp := ⟨.unconfigured, Vector.replicate 56 none, Vector.replicate 32 none⟩
  insp := ⟨Vector.replicate 32 [], none⟩
  cabs := Vector.replicate 24 none
  strs := Vector.replicate 32 none
  params := ⟨defaultAgeing, defaultAgeing⟩
  alarm := ⟨[], defaultClasses, [], 0, 0, 0⟩
  gate := defaultGate
  tracker := ⟨[], 0, 0⟩
  seq := ⟨Vector.replicate 4 none, Vector.replicate 4 defaultGroup, 1, 0⟩
  visits := ⟨Vector.replicate 8 none, []⟩
  portS := resetPort
  portF := resetPort
  prio := []
  replyQ := []
  fwdRun := 0
  hand := ⟨[], [], []⟩

/-- `s` with `pending` replaced. -/
def State.withPending (s : State) (x : List Instr) : State := { s with pending := x }

/-- `s` with `resetLine` replaced. -/
def State.withResetLine (s : State) (x : Bool) : State := { s with resetLine := x }

/-- `s` with `bridge` replaced. -/
def State.withBridge (s : State) (x : Bridge) : State := { s with bridge := x }

/-- `s` with `fullReset` replaced. -/
def State.withFullReset (s : State) (x : FullReset) : State := { s with fullReset := x }

/-- `s` with `clock` replaced. -/
def State.withClock (s : State) (x : FloorClock) : State := { s with clock := x }

/-- `s` with `resp` replaced. -/
def State.withResp (s : State) (x : Responder) : State := { s with resp := x }

/-- `s` with `insp` replaced. -/
def State.withInsp (s : State) (x : Inspector) : State := { s with insp := x }

/-- `s` with `cabs` replaced. -/
def State.withCabs (s : State) (x : Vector (Option CabRec) 24) : State := { s with cabs := x }

/-- `s` with `strs` replaced. -/
def State.withStrs (s : State) (x : Vector (Option StrRec) 32) : State := { s with strs := x }

/-- `s` with `params` replaced. -/
def State.withParams (s : State) (x : ParamSets) : State := { s with params := x }

/-- `s` with `alarm` replaced. -/
def State.withAlarm (s : State) (x : AlarmUnit) : State := { s with alarm := x }

/-- `s` with `gate` replaced. -/
def State.withGate (s : State) (x : Vector GateClass 13) : State := { s with gate := x }

/-- `s` with `tracker` replaced. -/
def State.withTracker (s : State) (x : Tracker) : State := { s with tracker := x }

/-- `s` with `seq` replaced. -/
def State.withSeq (s : State) (x : Sequencer) : State := { s with seq := x }

/-- `s` with `visits` replaced. -/
def State.withVisits (s : State) (x : VisitRegister) : State := { s with visits := x }

/-- `s` with `portS` replaced. -/
def State.withPortS (s : State) (x : PortState) : State := { s with portS := x }

/-- `s` with `portF` replaced. -/
def State.withPortF (s : State) (x : PortState) : State := { s with portF := x }

/-- `s` with `prio` replaced. -/
def State.withPrio (s : State) (x : List PrioFrame) : State := { s with prio := x }

/-- `s` with `replyQ` replaced. -/
def State.withReplyQ (s : State) (x : List Frame) : State := { s with replyQ := x }

/-- `s` with `fwdRun` replaced. -/
def State.withFwdRun (s : State) (x : Nat) : State := { s with fwdRun := x }

/-- `s` with `hand` replaced. -/
def State.withHand (s : State) (x : HandOffs) : State := { s with hand := x }

end Sys2Proof.Machine
end

