-- ==== Sys2Proof/Machine/Operands.lean ====
section
/-! DEFINITION. The operand forms: the codes of the enumerated fields (R177, R178, R183, R188), the subject and detail
packings (R178, R181, R188), the layouts of report, order and reply payloads (R179, R180), and the frames the
supervisor builds (R177). -/

namespace Sys2Proof.Machine

/-- The code of a cabinet mode (R178). -/
def Mode.toCode : Mode → Nat
  | .isolated => 1
  | .standby => 2
  | .online => 3
  | .onBattery => 4
  | .staticBypass => 5
  | .maintBypass => 6
  | .fault => 7

/-- The cabinet mode a code stands for (R178). -/
def Mode.ofCode : Nat → Option Mode
  | 1 => some .isolated
  | 2 => some .standby
  | 3 => some .online
  | 4 => some .onBattery
  | 5 => some .staticBypass
  | 6 => some .maintBypass
  | 7 => some .fault
  | _ => none

/-- The code of a bypass source status (R178). -/
def BypassStatus.toCode : BypassStatus → Nat
  | .good => 1
  | .poor => 2
  | .absent => 3

/-- The bypass source status a code stands for (R178). -/
def BypassStatus.ofCode : Nat → Option BypassStatus
  | 1 => some .good
  | 2 => some .poor
  | 3 => some .absent
  | _ => none

/-- The code of a door (R178). -/
def Door.toCode : Door → Nat
  | .closed => 0
  | .opened => 1

/-- The door a code stands for (R178). -/
def Door.ofCode : Nat → Option Door
  | 0 => some .closed
  | 1 => some .opened
  | _ => none

/-- The code of a order kind (R178). -/
def OrderKind.toCode : OrderKind → Nat
  | .deisolate => 1
  | .isolate => 2
  | .outputClose => 3
  | .outputOpen => 4
  | .goBypass => 5
  | .goInverter => 6
  | .maintClose => 7
  | .maintOpen => 8
  | .setShare => 9
  | .batteryTestStart => 10
  | .batteryTestStop => 11
  | .alarmSilence => 12
  | .readDetail => 13

/-- The order kind a code stands for (R178). -/
def OrderKind.ofCode : Nat → Option OrderKind
  | 1 => some .deisolate
  | 2 => some .isolate
  | 3 => some .outputClose
  | 4 => some .outputOpen
  | 5 => some .goBypass
  | 6 => some .goInverter
  | 7 => some .maintClose
  | 8 => some .maintOpen
  | 9 => some .setShare
  | 10 => some .batteryTestStart
  | 11 => some .batteryTestStop
  | 12 => some .alarmSilence
  | 13 => some .readDetail
  | _ => none

/-- The code of a reply answer of a cabinet (R178). -/
def ReplyKind.toCode : ReplyKind → Nat
  | .accepted => 1
  | .done => 2
  | .rejected => 3

/-- The reply answer of a cabinet a code stands for (R178). -/
def ReplyKind.ofCode : Nat → Option ReplyKind
  | 1 => some .accepted
  | 2 => some .done
  | 3 => some .rejected
  | _ => none

/-- The code of a reply answer of the supervisor (R178). -/
def GateAnswer.toCode : GateAnswer → Nat
  | .held => 4
  | .refused => 5

/-- The code of a gate cause (R178). -/
def GateCause.toCode : GateCause → Nat
  | .form => 1
  | .broadcast => 2
  | .notConfigured => 3
  | .sequenceInUse => 4
  | .usePlan => 5
  | .visit => 6
  | .repeatLimit => 7
  | .planBusy => 8
  | .silent => 9
  | .capacity => 10
  | .state => 11
  | .busy => 12
  | .bypass => 13
  | .reserve => 14
  | .trackingFull => 15

/-- The code of a frame kind (R177). -/
def FrameKind.toCode : FrameKind → Nat
  | .report => 1
  | .order => 2
  | .reply => 3
  | .notice => 4
  | .manage => 5
  | .manageReply => 6

/-- The frame kind a code stands for (R177). -/
def FrameKind.ofCode : Nat → Option FrameKind
  | 1 => some .report
  | 2 => some .order
  | 3 => some .reply
  | 4 => some .notice
  | 5 => some .manage
  | 6 => some .manageReply
  | _ => none

/-- The code of a notice kind (R178). -/
def NoticeKind.toCode : NoticeKind → Nat
  | .alarmRaised => 1
  | .alarmCleared => 2
  | .alarmUnshelved => 3
  | .planStage => 4
  | .planHalted => 5
  | .planDone => 6
  | .visitState => 7
  | .stringGrade => 8
  | .stringReplaced => 9
  | .stringSwapPending => 10
  | .supervisionState => 11

/-- The code of a clear outcome (R178). -/
def ClearOutcome.toCode : ClearOutcome → Nat
  | .cleared => 1
  | .removed => 2

/-- The code of a plan kind (R178). -/
def PlanKind.toCode : PlanKind → Nat
  | .withdraw => 1
  | .restore => 2
  | .groupToMaint => 3
  | .groupFromMaint => 4

/-- The plan kind a code stands for (R178). -/
def PlanKind.ofCode : Nat → Option PlanKind
  | 1 => some .withdraw
  | 2 => some .restore
  | 3 => some .groupToMaint
  | 4 => some .groupFromMaint
  | _ => none

/-- The code of a plan stage (R178). -/
def Stage.toCode : Stage → Nat
  | .check => 1
  | .rampDown => 2
  | .openOut => 3
  | .isolate => 4
  | .deisolate => 5
  | .close => 6
  | .rampUp => 7
  | .toStatic => 8
  | .maintClose => 9
  | .openAll => 10
  | .isolateAll => 11
  | .deisolateAll => 12
  | .closeAll => 13
  | .maintOpen => 14
  | .toInverter => 15

/-- The code of a halt cause (R178). -/
def HaltCause.toCode : HaltCause → Nat
  | .silent => 1
  | .bypass => 2
  | .capacity => 3
  | .noReply => 4
  | .noCompletion => 5
  | .rejected => 6
  | .noMatch => 7
  | .reset => 8

/-- The code of a visit state (R178). -/
def VisitState.toCode : VisitState → Nat
  | .preparing => 1
  | .active => 2
  | .closing => 3
  | .closed => 4
  | .cancelled => 5

/-- The code of a visit depth (R178). -/
def Depth.toCode : Depth → Nat
  | .doorOnly => 1
  | .bypass => 2
  | .isolation => 3

/-- The visit depth a code stands for (R178). -/
def Depth.ofCode : Nat → Option Depth
  | 1 => some .doorOnly
  | 2 => some .bypass
  | 3 => some .isolation
  | _ => none

/-- The code of a grade (R178). -/
def Grade.toCode : Grade → Nat
  | .good => 0
  | .fair => 1
  | .poor => 2
  | .replace => 3

/-- The code of a limiting factor (R178). -/
def Limiting.toCode : Limiting → Nat
  | .calendar => 1
  | .cycles => 2
  | .resistance => 3

/-- The code of a supervision mode (R178). -/
def SupMode.toCode : SupMode → Nat
  | .unconfigured => 0
  | .supervising => 1

/-- The code of a string configuration cause (R178). -/
def StringConfigCause.toCode : StringConfigCause → Nat
  | .form => 1
  | .length => 2
  | .blocks => 3

/-- The code of a baseline state (R178). -/
def BaselineState.toCode : BaselineState → Nat
  | .learning => 0
  | .learned => 1

/-- The baseline state a code stands for (R178). -/
def BaselineState.ofCode : Nat → Option BaselineState
  | 0 => some .learning
  | 1 => some .learned
  | _ => none

/-- The code of a limit measurement (R178). -/
def Measurement.toCode : Measurement → Nat
  | .cabLoad => 1
  | .cabInV => 2
  | .cabOutV => 3
  | .cabTemp => 4
  | .blockVMin => 5
  | .blockVMax => 6
  | .blockVSpread => 7
  | .stringTemp => 8

/-- The limit measurement a code stands for (R178). -/
def Measurement.ofCode : Nat → Option Measurement
  | 1 => some .cabLoad
  | 2 => some .cabInV
  | 3 => some .cabOutV
  | 4 => some .cabTemp
  | 5 => some .blockVMin
  | 6 => some .blockVMax
  | 7 => some .blockVSpread
  | 8 => some .stringTemp
  | _ => none

/-- The code of a limit direction (R178). -/
def Direction.toCode : Direction → Nat
  | .high => 1
  | .low => 2

/-- The limit direction a code stands for (R178). -/
def Direction.ofCode : Nat → Option Direction
  | 1 => some .high
  | 2 => some .low
  | _ => none

/-- The code of a gate class (R178). -/
def GateClass.toCode : GateClass → Nat
  | .forward => 1
  | .interlocked => 2
  | .supervisorOnly => 3

/-- The gate class a code stands for (R178). -/
def GateClass.ofCode : Nat → Option GateClass
  | 1 => some .forward
  | 2 => some .interlocked
  | 3 => some .supervisorOnly
  | _ => none

/-- The code of a MANAGE-REPLY status (R183). -/
def Status.toCode : Status → Nat
  | .ok => 1
  | .okClamped => 2
  | .refused => 3
  | .badRequest => 4

/-- The code of a refusal cause (R183). -/
def Cause.toCode : Cause → Nat
  | .mode => 1
  | .badValue => 2
  | .busy => 3
  | .directory => 4
  | .notFound => 5
  | .state => 6
  | .full => 7
  | .id => 8
  | .scope => 9
  | .overlap => 10
  | .planConflict => 11
  | .visit => 12

/-- The code of a alarm state in Read Alarm List (R188). -/
def AlarmState.toCode : AlarmState → Nat
  | .active => 0
  | .acknowledged => 1
  | .shelved => 2
  | .cleared => 3

/-- The code of a node role (R178). -/
def NodeRole.toCode : NodeRole → Nat
  | .cabinet _ => 1
  | .stringMonitor _ => 2

/-- The code of a liveness (R178). -/
def Liveness.toCode : Liveness → Nat
  | .neverSeen => 0
  | .live => 1
  | .silent => 2

/-- The code of a time base (R178). -/
def TimeBase.toCode : TimeBase → Nat
  | .fresh => 0
  | .valid => 1
  | .broken => 2

/-- The code of an activity state (R178). -/
def Activity.toCode : Activity → Nat
  | .float => 0
  | .discharge => 1
  | .recharge => 2

/-- The code of a plan state (R178). -/
def PlanState.toCode : PlanState → Nat
  | .checking => 1
  | .issued => 2
  | .settling => 3
  | .ramping => 4
  | .halted => 5

/-- The code of a port (R178). -/
def portCode : Port → Nat
  | .s => 0
  | .f => 1

/-- The port a code stands for (R178). -/
def portOfCode : Nat → Option Port
  | 0 => some .s
  | 1 => some .f
  | _ => none

/-- The code of a reported or expected mode, 0 for NOT_REPORTED and UNKNOWN (R178). -/
def modeCode (m : Option Mode) : Nat := (m.map Mode.toCode).getD 0

/-- The limit subject a field stands for: 255 is ALL (R178). -/
def limitSubjectOfCode (n : Nat) : LimitSubject := if n = 255 then .all else .one n

/-- The subject number of Read Alarm List, which is also the order of subjects in read order (R56, R188). -/
def Subject.number : Subject → Nat
  | .cabinet c => c
  | .string i => 24 + i
  | .group g => 56 + g
  | .port .s => 60
  | .port .f => 61
  | .supervisor => 62

/-- The two bytes of a subject: its kind, then its index (R178). -/
def Subject.bytes : Subject → List Byte
  | .cabinet c => [1, byteOf c]
  | .string i => [2, byteOf i]
  | .group g => [3, byteOf g]
  | .port p => [4, byteOf (portCode p)]
  | .supervisor => [5, 0]

/-- The subject that a subject kind and index stand for, within the ranges of R44 (R53, R178). -/
def subjectOfFields (kind index : Nat) : Option Subject :=
  match kind with
  | 1 => if index < 24 then some (.cabinet index) else none
  | 2 => if index < 32 then some (.string index) else none
  | 3 => if index < 4 then some (.group index) else none
  | 4 => (portOfCode index).map .port
  | 5 => if index = 0 then some .supervisor else none
  | _ => none

/-- A detail that is a number, right-aligned (R44, R181). -/
def detailNat (n : Nat) : Word32 := BitVec.ofNat 32 n

/-- A detail that is a signed value, in two's complement over the 32 bits (R44, R181). -/
def detailInt (i : Int) : Word32 := BitVec.ofInt 32 i

/-- The detail of MODE_MISMATCH: reported mode, expected mode, share limit echo (R181). -/
def detailMismatch (reported expected : Option Mode) (echo : Nat) : Word32 :=
  detailNat (modeCode reported * 2 ^ 24 + modeCode expected * 2 ^ 16 + echo)

/-- The detail of STRING_CONFIG_MISMATCH: cause and declared block count (R181). -/
def detailStringConfig (c : StringConfigCause) (blocks : Nat) : Word32 :=
  detailNat (c.toCode * 2 ^ 24 + blocks)

/-- The five header bytes of a frame with a payload of `n` bytes (R177). -/
def headerBytes (dest src : Byte) (k : FrameKind) (seq : Byte) (n : Nat) : List Byte :=
  [dest, src, byteOf k.toCode, seq, byteOf n]

/-- A frame with its payload bytes and the CRC computed over header and payload (R177). -/
def wireFrame (dest src : Byte) (k : FrameKind) (seq : Byte) (payload : List Byte) : Frame :=
  ⟨dest, src, k, seq, .wire payload (crc16 (headerBytes dest src k seq payload.length ++ payload))⟩

/-- A frame the supervisor builds: its source is 240 (R177). -/
def builtFrame (dest : Nat) (k : FrameKind) (seq : Byte) (payload : List Byte) : Frame :=
  wireFrame (byteOf dest) (byteOf Config.supervisorAddr) k seq payload

/-- A MANAGE-REPLY frame: destination 0, source 240, the request's sequence (R183). -/
def manageReplyFrame (seq : Byte) (r : ManageReply) : Frame :=
  ⟨byteOf Config.siteAddr, byteOf Config.supervisorAddr, .manageReply, seq, .manageReply r⟩

/-- The greatest payload length (R167, R177). -/
def maxPayload : Nat := 128

/-- The bytes at most of a field whose width the spec does not give, in a reply of parts: what its other bytes leave of 128,
so that 8 alarm entries, or 16 blocks, fit (R188; log entry 4). -/
def openWidth : Nat := 5

/-! The result fields of a MANAGE-REPLY, each under its number in the reply, in the order in which its rule names them. An
optional field that is absent leaves nothing in its place (00_scope.md, Optional fields). -/

/-- A field of a MANAGE-REPLY as its payload carries it: one byte for an enumerated field or a flag (R178); for another field
its number in the reply and its value, whose width the spec does not give (log entry 4). -/
inductive ReplyField where
  | byte (b : Byte)
  | free (field : Nat) (value : List Int)
  deriving DecidableEq, Repr

/-- An enumerated field by its code (R178). -/
def codeField (code : Nat) : ReplyField := .byte (byteOf code)

/-- A flag (R178). -/
def flagField (b : Bool) : ReplyField := .byte (flagByte b)

/-- A number. -/
def numField (field n : Nat) : ReplyField := .free field [n]

/-- A list of numbers. -/
def listField (field : Nat) (l : List Nat) : ReplyField := .free field (l.map Int.ofNat)

/-- An optional number. -/
def optField (field : Nat) (n : Option Nat) : List ReplyField := (n.map (numField field)).toList

/-- A timer: nothing while it is stopped. -/
def timerField (field : Nat) (t : Option Timer) : List ReplyField :=
  (t.map (fun x => ReplyField.free field [x.start.toNat, x.len])).toList

/-- The fields of a directory entry (R2); an empty one is marked (R4) in a way the spec does not give. -/
def nodeEntryReply : Option DirEntry → List ReplyField
  | none => [.free 0 []]
  | some e =>
    [numField 1 e.addr, codeField e.role.toCode, numField 2 e.interval, numField 3 e.missLimit] ++
      (match e.role with
      | .cabinet n =>
        [numField 4 n.index, numField 5 n.group, flagField n.lead, numField 6 n.rating, numField 7 n.restoreLimit]
      | .stringMonitor n => [numField 8 n.index, numField 9 n.owner, numField 10 n.blocks, numField 11 n.capacity])

/-- The fields of a copy of the Ageing Parameter Set, then the equality flag (R63, R66). -/
def paramsReply (p : AgeingParams) (equal : Bool) : List ReplyField :=
  [listField 1 p.factors.toList, numField 2 p.designLife, listField 3 p.weights.toList, numField 4 p.rEol, numField 5 p.dTh,
    numField 6 p.dtLimit, numField 7 p.learningCycles, numField 8 p.trimStep, numField 9 p.recoveryTime, numField 10 p.t1,
    numField 11 p.t2, numField 12 p.t3, flagField equal]

/-- The fields of a Cabinet Table record with the time left on its watch, its fixed copies, then the cabinet reserve (R7, R15,
R21). -/
def cabinetReply (r : CabRec) (watchLeft reserve : Nat) : List ReplyField :=
  [codeField (modeCode r.reported), numField 1 r.load, numField 2 r.shareEcho, numField 3 r.inV, numField 4 r.outV,
      .free 5 [r.temp], codeField r.bypass.toCode, codeField r.door.toCode] ++ optField 6 r.faultCode ++
    [flagField r.testRunning, numField 7 watchLeft, codeField r.liveness.toCode, numField 8 r.mismatch,
      codeField (modeCode r.expected), numField 9 r.share, flagField r.testFlag, numField 10 r.addr, numField 11 r.group,
      flagField r.lead, numField 12 r.rating, numField 13 r.restoreLimit, numField 14 reserve]

/-- The fields of an ageing record, with its baseline and rise lists or without them, and the time left on a running recovery
timer (R14, R69, R188). -/
def ageingReply (lists : Bool) (a : Ageing) (recoveryLeft : Option Nat) : List ReplyField :=
  [numField 101 a.lastMs.toNat, codeField a.base.toCode, numField 102 a.wCal, numField 103 a.rCal, numField 104 a.qThr,
      listField 105 a.bins.toList, codeField a.activity.toCode, numField 106 a.confirm, numField 107 a.charge,
      flagField a.eventIsTest, numField 108 a.soc] ++ timerField 109 a.recovery ++
    (if lists then [listField 110 a.baseline] else []) ++ [codeField a.baselineState.toCode, numField 111 a.learnCount] ++
    (if lists then [listField 112 a.rises] else []) ++
    [numField 113 a.worstRise, numField 114 a.cFrac, numField 115 a.yFrac, numField 116 a.rFrac, numField 117 a.life,
      codeField a.limiting.toCode, codeField a.grade.toCode, numField 118 a.reserve, numField 119 a.gaps,
      flagField a.unrestored, flagField a.frozen] ++ optField 120 (a.pendingSerial.map BitVec.toNat) ++
    (a.lastTeff.map (fun t => ReplyField.free 121 [t])).toList ++ [flagField a.lastTeff.isSome] ++ optField 122 recoveryLeft

/-- The live fields of a String Table record, with the time left on its watch (R13, R21). -/
def liveStringReply (volts : List Nat) (current : Int) (temps : List Int) (serial : Word32) (watchLeft : Nat)
    (liveness : Liveness) : List ReplyField :=
  [listField 1 volts, .free 2 [current], .free 3 temps, numField 4 serial.toNat, numField 5 watchLeft,
    codeField liveness.toCode]

/-- The fields of the current order of a plan (R125). -/
def planOrderReply (o : PlanOrder) : List ReplyField :=
  [codeField o.kind.toCode, numField 7 o.target, numField 8 o.seq.toNat] ++ optField 9 o.value

/-- The fields of the ramp record of a plan (R125). -/
def rampReply (r : Ramp) : List ReplyField :=
  [numField 13 r.limit, numField 14 r.step, numField 15 r.interval] ++ optField 16 (r.lastStep.map BitVec.toNat) ++
    timerField 17 r.timer ++ timerField 18 r.window

/-- The fields of a plan record, with the times left on its running timers (R125, R145); a free slot is marked in a way the
spec does not give. -/
def planReply (p : Option Plan) (settleLeft intervalLeft matchLeft : Option Nat) : List ReplyField :=
  match p with
  | none => [.free 0 []]
  | some p =>
    [numField 1 p.id, codeField p.kind.toCode, numField 2 p.group] ++ optField 3 p.target ++ [codeField p.state.toCode] ++
      (match p.stage with
      | some st => [codeField st.toCode]
      | none => [.free 4 []]) ++
      [numField 5 p.step] ++ (p.order.map planOrderReply).getD [] ++ [numField 10 p.sends, numField 11 p.settle] ++
      timerField 12 p.settleTimer ++ (p.ramp.map rampReply).getD [] ++
      (p.haltCause.map (fun c => codeField c.toCode)).toList ++ optField 19 p.haltDetail ++
      [flagField p.lateSinceHalt, flagField p.lateFlag] ++ optField 20 settleLeft ++ optField 21 intervalLeft ++
      optField 22 matchLeft

/-- The fields of a visit record, with the times left on its running timers and its Force Close pairs (R147, R162). -/
def visitReply (v : Visit) (prepareLeft durationLeft closeLeft : Option Nat) (forceClose : List (Nat × Nat)) :
    List ReplyField :=
  [numField 1 v.id, listField 2 v.cabinets, listField 3 v.strings, codeField v.depth.toCode, numField 4 v.duration,
      numField 5 v.prepareLimit, codeField v.state.toCode, numField 6 v.openedAt.toNat] ++
    optField 7 (v.activeFrom.map BitVec.toNat) ++ optField 8 (v.closingFrom.map BitVec.toNat) ++
    [flagField v.overstay, flagField v.closeLimitPassed] ++ timerField 9 v.prepareTimer ++ timerField 10 v.durationTimer ++
    timerField 11 v.closeTimer ++ optField 12 prepareLeft ++ optField 13 durationLeft ++ optField 14 closeLeft ++
    [listField 15 (forceClose.flatMap (fun x => [x.1, x.2]))]

/-- The nine counters of a port, from a field on (R173). -/
def countersReply (first : Nat) (c : Counters) : List ReplyField :=
  [numField first c.framesIn, numField (first + 1) c.framesOut, numField (first + 2) c.crcError,
    numField (first + 3) c.truncated, numField (first + 4) c.abandonedRx, numField (first + 5) c.abandonedTx,
    numField (first + 6) c.repetitions, numField (first + 7) c.overrun, numField (first + 8) c.droppedAddress]

/-- The result fields of a MANAGE-REPLY (R4, R21, R57, R66, R129, R145, R162, R173, R178, R186, R188). Those of the replies
that R188 lays out byte by byte are in `Result.bytes`. -/
def Result.fields : Result → List ReplyField
  | .none => []
  | .identity part level mode sec ms nodes plans visits alarms =>
    [numField 1 part, numField 2 level, codeField mode.toCode, numField 3 sec.toNat, numField 4 ms.toNat, numField 5 nodes,
      numField 6 plans, numField 7 visits, numField 8 alarms]
  | .nodeEntry e => nodeEntryReply e
  | .params p equal => paramsReply p equal
  | .cabinet r watchLeft reserve => cabinetReply r watchLeft reserve
  | .string volts current temps serial watchLeft liveness a recoveryLeft =>
    liveStringReply volts current temps serial watchLeft liveness ++ ageingReply true a recoveryLeft
  | .blocks bs => bs.flatMap (fun b => [numField 1 b.1, numField 2 b.2.1, numField 3 b.2.2])
  | .ageingRecord a recoveryLeft => ageingReply false a recoveryLeft
  | .ageingLists _ => []
  | .alarmList _ _ _ => []
  | .planId id => [numField 1 id]
  | .plan p settleLeft intervalLeft matchLeft => planReply p settleLeft intervalLeft matchLeft
  | .visitState st => [codeField st.toCode]
  | .visitSummary vs => vs.flatMap (fun x => [numField 16 x.1, codeField x.2.toCode])
  | .visit v prepareLeft durationLeft closeLeft forceClose => visitReply v prepareLeft durationLeft closeLeft forceClose
  | .portCounters s f scoreS scoreF siteExpiries unmatched =>
    countersReply 1 s ++ countersReply 10 f ++
      [numField 19 scoreS, numField 20 scoreF, numField 21 siteExpiries, numField 22 unmatched]

/-- The field is one byte (R178). -/
def ReplyField.isByte : ReplyField → Bool
  | .byte _ => true
  | .free _ _ => false

/-- The bytes of fields one after the other: every enumerated field and flag in its one byte (R178), and of the other fields,
whose bytes are free values, as many bytes as `room` leaves (R188; log entry 4). -/
def fieldsBytes (code : Nat) : Nat → List ReplyField → List Byte
  | _, [] => []
  | room, .byte b :: fs => b :: fieldsBytes code room fs
  | room, .free field value :: fs =>
    let bytes := (Config.resultBytes code field value).take room
    bytes ++ fieldsBytes code (room - bytes.length) fs

/-- The bytes of the result fields of a reply to a request code, within `room` bytes: for Read Alarm List the packed entries
behind the number of entries and the lost-alarm count (R57, R188); for the LISTS part two bytes of µΩ and the rise, block by
block (R188), with free values for the bytes of that number and count and of a rise; otherwise its fields one after the other
(log entry 4). -/
def Result.bytes (code room : Nat) : Result → List Byte
  | .alarmList count lost entries => (Config.alarmCountBytes count lost).take openWidth ++ entries.flatten
  | .ageingLists bs => bs.flatMap (fun b => bytes16 b.1 ++ (Config.riseBytes b.2).take openWidth)
  | r => fieldsBytes code (room - r.fields.countP ReplyField.isByte) r.fields

/-- What stands before the result fields: request code, status, refusal cause or 0, the refusal detail where there is one
(R183). -/
def ManageReply.front (r : ManageReply) : List Byte :=
  byteOf r.code :: byteOf r.status.toCode :: byteOf ((r.cause.map Cause.toCode).getD 0) ::
    (r.detail.map (fun d => [byteOf d])).getD []

/-- The payload of a MANAGE-REPLY: its front, then the result fields; it fits in 128 bytes (R183, R188). -/
def ManageReply.payload (r : ManageReply) : List Byte :=
  (r.front ++ r.result.bytes r.code (maxPayload - r.front.length)).take maxPayload

/-- The payload bytes of a frame (R177). -/
def Frame.payload (f : Frame) : List Byte :=
  match f.body with
  | .wire p _ => p
  | .manageReply r => r.payload

/-- The CRC of a frame: as it came or was built with it, computed for a MANAGE-REPLY (R177). -/
def Frame.crc (f : Frame) : Word16 :=
  match f.body with
  | .wire _ c => c
  | .manageReply r => crc16 (headerBytes f.dest f.src f.kind f.seq r.payload.length ++ r.payload)

/-- The bytes of a frame as its transmitter sends them: header, payload, CRC (R177). -/
def Frame.bytes (f : Frame) : List Byte :=
  headerBytes f.dest f.src f.kind f.seq f.payload.length ++ f.payload ++ bytes16 f.crc.toNat

/-- A supervisor REPLY payload: answer, order kind, target, cause (R108, R180). -/
def gateAnswerFrame (kindByte target seq : Byte) (a : GateAnswer) (c : GateCause) : Frame :=
  builtFrame Config.siteAddr .reply seq [byteOf a.toCode, kindByte, target, byteOf c.toCode]

/-- A plan's ORDER frame: the order kind, then the value, 0 for a kind that carries none (R133, R180). -/
def planOrderFrame (o : PlanOrder) : Frame :=
  builtFrame o.target .order o.seq (byteOf o.kind.toCode :: bytes16 (o.value.getD 0))

/-- What an ORDER payload says: kind and value (R180); `none` when it fails the form test of R107. -/
def parseOrder (p : List Byte) : Option (OrderKind × Nat) :=
  if p.length = 3 then (OrderKind.ofCode (byteAt p 0)).map (fun k => (k, be16 p 1)) else none

/-- What a cabinet's REPLY payload says: reply kind and reason byte (R180); `none` when R118 matches it to no entry. -/
def parseReply (p : List Byte) : Option (ReplyKind × Nat) :=
  if p.length = 4 then (ReplyKind.ofCode (byteAt p 0)).map (fun k => (k, byteAt p 3)) else none

/-- The fields of a cabinet report (R179) before the storing rules of R29. -/
structure CabReport where
  mode : Mode
  load : Nat
  echo : Nat
  inV : Nat
  outV : Nat
  temp : Int
  bypass : BypassStatus
  door : Door
  fault : Nat
  testRunning : Bool
  deriving DecidableEq, Repr

/-- A cabinet report read by the layout of R179; `none` when it fails the form test for a cabinet address (R23). -/
def parseCabReport (p : List Byte) : Option CabReport :=
  if byteAt p 0 = 1 ∧ p.length = 17 then
    match Mode.ofCode (byteAt p 1), BypassStatus.ofCode (byteAt p 12), Door.ofCode (byteAt p 13) with
    | some m, some b, some d =>
      some ⟨m, be16 p 2, be16 p 4, be16 p 6, be16 p 8, signed16 (be16 p 10), b, d, be16 p 14, byteAt p 16 != 0⟩
    | _, _, _ => none
  else none

/-- The fields of a string report (R179). -/
structure StrReport where
  blocks : Nat
  serial : Word32
  current : Int
  temps : List Int
  volts : List Nat
  resistances : List (Nat × Nat)
  deriving DecidableEq, Repr

/-- The length the string report layout gives for the declared counts (R179). -/
def strReportLength (n s k : Nat) : Nat := 10 + 2 * s + 2 * n + 5 * k

/-- What the form test for a string-monitor address makes of a report (R23, R25): the report, or the cause of the
mismatch with the declared block count its detail carries. -/
def parseStrReport (p : List Byte) : Except (StringConfigCause × Nat) StrReport :=
  let n := byteAt p 1
  let s := byteAt p 2
  let k := byteAt p 3
  if p.length = 0 ∨ byteAt p 0 ≠ 2 then .error (.form, 0)
  else if p.length < 4 then .error (.length, if p.length < 2 then 0 else n)
  else if s < 1 ∨ 4 < s then
    if Config.sensorCountCauseIsForm p then .error (.form, 0) else .error (.length, n)
  else if p.length ≠ strReportLength n s k then .error (.length, n)
  else
    .ok {
      blocks := n
      serial := BitVec.ofNat 32 (be32 p 4)
      current := signed16 (be16 p 8)
      temps := (List.range s).map (fun j => signed16 (be16 p (10 + 2 * j)))
      volts := (List.range n).map (fun j => be16 p (10 + 2 * s + 2 * j))
      resistances := (List.range k).map (fun j =>
        (byteAt p (10 + 2 * s + 2 * n + 5 * j), be32 p (11 + 2 * s + 2 * n + 5 * j))) }

/-- A temperature as it is stored: a value outside -400 to 850 is invalid (R29, R30). -/
def storedTemp (t : Int) : Int := if -400 ≤ t ∧ t ≤ 850 then t else invalidTemp

/-- The cleaned resistance list: block numbers 1 to `n` in ascending order, the last entry of each (R30). -/
def cleanResistances (n : Nat) (rs : List (Nat × Nat)) : List (Nat × Nat) :=
  (List.range n).filterMap (fun j => rs.reverse.find? (fun r => r.1 == j + 1))

/-- The return-to-service set (R10). -/
def OrderKind.returnsToService : OrderKind → Bool
  | .outputClose => true
  | .deisolate => true
  | .goInverter => true
  | .maintOpen => true
  | .batteryTestStart => true
  | _ => false

/-- The value of an order as it is judged and tracked: a SET_SHARE's value stopped at 1000, nothing for another kind
(R113, R116). -/
def orderValue (k : OrderKind) (v : Nat) : Option Nat := if k = .setShare then some (min v 1000) else none

/-- A site order as it is forwarded: the value of a SET_SHARE above 1000 is replaced by 1000 and the CRC computed
anew, every other frame keeps its bytes (R107, R169, R177). -/
def forwardedOrder (f : Frame) (k : OrderKind) (v : Nat) : Frame :=
  if k = .setShare ∧ 1000 < v then
    wireFrame f.dest f.src f.kind f.seq (byteOf k.toCode :: bytes16 1000)
  else f

end Sys2Proof.Machine
end

