-- ==== Sys2Proof/Machine/Flags.lean ====
section
/-! DEFINITION. The part's flags: the Alarm List with raise, clear and unshelve, the Notice Queue (R44 to R62). What a
raise does to the list is a function of the Alarm Unit's own state, the floor seconds and the shelving test. -/

namespace Sys2Proof.Machine

/-! The alarm codes (R44). -/

/-- CABINET_SILENT (R44). -/
abbrev codeCabinetSilent : Nat := 1
/-- MONITOR_SILENT (R44). -/
abbrev codeMonitorSilent : Nat := 2
/-- MODE_MISMATCH (R44). -/
abbrev codeModeMismatch : Nat := 3
/-- CABINET_FAULT (R44). -/
abbrev codeCabinetFault : Nat := 4
/-- ON_BATTERY (R44). -/
abbrev codeOnBattery : Nat := 5
/-- BYPASS_SOURCE_POOR (R44). -/
abbrev codeBypassSourcePoor : Nat := 6
/-- PLAN_HALTED (R44). -/
abbrev codePlanHalted : Nat := 7
/-- DOOR_OPEN_UNSCOPED (R44). -/
abbrev codeDoorOpenUnscoped : Nat := 8
/-- VISIT_OVERSTAY (R44). -/
abbrev codeVisitOverstay : Nat := 9
/-- VISIT_CONDITION_LOST (R44). -/
abbrev codeVisitConditionLost : Nat := 10
/-- DOOR_LEFT_OPEN (R44). -/
abbrev codeDoorLeftOpen : Nat := 11
/-- STRING_SWAP_UNSCOPED (R44). -/
abbrev codeStringSwapUnscoped : Nat := 12
/-- STRING_CONFIG_MISMATCH (R44). -/
abbrev codeStringConfigMismatch : Nat := 13
/-- GRADE_FAIR (R44). -/
abbrev codeGradeFair : Nat := 14
/-- GRADE_POOR (R44). -/
abbrev codeGradePoor : Nat := 15
/-- GRADE_REPLACE (R44). -/
abbrev codeGradeReplace : Nat := 16
/-- RESERVE_LOW (R44). -/
abbrev codeReserveLow : Nat := 17
/-- LINK_ERRORS (R44). -/
abbrev codeLinkErrors : Nat := 18
/-- AGEING_GAP (R44). -/
abbrev codeAgeingGap : Nat := 19
/-- UNEXPECTED_NODE (R44). -/
abbrev codeUnexpectedNode : Nat := 20

/-- The most entries the Alarm List holds (R47). -/
def alarmPlaces : Nat := 64

/-- The most notices the Notice Queue holds (R59). -/
def noticePlaces : Nat := 16

/-- The class of an alarm code as the table stands (R45). -/
def AlarmUnit.classOf (a : AlarmUnit) (code : Nat) : AlarmClass :=
  (((classIndex code).bind (fun i => a.classes[i]?)).getD (defaultClass code))

/-- The payload of a notice: the header of R60, then the body (R181). -/
def noticePayload (k : NoticeKind) (sec : Word32) (lost dropped : Nat) (body : List Byte) : List Byte :=
  byteOf k.toCode :: (bytes32 sec ++ bytes16 lost ++ [byteOf dropped] ++ body)

/-- A notice is built into the queue, or dropped and counted when the queue is full (R59, R60). -/
def AlarmUnit.notice (a : AlarmUnit) (sec : Word32) (k : NoticeKind) (body : List Byte) : AlarmUnit :=
  if a.notices.length < noticePlaces then
    { a with
      notices := a.notices ++
        [builtFrame Config.siteAddr .notice a.number (noticePayload k sec a.lost a.dropped body)]
      number := a.number + 1
      dropped := 0 }
  else { a with dropped := satAdd 255 a.dropped 1 }

/-- An entry is the one for a code and subject (R47). -/
def AlarmEntry.isFor (e : AlarmEntry) (code : Nat) (sub : Subject) : Bool := e.code == code && e.subject == sub

/-- The entry for a code and subject, if one stands (R47). -/
def AlarmUnit.find? (a : AlarmUnit) (code : Nat) (sub : Subject) : Option AlarmEntry :=
  a.list.find? (·.isFor code sub)

/-- The list with the entry for a code and subject changed, its place kept. -/
def AlarmUnit.modify (a : AlarmUnit) (code : Nat) (sub : Subject) (f : AlarmEntry → AlarmEntry) : AlarmUnit :=
  { a with list := a.list.map (fun e => if e.isFor code sub then f e else e) }

/-- The list without the entry for a code and subject. -/
def AlarmUnit.remove (a : AlarmUnit) (code : Nat) (sub : Subject) : AlarmUnit :=
  { a with list := a.list.filter (fun e => !e.isFor code sub) }

/-- The body of an ALARM_RAISED notice (R181). -/
def AlarmEntry.raisedBody (e : AlarmEntry) : List Byte :=
  byteOf e.code :: (e.subject.bytes ++ [byteOf e.level, byteOf e.count, flagByte e.detail.isSome] ++
    bytes32 (e.detail.getD 0))

/-- A further raise of a standing entry (R48). -/
def AlarmEntry.touch (e : AlarmEntry) (sec : Word32) : AlarmEntry :=
  { e with lastRaised := sec, count := satAdd 255 e.count 1 }

/-- A CLEARED entry raised afresh (R49). -/
def AlarmEntry.revive (e : AlarmEntry) (sec : Word32) (level : Nat) (st : AlarmState) (detail : Option Word32) :
    AlarmEntry :=
  { e with level := level, state := st, lastRaised := sec, count := satAdd 255 e.count 1, detail := detail }

/-- Of the entries that satisfy a test, the oldest of the lowest level (R51). -/
def lowestOldest (p : AlarmEntry → Bool) (l : List AlarmEntry) : Option AlarmEntry :=
  l.foldl (fun best e =>
    if p e then
      match best with
      | none => some e
      | some b => if e.level < b.level then some e else some b
    else best) none

/-- The entry a full list gives up for a new entry of a level, if it gives one up (R51). -/
def AlarmUnit.victim? (a : AlarmUnit) (level : Nat) : Option AlarmEntry :=
  (a.list.find? (·.state == .cleared)).or
    ((lowestOldest (fun e => e.state == .acknowledged && decide (e.level < level)) a.list).or
      (lowestOldest (fun e => e.state == .active && decide (e.level < level)) a.list))

/-- A new entry joins the list, which has room, and is announced when it is ACTIVE (R50). -/
def AlarmUnit.append (a : AlarmUnit) (sec : Word32) (e : AlarmEntry) : AlarmUnit :=
  let b := { a with list := a.list ++ [e] }
  if e.state = .active then b.notice sec .alarmRaised e.raisedBody else b

/-- A raise with no entry for its code and subject: an entry is created, with room made first in a full list, or
the raise is lost and counted (R50, R51). -/
def AlarmUnit.create (a : AlarmUnit) (sec : Word32) (shelve : Bool) (code : Nat) (sub : Subject)
    (detail : Option Word32) : AlarmUnit :=
  let e : AlarmEntry :=
    ⟨code, sub, (a.classOf code).level, if shelve then .shelved else .active, sec, sec, 1, detail⟩
  if a.list.length < alarmPlaces then a.append sec e
  else
    match a.victim? e.level with
    | some v => (a.remove v.code v.subject).append sec e
    | none => { a with lost := satAdd 65535 a.lost 1 }

/-- A raise of a CLEARED entry: it is revived in its place and announced when it becomes ACTIVE (R49). -/
def AlarmUnit.reviveEntry (a : AlarmUnit) (sec : Word32) (shelve : Bool) (e : AlarmEntry)
    (detail : Option Word32) : AlarmUnit :=
  let e' := e.revive sec (a.classOf e.code).level (if shelve then .shelved else .active) detail
  let b := a.modify e.code e.subject (fun _ => e')
  if shelve then b else b.notice sec .alarmRaised e'.raisedBody

/-- A raise as it acts on the Alarm Unit; `shelve` is the answer of the shelving test (R48 to R51). -/
def AlarmUnit.raise (a : AlarmUnit) (sec : Word32) (shelve : Bool) (code : Nat) (sub : Subject)
    (detail : Option Word32) : AlarmUnit :=
  match a.find? code sub with
  | some e =>
    if e.state = .cleared then a.reviveEntry sec shelve e detail
    else a.modify code sub (·.touch sec)
  | none => a.create sec shelve code sub detail

/-- The ALARM_CLEARED notice (R52, R181). -/
def AlarmUnit.clearedNotice (a : AlarmUnit) (sec : Word32) (code : Nat) (sub : Subject) (o : ClearOutcome) :
    AlarmUnit :=
  a.notice sec .alarmCleared (byteOf code :: (sub.bytes ++ [byteOf o.toCode]))

/-- A clear as it acts on the Alarm Unit (R52). -/
def AlarmUnit.clear (a : AlarmUnit) (sec : Word32) (code : Nat) (sub : Subject) : AlarmUnit :=
  match a.find? code sub with
  | none => a
  | some e =>
    match e.state with
    | .active =>
      if (a.classOf code).latching then
        (a.modify code sub (fun x => { x with state := .cleared })).clearedNotice sec code sub .cleared
      else (a.remove code sub).clearedNotice sec code sub .removed
    | .acknowledged => (a.remove code sub).clearedNotice sec code sub .removed
    | .shelved => a.remove code sub
    | .cleared => a

/-- The place of an entry in read order: level descending, code ascending, subject ascending (R56). -/
def AlarmEntry.readKey (e : AlarmEntry) : Nat := ((3 - e.level) * 64 + e.code) * 64 + e.subject.number

/-- The entries in read order (R56). -/
def readOrder (l : List AlarmEntry) : List AlarmEntry :=
  l.insertionSort (fun x y => x.readKey ≤ y.readKey)

/-- An entry's subject is a cabinet or a string of the two scopes (R54). -/
def AlarmEntry.inScopes (e : AlarmEntry) (cabs strs : List Nat) : Bool :=
  match e.subject with
  | .cabinet c => cabs.contains c
  | .string i => strs.contains i
  | _ => false

/-- The SHELVED entries of two scopes become ACTIVE and are announced in read order (R54). -/
def AlarmUnit.unshelve (a : AlarmUnit) (sec : Word32) (visit : Nat) (cabs strs : List Nat) : AlarmUnit :=
  let waits := fun e : AlarmEntry => e.state == .shelved && e.inScopes cabs strs
  let b := { a with list := a.list.map (fun e => if waits e then { e with state := .active } else e) }
  (readOrder (a.list.filter waits)).foldl
    (fun u e => u.notice sec .alarmUnshelved (e.raisedBody ++ [byteOf visit])) b

/-- The visits of the register in one of the states a question counts (R161). -/
def visitsIn (s : State) (p : VisitState → Bool) : List Visit :=
  s.visits.entries.toList.filterMap (fun o => o.filter (fun v => p v.state))

/-- A visit that covers its scope against return to service: PREPARING, ACTIVE or CLOSING (R161). -/
def VisitState.covers : VisitState → Bool
  | .preparing => true
  | .active => true
  | .closing => true
  | _ => false

/-- A visit that shelves alarms: ACTIVE or CLOSING (R50, R161). -/
def VisitState.shelves : VisitState → Bool
  | .active => true
  | .closing => true
  | _ => false

/-- The subject lies in the scope of a visit that is ACTIVE or CLOSING (R50, R161). -/
def subjectShelved (s : State) : Subject → Bool
  | .cabinet c => (visitsIn s VisitState.shelves).any (·.cabinets.contains c)
  | .string i => (visitsIn s VisitState.shelves).any (·.strings.contains i)
  | _ => false

/-- The shelving test of a raise (R50). -/
def shelvingTest (s : State) (code : Nat) (sub : Subject) : Bool :=
  subjectShelved s sub && (s.alarm.classOf code).shelvable &&
    !(code == codeVisitOverstay || code == codeVisitConditionLost || code == codeDoorLeftOpen)

/-- A raise reaches the Alarm Unit (R48 to R51). -/
def raise (code : Nat) (sub : Subject) (detail : Option Word32) (s : State) : State :=
  s.withAlarm (s.alarm.raise s.clock.sec (shelvingTest s code sub) code sub detail)

/-- A clear reaches the Alarm Unit (R52). -/
def clear (code : Nat) (sub : Subject) (s : State) : State :=
  s.withAlarm (s.alarm.clear s.clock.sec code sub)

/-- A raise when a condition holds, a clear when it does not. -/
def raiseOrClear (cond : Bool) (code : Nat) (sub : Subject) (detail : Option Word32) (s : State) : State :=
  if cond then raise code sub detail s else clear code sub s

/-- A notice of another block's kind reaches the Alarm Unit (R59, R61). -/
def queueNotice (k : NoticeKind) (body : List Byte) (s : State) : State :=
  s.withAlarm (s.alarm.notice s.clock.sec k body)

/-- The Alarm Unit learns that a visit has ended (R54). -/
def unshelveScopes (visit : Nat) (cabs strs : List Nat) (s : State) : State :=
  s.withAlarm (s.alarm.unshelve s.clock.sec visit cabs strs)

end Sys2Proof.Machine
end

