-- ==== Sys2Proof/Machine/Ops.lean ====
section
/-! DEFINITION. The named operations the blocks share: directory and table lookups (R5, R6, R15), the capacity check (R114),
scope questions (R161), the queues and scores of the ports (R169 to R174), the order list (R116), and the answering of
a management request (R182, R183). -/

namespace Sys2Proof.Machine

/-- The present floor milliseconds (R1). -/
abbrev State.now (s : State) : Word32 := s.clock.ms

/-- The part is SUPERVISING (R16). -/
abbrev State.supervising (s : State) : Bool := s.resp.mode == .supervising

/-- The part runs: the loop bridge is open (R175). While it is closed no state of the part moves (log entry 12). -/
def whenRunning (f : State → State) (s : State) : State := if s.bridge = .opened then f s else s

/-! Tables by index. -/

/-- The Cabinet Table record of an index, if one stands (R7). -/
def cab? (s : State) (c : Nat) : Option CabRec := (s.cabs[c]?).join

/-- The Cabinet Table with the record of an index replaced. -/
def setCab (s : State) (c : Nat) (r : CabRec) : State := s.withCabs (s.cabs.setIfInBounds c (some r))

/-- The Cabinet Table with the record of an index changed, if one stands. -/
def modCab (c : Nat) (f : CabRec → CabRec) (s : State) : State :=
  match cab? s c with
  | some r => setCab s c (f r)
  | none => s

/-- The String Table record of an index, if one stands (R13). -/
def str? (s : State) (i : Nat) : Option StrRec := (s.strs[i]?).join

/-- The String Table with the record of an index replaced. -/
def setStr (s : State) (i : Nat) (r : StrRec) : State := s.withStrs (s.strs.setIfInBounds i (some r))

/-- The String Table with the record of an index changed, if one stands. -/
def modStr (i : Nat) (f : StrRec → StrRec) (s : State) : State :=
  match str? s i with
  | some r => setStr s i (f r)
  | none => s

/-- The String Table with the ageing record of an index changed, if one stands. -/
def modAge (i : Nat) (f : Ageing → Ageing) (s : State) : State :=
  modStr i (fun r => { r with ageing := f r.ageing }) s

/-- The plan of a slot, if the slot is occupied (R125). -/
def plan? (s : State) (g : Nat) : Option Plan := (s.seq.plans[g]?).join

/-- The Plan Table with a slot replaced. -/
def setPlan (g : Nat) (p : Option Plan) (s : State) : State :=
  s.withSeq { s.seq with plans := s.seq.plans.setIfInBounds g p }

/-- The Plan Table with the plan of a slot changed, if the slot is occupied. -/
def modPlan (g : Nat) (f : Plan → Plan) (s : State) : State :=
  match plan? s g with
  | some p => setPlan g (some (f p)) s
  | none => s

/-- The Group Parameter Table entry of a group (R123). -/
def groupParams (s : State) (g : Nat) : GroupParams := s.seq.groups.getD g defaultGroup

/-! The Node Directory (R2, R5, R6). -/

/-- The occupied directory entries in ascending index (R2). -/
def dirEntries (dir : Vector (Option DirEntry) 56) : List DirEntry := dir.toList.filterMap id

/-- The occupied directory entry that holds a loop address (R5). -/
def nodeAt? (s : State) (addr : Nat) : Option DirEntry :=
  (dirEntries s.resp.dir).find? (fun e => e.addr == addr)

/-- The cabinet fields of an entry, if it is a cabinet entry (R2). -/
def DirEntry.cab? (e : DirEntry) : Option CabNode :=
  match e.role with
  | .cabinet n => some n
  | .stringMonitor _ => none

/-- The string fields of an entry, if it is a string-monitor entry (R2). -/
def DirEntry.str? (e : DirEntry) : Option StrNode :=
  match e.role with
  | .cabinet _ => none
  | .stringMonitor n => some n

/-- The cabinet index of a configured cabinet's loop address (R5). -/
def cabAt? (s : State) (addr : Nat) : Option Nat := ((nodeAt? s addr).bind (·.cab?)).map (·.index)

/-- The directory entry of a cabinet index (R6). -/
def cabNode? (s : State) (c : Nat) : Option DirEntry :=
  (dirEntries s.resp.dir).find? (fun e => e.cab?.any (fun n => n.index == c))

/-- The directory entry of a string index (R6). -/
def strEntry? (s : State) (i : Nat) : Option DirEntry :=
  (dirEntries s.resp.dir).find? (fun e => e.str?.any (fun n => n.index == i))

/-- The string fields of a string index (R2). -/
def strNode? (s : State) (i : Nat) : Option StrNode := (strEntry? s i).bind (·.str?)

/-- The members of a group with their records, by ascending cabinet index (R6). -/
def memberRecs (s : State) (g : Nat) : List (Nat × CabRec) :=
  (List.range 24).filterMap (fun c => (cab? s c).bind (fun r => if r.group = g then some (c, r) else none))

/-- The members of a group by ascending cabinet index (R6). -/
def members (s : State) (g : Nat) : List Nat := (memberRecs s g).map Prod.fst

/-- The lead of a group with its record (R6). -/
def lead? (s : State) (g : Nat) : Option (Nat × CabRec) := (memberRecs s g).find? (fun m => m.2.lead)

/-- The group of a cabinet, by its record (R7). -/
def groupOf? (s : State) (c : Nat) : Option Nat := (cab? s c).map (·.group)

/-- The strings a cabinet owns (R6, R15). -/
def stringsOf (s : State) (c : Nat) : List Nat :=
  (List.range 32).filter (fun i => (strNode? s i).any (fun n => n.owner == c))

/-- The group rating: the sum of the members' ratings, in kVA (R6). -/
def groupRating (s : State) (g : Nat) : Nat := ((memberRecs s g).map (fun m => m.2.rating)).sum

/-- The strings of a group: those whose owner cabinet is a member, by ascending string index (R6). -/
def stringsOfGroup (s : State) (g : Nat) : List Nat :=
  (List.range 32).filter (fun i => (strNode? s i).any (fun n => (members s g).contains n.owner))

/-- What a string contributes to its owner's cabinet reserve (R15). -/
def StrRec.contribution (r : StrRec) : Nat :=
  if r.liveness = .silent ∨ r.ageing.frozen then 0 else r.ageing.reserve

/-- The cabinet reserve: the least contribution of the cabinet's strings, 1000 for a cabinet without strings (R15). -/
def cabReserve (s : State) (c : Nat) : Nat :=
  match ((stringsOf s c).filterMap (str? s)).map StrRec.contribution with
  | [] => 1000
  | x :: xs => xs.foldl min x

/-- A cabinet reports a named mode; NOT_REPORTED matches none (R8). -/
def CabRec.reports (r : CabRec) (m : Mode) : Bool := r.reported == some m

/-- A member is in parallel service: it reports ONLINE or ON_BATTERY (R114). -/
def CabRec.inParallel (r : CabRec) : Bool := r.reports .online || r.reports .onBattery

/-- The members of a group in parallel service (R114). -/
def parallelMembers (s : State) (g : Nat) : List (Nat × CabRec) :=
  (memberRecs s g).filter (fun m => m.2.inParallel)

/-- The group load sum of the capacity check (R114). -/
def groupLoad (s : State) (g : Nat) : Nat := ((parallelMembers s g).map (fun m => m.2.load * m.2.rating)).sum

/-- The offered share sum of the capacity check, with member `t` at share `sh` (R114). -/
def offeredShare (s : State) (g t sh : Nat) : Nat :=
  ((parallelMembers s g).map (fun m => m.2.rating * (if m.1 = t then sh else m.2.share))).sum

/-- The capacity check for group `g` with member `t` at share `sh` passes (R114). -/
def capacityPasses (s : State) (g t sh : Nat) : Bool :=
  decide (1000 * groupLoad s g ≤ (groupParams s g).capacityMargin * offeredShare s g t sh)

/-! Scope questions (R161). -/

/-- A cabinet lies in the cabinet scope of a visit that is PREPARING, ACTIVE or CLOSING (R161). -/
def cabCovered (s : State) (c : Nat) : Bool :=
  (visitsIn s VisitState.covers).any (·.cabinets.contains c)

/-- A string lies in the string scope of a visit that is PREPARING, ACTIVE or CLOSING (R150). -/
def strCovered (s : State) (i : Nat) : Bool :=
  (visitsIn s VisitState.covers).any (·.strings.contains i)

/-- A string lies in the string scope of an ACTIVE visit (R94, R161). -/
def strInActiveVisit (s : State) (i : Nat) : Bool :=
  (visitsIn s (· == .active)).any (·.strings.contains i)

/-- Any visit is PREPARING, ACTIVE or CLOSING (R109). -/
def anyVisit (s : State) : Bool := !(visitsIn s VisitState.covers).isEmpty

/-- The visit guard fails for an order of a kind to a configured cabinet (R111). -/
def visitGuardFails (s : State) (k : OrderKind) (target : Nat) : Bool :=
  k.returnsToService &&
    (cabCovered s target ||
      (k == .maintOpen && ((groupOf? s target).any (fun g => (members s g).any (cabCovered s)))))

/-! Ports and queues (R165 to R174). -/

/-- The most frames an inbound queue holds (R169). -/
def inboundPlaces : Nat := 8

/-- The most frames a forward queue holds (R170). -/
def forwardPlaces : Nat := 8

/-- The most frames the Port S reply queue holds (R170). -/
def replyPlaces : Nat := 4

/-- The most site-origin entries of the Outstanding Order List (R116). -/
def sitePlaces : Nat := 12

/-- The state of a port. -/
def State.port (s : State) : Port → PortState
  | .s => s.portS
  | .f => s.portF

/-- `s` with the state of a port replaced. -/
def State.withPort (s : State) (p : Port) (x : PortState) : State :=
  match p with
  | .s => s.withPortS x
  | .f => s.withPortF x

/-- `s` with the state of a port changed. -/
def modPort (p : Port) (f : PortState → PortState) (s : State) : State := s.withPort p (f (s.port p))

/-- The port at the other side of the part. -/
def otherPort : Port → Port
  | .s => .f
  | .f => .s

/-- The forward queue of a port has a free place (R170). -/
def forwardRoom (s : State) (p : Port) : Bool := decide ((s.port p).fwd.length < forwardPlaces)

/-- The Port S reply queue has a free place (R170). -/
def replyRoom (s : State) : Bool := decide (s.replyQ.length < replyPlaces)

/-- A frame enters a forward queue at its tail (R170). -/
def enqueueForward (p : Port) (f : Frame) (s : State) : State := modPort p (fun x => { x with fwd := x.fwd ++ [f] }) s

/-- A frame enters the Port S reply queue at its tail (R170). -/
def enqueueReply (f : Frame) (s : State) : State := s.withReplyQ (s.replyQ ++ [f])

/-- The head of a port's inbound queue leaves it (R169). -/
def dropHead (p : Port) (s : State) : State := modPort p (fun x => { x with inq := x.inq.drop 1 }) s

/-- The Classifier may take frames: no Reset FULL is under way (R190). -/
def State.takesFrames (s : State) : Bool := s.fullReset == .idle

/-- One error-counted frame: the score rises, and at or above the raise level LINK_ERRORS is raised (R174). DESIGN CHOICE (log
entry 45): it is raised too when the score stands at 255 already and cannot rise. -/
def scoreUp (p : Port) (s : State) : State :=
  let x := s.port p
  let score := satAdd 255 x.score 1
  let t := s.withPort p { x with score := score }
  if x.settings.raiseLevel ≤ score then raise codeLinkErrors (.port p) (some (detailNat score)) t else t

/-- One sound frame that is not counted under OVERRUN (R174). -/
def soundFrame (p : Port) (s : State) : State :=
  let x := s.port p
  if x.sound + 1 < 32 then s.withPort p { x with sound := x.sound + 1 }
  else
    let t := s.withPort p { x with sound := 0, score := x.score - 1 }
    if x.score = 1 then clear codeLinkErrors (.port p) t else t

/-- A port counter gains 1 and stops at 65535 (R173). -/
def countUp (n : Nat) : Nat := satAdd 65535 n 1

/-! The Outstanding Order List (R116). -/

/-- The key of an entry (R116). -/
def OrderEntry.key (e : OrderEntry) : OrderKey := ⟨e.origin, e.target, e.seq⟩

/-- The entry with a key, if one stands (R116). -/
def order? (s : State) (k : OrderKey) : Option OrderEntry := s.tracker.orders.find? (fun e => e.key == k)

/-- The order list replaced. -/
def setOrders (l : List OrderEntry) (s : State) : State := s.withTracker { s.tracker with orders := l }

/-- The entry with a key removed, its window with it. -/
def removeOrder (k : OrderKey) (s : State) : State :=
  setOrders (s.tracker.orders.filter (fun e => !(e.key == k))) s

/-- The entry with a key changed, its place kept. -/
def modOrder (k : OrderKey) (f : OrderEntry → OrderEntry) (s : State) : State :=
  setOrders (s.tracker.orders.map (fun e => if e.key == k then f e else e)) s

/-- How many site-origin entries stand (R116). -/
def siteOrders (s : State) : Nat := s.tracker.orders.countP (fun e => e.origin == .site)

/-- The group of an order's target address; 0 for an address that is no configured cabinet, which no entry has. -/
def groupOfAddr (s : State) (addr : Nat) : Nat := (((cabAt? s addr).bind (groupOf? s))).getD 0

/-- A reply window started now for a target (R117). -/
def replyWindowFor (s : State) (addr : Nat) : WindowKind × Timer :=
  (.reply, .begin s.now (groupParams s (groupOfAddr s addr)).replyWindow)

/-- A completion window started now for a target (R117). -/
def completionWindowFor (s : State) (addr : Nat) : WindowKind × Timer :=
  (.completion, .begin s.now (groupParams s (groupOfAddr s addr)).completionWindow)

/-! Answering a management request (R182, R183). -/

/-- The head of the Port S inbound queue is a MANAGE frame to 240 (R182). -/
def manageHead? (s : State) : Option Frame :=
  match s.portS.inq with
  | f :: _ => if f.kind = .manage ∧ f.dest.toNat = Config.supervisorAddr then some f else none
  | [] => none

/-- The request code a MANAGE payload opens with, if it has one (R177, R184). -/
def requestCode (f : Frame) : Option Nat := (f.payload.head?).map BitVec.toNat

/-- How many bytes a part of a request has whose fields have at least `least` bytes: the width of a field that is not
enumerated, no flag and no subject is a free value (R178, R184; log entry 3). -/
def fieldBytes (code part least : Nat) : Nat := least + Config.moreBytes code part

/-- What the bytes behind the request code have to be for a command's fields (R184; log entry 3): the bytes that R178 gives,
for fields that are all one enumerated byte; one flag byte; a number of bytes; a head and then the named fields, each its
identifier byte and the bytes of its value; or variable lists, each its own count and then its entries of one width, with
the bytes of the fields before and behind them. -/
inductive FieldForm where
  | exactly (bs : List Nat)
  | flag (b : Bool)
  | sized (n : Nat)
  | named (head : Nat) (fields : List (Byte × Nat))
  | lists (before width : Nat) (counts : List Nat) (behind : Nat)
  deriving DecidableEq, Repr

/-- The bytes are these named fields one after the other, none left out and nothing behind them (R184). -/
def namedFit : List (Byte × Nat) → List Byte → Bool
  | [], p => p.isEmpty
  | _ :: _, [] => false
  | x :: fields, b :: p => b == x.1 && decide (x.2 ≤ p.length) && namedFit fields (p.drop x.2)

/-- The bytes are lists of these counts one after the other, each behind its own count, and then `behind` bytes (R184). -/
def listsFit (width behind : Nat) : List Nat → List Byte → Bool
  | [], p => p.length == behind
  | _ :: _, [] => false
  | n :: counts, b :: p =>
    b.toNat == n && decide (width * n ≤ p.length) && listsFit width behind counts (p.drop (width * n))

/-- The bytes behind the request code fit a form: neither shorter nor longer than the fields call for, every named field
with its value, every list of the length its own count says (R184; log entry 3). A flag byte is clear when 0 and set
otherwise (R178). -/
def FieldForm.fits : FieldForm → List Byte → Bool
  | .exactly bs, p => p.map BitVec.toNat == bs
  | .flag b, [x] => (x != 0) == b
  | .flag _, _ => false
  | .sized n, p => p.length == n
  | .named head fields, p => decide (head ≤ p.length) && namedFit fields (p.drop head)
  | .lists before width counts behind, p =>
    decide (before ≤ p.length) && listsFit width behind counts (p.drop before)

/-- The least bytes of the fields of a request with one form, a byte for each field and two for a subject (R4, R21, R31,
R46, R53, R57, R98, R141, R142, R145, R156 to R158, R162, R178): eight fields and the index for Write Limit Entry, code,
level and two flags for Write Alarm Class, code and subject for Acknowledge Alarm, two fields for Read String Blocks and
Accept Replacement, one for the others. -/
def leastBytes : Nat → Nat
  | 8 => 9
  | 9 => 4
  | 22 => 3
  | 17 | 20 => 2
  | _ => 1

/-- The form of a request whose fields are not all enumerated and that has one form (R184; log entry 3). -/
def plainForm (code : Nat) : FieldForm := .sized (fieldBytes code 0 (leastBytes code))

/-- The bytes behind the request code (R177, R184). -/
def requestFieldBytes (f : Frame) : List Byte := f.payload.drop 1

/-- The Responder may take the frame at the head of the Port S inbound queue (R169, R182, R190). -/
def responderReady (s : State) : Bool := s.takesFrames && replyRoom s

/-- A MANAGE-REPLY without result: OK. -/
def replyOk (code : Nat) : ManageReply := ⟨code, .ok, none, none, .none⟩

/-- OK, or OK_CLAMPED when a value was clamped (R183). -/
def replyClamped (code : Nat) (clamped : Bool) : ManageReply :=
  ⟨code, if clamped then .okClamped else .ok, none, none, .none⟩

/-- OK with result fields (R183). -/
def replyWith (code : Nat) (r : Result) : ManageReply := ⟨code, .ok, none, none, r⟩

/-- REFUSED with a cause (R183). -/
def replyRefused (code : Nat) (c : Cause) : ManageReply := ⟨code, .refused, some c, none, .none⟩

/-- REFUSED with a cause and a detail (R183). -/
def replyRefusedAt (code : Nat) (c : Cause) (d : Nat) : ManageReply := ⟨code, .refused, some c, some d, .none⟩

/-- One request is executed: the MANAGE frame at the head of the Port S inbound queue leaves it, the request's effect
is made, and its MANAGE-REPLY enters the reply queue under the frame's sequence. While the head is no MANAGE frame to
240 with this code and fields of this form, or the reply queue is full, or a Reset FULL is under way, the request waits
(R169, R182, R184, R190). -/
def request (code : Nat) (form : FieldForm) (effect : State → State × ManageReply) (s : State) : State :=
  whenRunning (fun s =>
    match manageHead? s with
    | some f =>
      if responderReady s ∧ requestCode f = some code ∧ form.fits (requestFieldBytes f) then
        let r := effect (dropHead .s s)
        enqueueReply (manageReplyFrame f.seq r.2) r.1
      else s
    | none => s) s

/-- A request's checks, the first that fails answering (R184): a refused request changes nothing. -/
def refuseIf (cond : Bool) (r : ManageReply) (rest : State → State × ManageReply) (s : State) :
    State × ManageReply :=
  if cond then (s, r) else rest s

end Sys2Proof.Machine
end

