-- ==== Sys2Proof/Machine/Ageing.lean ====
section
/-! DEFINITION. The Ageing Engine (R63 to R103): the seven steps of an ageing update, swap detection, replacement, freeze,
the recovery timer, and the string and parameter requests. -/

namespace Sys2Proof.Machine

/-! Life, grade and reserve (R80 to R85). -/

/-- C_frac (R80). -/
def calendarFraction (p : AgeingParams) (a : Ageing) : Nat := min 1000 (a.wCal * 1000 / (p.designLife * 86400))

/-- The cycle sum S of R81, in millionths of life. -/
def cycleSum (p : AgeingParams) (a : Ageing) : Nat :=
  a.bins[0] * p.weights[0] + a.bins[1] * p.weights[1] + a.bins[2] * p.weights[2] + a.bins[3] * p.weights[3]

/-- Y_frac (R81). -/
def cycleFraction (p : AgeingParams) (a : Ageing) : Nat := min 1000 (cycleSum p a / 1000)

/-- R_frac (R82). -/
def resistanceFraction (p : AgeingParams) (a : Ageing) : Nat := min 1000 (a.worstRise * 1000 / p.rEol)

/-- The fraction that gives L, the first of the equal greatest (R83). -/
def limitingOf (c y r : Nat) : Limiting :=
  if y ≤ c ∧ r ≤ c then .calendar else if r ≤ y then .cycles else .resistance

/-- The grade of a life figure under the thresholds of a copy (R83). -/
def gradeOf (p : AgeingParams) (life : Nat) : Grade :=
  if life < p.t1 then .good else if life < p.t2 then .fair else if life < p.t3 then .poor else .replace

/-- The alarm of a grade, if it has one (R83). -/
def gradeAlarm : Grade → Option Nat
  | .good => none
  | .fair => some codeGradeFair
  | .poor => some codeGradePoor
  | .replace => some codeGradeReplace

/-- The fractions, L, limiting factor, grade and reserve of a record worked out afresh (R80 to R84). -/
def withLife (p : AgeingParams) (a : Ageing) : Ageing :=
  let c := calendarFraction p a
  let y := cycleFraction p a
  let r := resistanceFraction p a
  let life := max c (max y r)
  { a with
    cFrac := c
    yFrac := y
    rFrac := r
    life := life
    limiting := limitingOf c y r
    grade := gradeOf p life
    reserve := (1000 - life) * a.soc / 1000 }

/-- The acts of a grade change: the old grade's alarm is cleared, the new grade's raised, and STRING_GRADE queued (R83). -/
def gradeActs (i : Nat) (old : Grade) (a : Ageing) (s : State) : State :=
  if old = a.grade then s
  else
    let s := match gradeAlarm old with
      | some c => clear c (.string i) s
      | none => s
    let s := match gradeAlarm a.grade with
      | some c => raise c (.string i) (some (detailNat a.life)) s
      | none => s
    queueNotice .stringGrade
      (byteOf i :: byteOf old.toCode :: byteOf a.grade.toCode :: (bytes16 a.life ++ [byteOf a.limiting.toCode])) s

/-- The RESERVE_LOW judgement for a cabinet (R85). -/
def judgeReserve (c : Nat) (s : State) : State :=
  let reserve := cabReserve s c
  let threshold := (groupParams s ((groupOf? s c).getD 0)).reserveThreshold
  raiseOrClear (decide (reserve < threshold)) codeReserveLow (.cabinet c) (some (detailNat reserve)) s

/-- The RESERVE_LOW judgement for the owner cabinet of a string (R85). -/
def judgeOwnerReserve (i : Nat) (s : State) : State :=
  match strNode? s i with
  | some n => judgeReserve n.owner s
  | none => s

/-- Life, grade and reserve of a string are recomputed under a copy of the parameters, with the acts of a grade change
and the RESERVE_LOW judgement (R83 to R85). -/
def recompute (p : AgeingParams) (i : Nat) (s : State) : State :=
  match str? s i with
  | some r =>
    let a := withLife p r.ageing
    let s := gradeActs i r.ageing.grade a s
    let s := setStr s i { r with ageing := a }
    judgeOwnerReserve i s
  | none => s

/-! Swap detection, replacement and freeze (R94 to R97). -/

/-- The ageing record as step 1 of a replacement resets it, its UNRESTORED and FROZEN flags and pending serial as step 2
leaves them; grade, fractions, L and reserve await step 4 (R95). DESIGN CHOICE (log entry 35): the number of last update
ms stays as it was while the FRESH base makes it invalid. -/
def resetAgeing (blocks : Nat) (a : Ageing) : Ageing :=
  { a with
    wCal := 0
    rCal := 0
    qThr := 0
    bins := #v[0, 0, 0, 0]
    activity := .float
    confirm := 0
    charge := 0
    eventIsTest := false
    soc := 1000
    recovery := none
    baseline := List.replicate blocks 0
    baselineState := .learning
    learnCount := 0
    rises := List.replicate blocks 0
    worstRise := 0
    gaps := 0
    base := .fresh
    lastTeff := none
    unrestored := false
    frozen := false
    pendingSerial := none }

/-- A replacement: the record is reset, the new serial recorded, STRING_REPLACED queued and life recomputed (R95). -/
def replaceString (i : Nat) (serial : Word32) (s : State) : State :=
  let s := modStr i (fun r => { r with serial := serial, ageing := resetAgeing r.ageing.baseline.length r.ageing }) s
  let s := queueNotice .stringReplaced (byteOf i :: bytes32 serial) s
  recompute s.params.active i s

/-- STRING_SWAP_UNSCOPED is raised and STRING_SWAP_PENDING queued for a pending serial (R96, R97). -/
def swapActs (i : Nat) (recorded pending : Word32) (s : State) : State :=
  queueNotice .stringSwapPending (byteOf i :: (bytes32 recorded ++ bytes32 pending))
    (raise codeStringSwapUnscoped (.string i) (some pending) s)

/-- A swap seen in the scope of no ACTIVE visit freezes the string (R96). -/
def freezeString (i : Nat) (recorded serial : Word32) (s : State) : State :=
  swapActs i recorded serial (modAge i (fun a => { a with frozen := true, pendingSerial := some serial }) s)

/-- A report of a FROZEN string with a serial that is neither 0 nor the pending one (R97). -/
def repend (i : Nat) (recorded serial : Word32) (s : State) : State :=
  swapActs i recorded serial (modAge i (fun a => { a with pendingSerial := some serial }) s)

/-- Swap detection on the serial of a report (R94). -/
def swapDetection (i : Nat) (serial : Word32) (s : State) : State :=
  match str? s i with
  | none => s
  | some r =>
    if serial = 0 then s
    else if r.ageing.frozen then
      if r.ageing.pendingSerial = some serial then s else repend i r.serial serial s
    else if r.serial = 0 then setStr s i { r with serial := serial }
    else if serial = r.serial then s
    else if strInActiveVisit s i then replaceString i serial s
    else freezeString i r.serial serial s

/-! The ageing update (R68 to R93). -/

/-- What step 1 finds: the credited seconds, the new last update ms, and whether the update is a gap (R70, R71). -/
structure TimeStep where
  dt : Nat
  last : Word32
  gap : Bool
  deriving DecidableEq, Repr

/-- Step 1: elapsed seconds and time base (R70, R71). -/
def timeStep (p : AgeingParams) (a : Ageing) (now : Word32) : TimeStep :=
  match a.base with
  | .fresh => ⟨0, now, false⟩
  | .broken => ⟨p.dtLimit, now, true⟩
  | .valid =>
    let secs := elapsed now a.lastMs / 1000
    if secs ≤ p.dtLimit then ⟨secs, a.lastMs + BitVec.ofNat 32 (secs * 1000), false⟩
    else ⟨p.dtLimit, now, true⟩

/-- The greatest valid temperature of a list, if it has one (R33, R73). -/
def greatestTemp (ts : List Int) : Option Int := (ts.filter (· != invalidTemp)).max?

/-- Step 2: the effective temperature and the last T_eff after it (R73). -/
def effectiveTemp (last : Option Int) (ts : List Int) : Int × Option Int :=
  match greatestTemp ts with
  | some t => (clampInt (-200) 700 t, some (clampInt (-200) 700 t))
  | none => (last.getD 200, last)

/-- Step 3: the temperature factor (R74). -/
def temperatureFactor (fs : Vector Nat 10) (teff : Int) : Nat :=
  let off := (teff + 200).toNat
  let i := off / 100
  if 9 ≤ i then fs[9]
  else
    let lo : Int := fs.getD i 0
    let hi : Int := fs.getD (i + 1) 0
    (lo + ((hi - lo) * (off % 100 : Nat)).tdiv 100).toNat

/-- Step 4: calendar wear (R75). -/
def calendarWear (a : Ageing) (dt factor : Nat) : Ageing :=
  let x := dt * factor + a.rCal
  { a with wCal := satAdd max40 a.wCal (x / 256), rCal := x % 256 }

/-- The discharge product P (R76). -/
def dischargeProduct (i : Int) (dt : Nat) : Nat := i.toNat * dt

/-- The depth of a charge for a rated capacity (R89). -/
def depthOf (capacity charge : Nat) : Nat := charge * 1000 / (capacity * 36000)

/-- The bin of an event's depth (R90). -/
def binOf (d : Nat) : Nat := if d < 100 then 0 else if d < 300 then 1 else if d < 600 then 2 else 3

/-- What the activity step decides for a report's current (R87). -/
inductive ActivityMove where
  | stay (confirm : Nat)
  | beginEvent
  | endEvent
  | toFloat
  deriving DecidableEq, Repr

/-- The table of R87: the state before, the confirmation count and the current decide the move. -/
def activityMove (p : AgeingParams) (a : Ageing) (i : Int) : ActivityMove :=
  let above := decide ((p.dTh : Int) < i)
  match a.activity with
  | .float =>
    if above then (if 2 ≤ a.confirm + 1 then .beginEvent else .stay (a.confirm + 1)) else .stay 0
  | .discharge =>
    if above then .stay 0 else if 2 ≤ a.confirm + 1 then .endEvent else .stay (a.confirm + 1)
  | .recharge =>
    if above then (if 2 ≤ a.confirm + 1 then .beginEvent else .stay (a.confirm + 1))
    else if i < -(p.dTh : Int) then .stay 0
    else .toFloat

/-- A product is added to the event charge, and SoC falls by the growth of its depth (R88, R89). -/
def addCharge (capacity product : Nat) (a : Ageing) : Ageing :=
  let charge := satAdd max32 a.charge product
  { a with charge := charge, soc := a.soc - (depthOf capacity charge - depthOf capacity a.charge) }

/-- A discharge event ends: it is binned by its depth (R90). -/
def endEvent (capacity : Nat) (a : Ageing) : Ageing :=
  let b := binOf (min 1000 (depthOf capacity a.charge))
  { a with
    activity := .recharge
    confirm := 0
    bins := a.bins.setIfInBounds b (satAdd 65535 (a.bins.getD b 0) 1) }

/-- The activity step (R87 to R91): `test` is the owner's test flag, `recovery` the recovery timer as it would start. -/
def activityStep (p : AgeingParams) (capacity : Nat) (test : Bool) (recovery : Timer) (i : Int) (product : Nat)
    (a : Ageing) : Ageing :=
  match activityMove p a i with
  | .stay n =>
    let b := { a with confirm := n }
    if a.activity = .discharge then addCharge capacity product b else b
  | .beginEvent =>
    addCharge capacity product
      { a with activity := .discharge, confirm := 0, charge := 0, eventIsTest := test, recovery := none }
  | .endEvent => endEvent capacity a
  | .toFloat => { a with activity := .float, confirm := 0, recovery := some recovery }

/-- Step 5's throughput, on the record the activity step left (R76). -/
def throughput (product : Nat) (a : Ageing) : Ageing :=
  if a.activity = .discharge then { a with qThr := satAdd max40 a.qThr product } else a

/-- A block's baseline after one measurement during learning (R92). -/
def trimBaseline (trim base m : Nat) : Nat :=
  if m = 0 then base
  else if base = 0 then m
  else if base + trim < m then base + trim
  else if m + trim < base then base - trim
  else m

/-- A block's rise above its baseline (R78). -/
def riseOf (base m : Nat) : Nat := if base = 0 then 0 else min 2000 ((m - base) * 1000 / base)

/-- A list of one value per block, changed at the blocks a resistance list names; blocks count from 1 (R13). -/
def updateBlocks (l : List Nat) (rs : List (Nat × Nat)) (f : Nat → Nat → Nat) : List Nat :=
  l.mapIdx (fun j v => match rs.find? (fun r => r.1 == j + 1) with
    | some r => f v r.2
    | none => v)

/-- The learning of step 6 (R92, R93): after the list every rise and the worst rise are 0, also when it completes learning
(R78, R79). DEDUCED (log entry 36): rises that a String Restore left above 0 (R103) so stand until this list. -/
def learn (p : AgeingParams) (rs : List (Nat × Nat)) (a : Ageing) : Ageing :=
  let n := satAdd 15 a.learnCount 1
  { a with
    baseline := updateBlocks a.baseline rs (trimBaseline p.trimStep)
    learnCount := n
    baselineState := if p.learningCycles ≤ n then .learned else .learning
    rises := List.replicate a.rises.length 0
    worstRise := 0 }

/-- The rises of step 6 (R78, R79). -/
def takeRises (rs : List (Nat × Nat)) (a : Ageing) : Ageing :=
  let rises := a.rises.mapIdx (fun j v => match rs.find? (fun r => r.1 == j + 1) with
    | some r => riseOf (a.baseline.getD j 0) r.2
    | none => v)
  { a with rises := rises, worstRise := rises.foldl max 0 }

/-- Step 6: baseline learning or resistance rise (R78). -/
def resistanceStep (p : AgeingParams) (rs : List (Nat × Nat)) (a : Ageing) : Ageing :=
  if rs.isEmpty then a
  else
    match a.baselineState with
    | .learning => learn p rs a
    | .learned => takeRises rs a

/-- Steps 1 to 6 on a record, with the gap's count but not its alarm (R69 to R79, R87 to R93). -/
def ageRecord (p : AgeingParams) (capacity : Nat) (test : Bool) (recovery : Timer) (h : AgeingHand) (a : Ageing) :
    Ageing :=
  let t := timeStep p a h.now
  let teff := effectiveTemp a.lastTeff h.temps
  let a := { a with
    base := .valid
    lastMs := t.last
    gaps := if t.gap then satAdd 65535 a.gaps 1 else a.gaps
    lastTeff := teff.2 }
  let a := calendarWear a t.dt (temperatureFactor p.factors teff.1)
  let product := dischargeProduct h.current t.dt
  let a := activityStep p capacity test recovery h.current product a
  let a := throughput product a
  resistanceStep p h.resistances a

/-- The test flag of a string's owner cabinet as it stands (R88). -/
def ownerTestFlag (s : State) (n : StrNode) : Bool := (cab? s n.owner).any (·.testFlag)

/-- A recovery timer started now under a recovery time in minutes (R91). -/
def recoveryTimer (s : State) (minutes : Nat) : Timer := .begin s.now (minutes * 60000)

/-- The ageing update of a string that is not FROZEN (R68): steps 1 to 6, the gap alarm of step 1, then step 7. The
ACTIVE copy is taken once (R67). -/
def ageingStep (h : AgeingHand) (s : State) : State :=
  match str? s h.string, strNode? s h.string with
  | some r, some n =>
    let p := s.params.active
    let gap := (timeStep p r.ageing h.now).gap
    let a := ageRecord p n.capacity (ownerTestFlag s n) (recoveryTimer s p.recoveryTime) h r.ageing
    let s := setStr s h.string { r with ageing := a }
    let s := raiseOrClear gap codeAgeingGap (.string h.string) (some (detailNat a.gaps)) s
    recompute p h.string s
  | _, _ => s

/-- A hand-over at the Ageing Engine: swap detection, then the update unless the string is FROZEN (R68, R94). -/
def takeAgeingHand (h : AgeingHand) (s : State) : State :=
  let s := swapDetection h.string h.serial s
  if (str? s h.string).any (·.ageing.frozen) then s else ageingStep h s

/-- AGEING_UPDATE (R68): the oldest hand-over is taken. -/
def execAgeingUpdate (s : State) : Host.Outcome State Fault Refusal :=
  .next (whenRunning (fun s =>
    match s.hand.ageing with
    | h :: rest => takeAgeingHand h (s.withHand { s.hand with ageing := rest })
    | [] => s) s)

/-- A string's recovery timer expires: SoC becomes 1000 and life is recomputed (R91). -/
def recoveryExpires (i : Nat) (s : State) : State :=
  match str? s i with
  | some r =>
    if timerDue r.ageing.recovery s.now then
      recompute s.params.active i (modAge i (fun a => { a with soc := 1000, recovery := none }) s)
    else s
  | none => s

/-- RECOVERY_TIMER_EXPIRY (R91). -/
def execRecoveryTimerExpiry (i : Nat) (s : State) : Host.Outcome State Fault Refusal :=
  .next (whenRunning (recoveryExpires i) s)

/-! The Ageing Parameter Set requests (R64 to R66). -/

/-- A staged field that refuses the request: an index or a trim step outside its set (R64). -/
def ageingFieldBad : AgeingField → Bool
  | .factor i _ => decide (9 < i)
  | .weight i _ => decide (3 < i)
  | .trimStep v => !stepSet v
  | _ => false

/-- One carried field stored in a copy, and whether it was clamped (R63, R64). -/
def storeAgeingField (p : AgeingParams) : AgeingField → AgeingParams × Bool
  | .factor i v => ({ p with factors := p.factors.setIfInBounds i (clamp 0 8192 v) }, (clamped 0 8192 v).2)
  | .factorTable vs => ({ p with factors := vs.map (clamp 0 8192) }, vs.toList.any (fun v => (clamped 0 8192 v).2))
  | .designLife v => ({ p with designLife := clamp 365 7300 v }, (clamped 365 7300 v).2)
  | .weight i v => ({ p with weights := p.weights.setIfInBounds i (clamp 0 65535 v) }, (clamped 0 65535 v).2)
  | .weightTable vs => ({ p with weights := vs.map (clamp 0 65535) }, vs.toList.any (fun v => (clamped 0 65535 v).2))
  | .rEol v => ({ p with rEol := clamp 50 2000 v }, (clamped 50 2000 v).2)
  | .dischargeThreshold v => ({ p with dTh := clamp 1 1000 v }, (clamped 1 1000 v).2)
  | .dtLimit v => ({ p with dtLimit := clamp 10 3600 v }, (clamped 10 3600 v).2)
  | .learningCycles v => ({ p with learningCycles := clamp 1 15 v }, (clamped 1 15 v).2)
  | .trimStep v => ({ p with trimStep := v }, false)
  | .recoveryTime v => ({ p with recoveryTime := clamp 10 1440 v }, (clamped 10 1440 v).2)
  | .t1 v => ({ p with t1 := clamp 0 1000 v }, (clamped 0 1000 v).2)
  | .t2 v => ({ p with t2 := clamp 0 1000 v }, (clamped 0 1000 v).2)
  | .t3 v => ({ p with t3 := clamp 0 1000 v }, (clamped 0 1000 v).2)

/-- The carried fields stored one after the other (log entry 24), and whether any was clamped (R64). -/
def storeAgeingFields (p : AgeingParams) (fs : List AgeingField) : AgeingParams × Bool :=
  fs.foldl (fun acc f => let r := storeAgeingField acc.1 f; (r.1, acc.2 || r.2)) (p, false)

/-- The grade thresholds stand in strictly ascending order (R64). -/
def AgeingParams.ascending (p : AgeingParams) : Bool := decide (p.t1 < p.t2) && decide (p.t2 < p.t3)

/-- Stage Ageing Parameters (R64). -/
def stageEffect (fs : List AgeingField) (s : State) : State × ManageReply :=
  let r := storeAgeingFields s.params.staged fs
  refuseIf (fs.isEmpty || fs.any ageingFieldBad || !r.1.ascending) (replyRefused 12 .badValue)
    (fun s => (s.withParams { s.params with staged := r.1 }, replyClamped 12 r.2)) s

/-- What is named by a field of a Stage Ageing Parameters: its number, by which the free values of its identifier and width
name it, and its least bytes, a byte for an index and for each value (R63, R64, R184; log entry 3). -/
def ageingFieldName : AgeingField → Nat × Nat
  | .factor _ _ => (1, 2)
  | .factorTable _ => (2, 10)
  | .designLife _ => (3, 1)
  | .weight _ _ => (4, 2)
  | .weightTable _ => (5, 4)
  | .rEol _ => (6, 1)
  | .dischargeThreshold _ => (7, 1)
  | .dtLimit _ => (8, 1)
  | .learningCycles _ => (9, 1)
  | .trimStep _ => (10, 1)
  | .recoveryTime _ => (11, 1)
  | .t1 _ => (12, 1)
  | .t2 _ => (13, 1)
  | .t3 _ => (14, 1)

/-- The fields that a Stage Ageing Parameters may name, each as `ageingFieldName` gives it (R63, R64). -/
def ageingFields : List (Nat × Nat) :=
  [(1, 2), (2, 10), (3, 1), (4, 2), (5, 4), (6, 1), (7, 1), (8, 1), (9, 1), (10, 1), (11, 1), (12, 1), (13, 1), (14, 1)]

/-- The identifier of a field and the bytes of its index and values (R64, R184; log entry 3). -/
def ageingFieldForm (x : Nat × Nat) : Byte × Nat := (Config.fieldIdentifier 12 x.1, fieldBytes 12 x.1 x.2)

/-- The form of a Stage Ageing Parameters: the named fields (R64, R184; log entry 3). -/
def stageForm (fs : List AgeingField) : FieldForm := .named 0 (fs.map (fun f => ageingFieldForm (ageingFieldName f)))

/-- STAGE_AGEING_PARAMETERS (R64). -/
def execStageAgeingParameters (fs : List AgeingField) (s : State) : Host.Outcome State Fault Refusal :=
  .next (request 12 (stageForm fs) (stageEffect fs) s)

/-- Commit Ageing Parameters (R65). -/
def commitEffect (s : State) : State × ManageReply :=
  match s.params.staged.factors.toList.findIdx? (· == 0) with
  | some i => (s, replyRefusedAt 13 .badValue i)
  | none => (s.withParams { s.params with active := s.params.staged }, replyOk 13)

/-- COMMIT_AGEING_PARAMETERS (R65). -/
def execCommitAgeingParameters (s : State) : Host.Outcome State Fault Refusal := .next (request 13 (.exactly []) commitEffect s)

/-- Read Ageing Parameters: copy code 1 is ACTIVE, 2 is STAGED (R66, R178). -/
def readParamsEffect (copy : Nat) (s : State) : State × ManageReply :=
  let equal := s.params.active == s.params.staged
  match copy with
  | 1 => (s, replyWith 14 (.params s.params.active equal))
  | 2 => (s, replyWith 14 (.params s.params.staged equal))
  | _ => (s, replyRefused 14 .badValue)

/-- READ_AGEING_PARAMETERS (R66). -/
def execReadAgeingParameters (copy : Nat) (s : State) : Host.Outcome State Fault Refusal :=
  .next (request 14 (.exactly [copy]) (readParamsEffect copy) s)

/-! The string requests (R98, R99, R102, R103). -/

/-- A carried history clamped, and whether anything was (R102). DESIGN CHOICE (log entry 37): a carried bin count has no
range of its own, so it is not clamped, and only its sum stops at 65535 (R103). -/
def clampHistory (h : RestoreReq) : RestoreReq × Bool :=
  ({ h with wCal := min max40 h.wCal, rCal := min 255 h.rCal, qThr := min max40 h.qThr, learnCount := min 15 h.learnCount },
    decide (max40 < h.wCal) || decide (255 < h.rCal) || decide (max40 < h.qThr) || decide (15 < h.learnCount))

/-- The time base after a String Restore (R69, R103). -/
def TimeBase.afterRestore : TimeBase → TimeBase
  | .fresh => .broken
  | .valid => .valid
  | .broken => .broken

/-- Steps 1 to 4 of a String Restore on a record (R103). -/
def restoreAgeing (h : RestoreReq) (st : BaselineState) (a : Ageing) : Ageing :=
  let x := a.rCal + h.rCal
  { a with
    wCal := min max40 (a.wCal + h.wCal + x / 256)
    rCal := x % 256
    qThr := satAdd max40 a.qThr h.qThr
    bins := Vector.zipWith (satAdd 65535) a.bins h.bins
    baseline := h.baseline
    baselineState := st
    learnCount := h.learnCount
    base := a.base.afterRestore
    unrestored := false }

/-- String Restore: the checks of R102 in their order, then the steps of R103. DESIGN CHOICE (log entry 42): step 5
recomputes R_frac too, as R84 has it, from the worst rise that stays, while R79 says that R_frac stays until the next
list. DESIGN CHOICE (log entry 44): the RESERVE_LOW judgement that ends step 5 queues its notice as any raise or clear does
(R50, R52, R85), while R103 names the grade notices as the only ones of a restore. -/
def restoreEffect (i : Nat) (h : RestoreReq) (s : State) : State × ManageReply :=
  refuseIf (!s.supervising) (replyRefused 19 .mode) (fun s =>
    match BaselineState.ofCode h.baselineState with
    | none => (s, replyRefused 19 .badValue)
    | some st =>
      refuseIf (decide (32 ≤ i)) (replyRefused 19 .badValue) (fun s =>
        match str? s i, strNode? s i with
        | some r, some n =>
          refuseIf (h.baseline.length != n.blocks) (replyRefused 19 .badValue)
            (refuseIf (r.ageing.frozen || !r.ageing.unrestored) (replyRefused 19 .state) (fun s =>
              let c := clampHistory h
              (recompute s.params.active i (modAge i (restoreAgeing c.1 st) s), replyClamped 19 c.2))) s
        | _, _ => (s, replyRefused 19 .notFound)) s) s

/-- The form of a String Restore: the index, the three accumulators and the four bin counts, the baseline list behind its
own count with two bytes for each baseline, then the state and the learn count (R102, R184, R188; log entry 3). -/
def restoreForm (h : RestoreReq) : FieldForm :=
  .lists (fieldBytes 19 0 8) 2 [h.baseline.length] (fieldBytes 19 1 2)

/-- STRING_RESTORE (R102, R103). -/
def execStringRestore (i : Nat) (h : RestoreReq) (s : State) : Host.Outcome State Fault Refusal :=
  .next (request 19 (restoreForm h) (restoreEffect i h) s)

/-- The checks of Accept Replacement after the choice, and its act on a FROZEN string (R98). -/
def acceptChecked (i : Nat) (act : StrRec → State → State) (s : State) : State × ManageReply :=
  refuseIf (decide (32 ≤ i)) (replyRefused 20 .badValue) (fun s =>
    match str? s i with
    | some r =>
      refuseIf (!r.ageing.frozen) (replyRefused 20 .state) (fun s =>
        (clear codeStringSwapUnscoped (.string i) (act r s), replyOk 20)) s
    | none => (s, replyRefused 20 .notFound)) s

/-- Accept Replacement NEW: a replacement with the pending serial (R98). -/
def acceptNew (i : Nat) (r : StrRec) (s : State) : State :=
  replaceString i (r.ageing.pendingSerial.getD r.serial) s

/-- Accept Replacement SAME: the pending serial is recorded, the string unfrozen, the time base BROKEN (R99). -/
def acceptSame (i : Nat) (r : StrRec) (s : State) : State :=
  setStr s i { r with
    serial := r.ageing.pendingSerial.getD r.serial
    ageing := { r.ageing with frozen := false, pendingSerial := none, base := .broken } }

/-- Accept Replacement NEW, or with a choice that is neither NEW nor SAME (R98). -/
def acceptNewEffect (i choice : Nat) (s : State) : State × ManageReply :=
  refuseIf (!s.supervising) (replyRefused 20 .mode)
    (refuseIf (choice != 1) (replyRefused 20 .badValue) (acceptChecked i (acceptNew i))) s

/-- ACCEPT_REPLACEMENT_NEW (R98). The choice SAME is the command ACCEPT_REPLACEMENT_SAME: a frame that carries it is
not this one (log entry 25). -/
def execAcceptReplacementNew (i choice : Nat) (s : State) : Host.Outcome State Fault Refusal :=
  .next (if choice = 2 then s else request 20 (plainForm 20) (acceptNewEffect i choice) s)

/-- Accept Replacement SAME (R99). -/
def acceptSameEffect (i : Nat) (s : State) : State × ManageReply :=
  refuseIf (!s.supervising) (replyRefused 20 .mode) (acceptChecked i (acceptSame i)) s

/-- ACCEPT_REPLACEMENT_SAME (R99). -/
def execAcceptReplacementSame (i : Nat) (s : State) : Host.Outcome State Fault Refusal :=
  .next (request 20 (plainForm 20) (acceptSameEffect i) s)

end Sys2Proof.Machine
end

