-- ==== Sys2Proof/Machine/Sequencer.lean ====
section
/-! DEFINITION. The Transfer Sequencer (R123 to R146): the Group Parameter Table, plan requests, the step trigger, issuing,
the waits, ramps, halts, resume and abandon. -/

namespace Sys2Proof.Machine

/-! Stages and steps (R130). -/

/-- The stages of each kind of plan, in order (R130). -/
def PlanKind.stages : PlanKind → List Stage
  | .withdraw => [.check, .rampDown, .openOut, .isolate]
  | .restore => [.deisolate, .close, .rampUp]
  | .groupToMaint => [.check, .toStatic, .maintClose, .openAll, .isolateAll]
  | .groupFromMaint => [.deisolateAll, .closeAll, .maintOpen, .toInverter]

/-- A ramp stage (R136). -/
def Stage.isRamp : Stage → Bool
  | .rampDown => true
  | .rampUp => true
  | _ => false

/-- A stage that a resume enters afresh: a CHECK stage or a ramp stage (R141). -/
def Stage.isWhole : Stage → Bool
  | .check => true
  | .rampDown => true
  | .rampUp => true
  | _ => false

/-- A stage that visits every member, one step each (R130). -/
def Stage.everyMember : Stage → Bool
  | .toStatic => true
  | .openAll => true
  | .isolateAll => true
  | .deisolateAll => true
  | .closeAll => true
  | .toInverter => true
  | _ => false

/-- How many order steps a stage has (R130). -/
def stageSteps (s : State) (g : Nat) (st : Stage) : Nat :=
  if st.isWhole then 0
  else if st.everyMember then (members s g).length
  else if st = .close then 2
  else 1

/-- The cabinet a step is ordered to: the member at its position, the lead for the maintenance bypass orders, otherwise
the plan's target (R130). -/
def stepCabinet (s : State) (p : Plan) (st : Stage) (i : Nat) : Option Nat :=
  if st.everyMember then (members s p.group)[i]?
  else if st = .maintClose ∨ st = .maintOpen then (lead? s p.group).map Prod.fst
  else p.target

/-- The order kind of a step (R130). -/
def stepKind : Stage → Nat → OrderKind
  | .check, _ => .readDetail
  | .rampDown, _ => .setShare
  | .openOut, _ => .outputOpen
  | .isolate, _ => .isolate
  | .deisolate, _ => .deisolate
  | .close, i => if i = 0 then .setShare else .outputClose
  | .rampUp, _ => .setShare
  | .toStatic, _ => .goBypass
  | .maintClose, _ => .maintClose
  | .openAll, _ => .outputOpen
  | .isolateAll, _ => .isolate
  | .deisolateAll, _ => .deisolate
  | .closeAll, _ => .outputClose
  | .maintOpen, _ => .maintOpen
  | .toInverter, _ => .goInverter

/-- The settle interval captured at the issue of a step's order (R123, R130). -/
def stepSettle (gp : GroupParams) : OrderKind → Nat
  | .goBypass => gp.settleBypass
  | .goInverter => gp.settleBypass
  | .maintClose => gp.settleMaint
  | .maintOpen => gp.settleMaint
  | .outputOpen => gp.settleOutput
  | .outputClose => gp.settleOutput
  | .isolate => gp.settleIsolate
  | .deisolate => gp.settleIsolate
  | _ => 0

/-- The skip test of a step on its target's record (R130). -/
def stepSkipped : Stage → Nat → CabRec → Bool
  | .openOut, _, r => r.reports .standby || r.reports .isolated
  | .isolate, _, r => r.reports .isolated
  | .deisolate, _, r => r.reports .standby
  | .close, i, r => if i = 0 then r.share == 0 else r.reports .online || r.reports .maintBypass
  | .toStatic, _, r => r.reports .staticBypass || r.reports .maintBypass
  | .maintClose, _, r => r.reports .maintBypass
  | .openAll, _, r => r.reports .standby || r.reports .isolated
  | .isolateAll, _, r => r.reports .isolated
  | .deisolateAll, _, r =>
    r.reports .standby || r.reports .maintBypass || r.reports .staticBypass || r.reports .online
  | .closeAll, _, r => r.reports .maintBypass || r.reports .staticBypass || r.reports .online
  | .maintOpen, _, r => r.reports .staticBypass || r.reports .online
  | .toInverter, _, r => r.reports .online
  | _, _, _ => false

/-! The re-checks (R132). -/

/-- The lowest SILENT member of a group (R132). -/
def firstSilent (s : State) (g : Nat) : Option Nat :=
  ((memberRecs s g).find? (fun m => m.2.liveness == .silent)).map Prod.fst

/-- The lowest member of a group whose bypass source is not GOOD (R132). -/
def firstBadBypass (s : State) (g : Nat) : Option Nat :=
  ((memberRecs s g).find? (fun m => !(m.2.bypass == .good))).map Prod.fst

/-- The silence check: its halt when it fails (R132). -/
def silenceHalt (s : State) (g : Nat) : Option (HaltCause × Nat) := (firstSilent s g).map (fun c => (.silent, c))

/-- The bypass check: its halt when it fails (R132). -/
def bypassHalt (s : State) (g : Nat) : Option (HaltCause × Nat) := (firstBadBypass s g).map (fun c => (.bypass, c))

/-- The capacity check with a cabinet at a share: its halt when it fails (R132). -/
def capacityHalt (s : State) (g t sh : Nat) : Option (HaltCause × Nat) :=
  if capacityPasses s g t sh then none else some (.capacity, sh)

/-- The re-checks before a step order, and the checks of a CHECK stage, the first that fails (R132). -/
def recheck (s : State) (p : Plan) (st : Stage) : Option (HaltCause × Nat) :=
  (silenceHalt s p.group).or
    (((if (p.kind == .groupToMaint && (st == .check || st == .toStatic || st == .maintClose)) then bypassHalt s p.group
      else none)).or
      (match p.target with
      | some t =>
        if p.kind == .withdraw && (st == .check || st == .openOut) then capacityHalt s p.group t 0 else none
      | none => none))

/-! Notices, halts and issue (R131, R133, R140). -/

/-- The PLAN_HALTED notice (R181). -/
def haltedNotice (id g : Nat) (c : HaltCause) (d : Option Nat) (s : State) : State :=
  queueNotice .planHalted
    (byteOf id :: byteOf g :: byteOf c.toCode :: flagByte d.isSome :: bytes16 (d.getD 0)) s

/-- The plan-origin entry of a slot (R116). -/
def OrderEntry.ofSlot (e : OrderEntry) (g : Nat) : Bool := e.origin == .plan && e.slot == some g

/-- A plan-origin entry becomes LAPSED, its window stopped (R121). -/
def OrderEntry.lapse (e : OrderEntry) : OrderEntry := { e with state := .lapsed, window := none }

/-- The slot's entry in WAITING or ACCEPTED becomes LAPSED (R121, R140). -/
def lapseSlot (g : Nat) (s : State) : State := setOrders (s.tracker.orders.map (fun e => if e.ofSlot g then e.lapse else e)) s

/-- The slot's frame leaves the priority queue unsent (R140, R142). -/
def dropPrio (g : Nat) (s : State) : State := s.withPrio (s.prio.filter (fun f => f.slot != g))

/-- A ramp record with its timers stopped (R140). -/
def Ramp.stop (r : Ramp) : Ramp := { r with timer := none, window := none }

/-- A plan record as a halt leaves it (R140, steps 1 and 2). -/
def Plan.halt (p : Plan) (c : HaltCause) (d : Option Nat) : Plan :=
  { p with
    state := .halted
    haltCause := some c
    haltDetail := d
    lateSinceHalt := false
    settleTimer := none
    ramp := p.ramp.map Ramp.stop }

/-- A plan halts (R140). -/
def haltPlan (g : Nat) (c : HaltCause) (d : Option Nat) (s : State) : State :=
  match plan? s g with
  | some p =>
    let s := setPlan g (some (p.halt c d)) s
    let s := dropPrio g (lapseSlot g s)
    let s := raise codePlanHalted (.group g) (some (detailNat c.toCode)) s
    haltedNotice p.id g c d s
  | none => s

/-- The sequence a plan order to a target takes: the order counter's value, or the next in turn that no plan-origin
entry with the same target holds (R126). -/
def takeSeq (s : State) (addr : Nat) : Byte :=
  let held := fun q : Byte => (order? s ⟨.plan, addr, q⟩).isSome
  (((List.range 256).map (fun n => s.seq.nextSeq + BitVec.ofNat 8 n)).find? (fun q => !held q)).getD s.seq.nextSeq

/-- The frame of a plan's order takes the slot's one place in the priority queue (R133, R170; log entry 19). -/
def placePrio (g : Nat) (f : Frame) (s : State) : State :=
  s.withPrio (s.prio.filter (fun x => x.slot != g) ++ [⟨g, f⟩])

/-- The plan-origin entry of an order, WAITING with sends 1 and its reply window started (R116, R133). -/
def planEntry (s : State) (g : Nat) (o : PlanOrder) : OrderEntry :=
  ⟨.plan, o.target, o.seq, o.kind, o.value, s.now, 1, .waiting, some g, some (replyWindowFor s o.target)⟩

/-- A plan issues an order to a cabinet (R133). -/
def issueOrder (g : Nat) (p : Plan) (k : OrderKind) (r : CabRec) (v : Option Nat) (settle : Nat) (s : State) : State :=
  let o : PlanOrder := ⟨k, r.addr, takeSeq s r.addr, v⟩
  let q : Plan := { p with state := .issued, order := some o, sends := 1, settle := settle }
  let s := s.withSeq { s.seq with nextSeq := o.seq + 1, plans := s.seq.plans.setIfInBounds g (some q) }
  let s := setOrders (s.tracker.orders ++ [planEntry s g o]) s
  placePrio g (planOrderFrame o) s

/-- A plan completes: PLAN_DONE is queued and the slot freed (R143). DEDUCED (log entry 41): a re-send that still waits in
the priority queue leaves it unsent, as at an abandon, so that R111's law holds for plan orders after the plan too. -/
def completePlan (g : Nat) (s : State) : State :=
  match plan? s g with
  | some p =>
    setPlan g none
      (queueNotice .planDone [byteOf p.id, byteOf g, byteOf p.kind.toCode, flagByte p.lateFlag] (dropPrio g s))
  | none => s

/-! Ramps (R136 to R139). -/

/-- The fair share of a target (R138). -/
def fairShare (s : State) (g : Nat) (r : CabRec) : Nat :=
  groupLoad s g /
    ((((memberRecs s g).filter (fun m => m.2.reports .online)).map (fun m => m.2.rating)).sum +
      (if r.reports .online then 0 else r.rating))

/-- The match of a down ramp holds (R137). -/
def downMatch (s : State) (g : Nat) (r : CabRec) (limit : Nat) : Bool :=
  decide (r.load ≤ limit + (groupParams s g).matchTolerance)

/-- The match of an up ramp holds (R138). -/
def upMatch (s : State) (g : Nat) (r : CabRec) (limit : Nat) : Bool :=
  decide (min limit (fairShare s g r) ≤ r.load + (groupParams s g).matchTolerance)

/-- A ramp stage ends: the plan enters CHECKING and the match window stops (R137, R138). -/
def endRamp (g : Nat) (p : Plan) (ra : Ramp) (s : State) : State :=
  setPlan g (some { p with state := .checking, stepDone := true, ramp := some { ra with window := none } }) s

/-- A ramp step is issued: a SET_SHARE with the next value, the ramp record capturing step and interval (R137). -/
def issueRamp (g : Nat) (p : Plan) (ra : Ramp) (r : CabRec) (v : Nat) (s : State) : State :=
  let gp := groupParams s g
  let ra : Ramp := { ra with
    step := gp.rampStep
    interval := gp.rampInterval
    lastStep := some s.now
    timer := some (.begin s.now gp.rampInterval)
    window := none }
  issueOrder g { p with ramp := some ra } .setShare r (some v) 0 s

/-- A plan halts at a failed check, or goes on (R132). -/
def haltOr (g : Nat) (h : Option (HaltCause × Nat)) (rest : State → State) (s : State) : State :=
  match h with
  | some (c, d) => haltPlan g c (some d) s
  | none => rest s

/-- The ramp step of a RAMPING plan in RAMP_DOWN is judged (R137). -/
def judgeDown (g : Nat) (p : Plan) (ra : Ramp) (t : Nat) (r : CabRec) (s : State) : State :=
  if downMatch s g r ra.limit then
    if ra.limit = 0 then endRamp g p ra s
    else if ra.timer.isNone then
      let v := ra.limit - (groupParams s g).rampStep
      haltOr g ((silenceHalt s g).or (capacityHalt s g t v)) (issueRamp g p ra r v) s
    else s
  else s

/-- The ramp step of a RAMPING plan in RAMP_UP is judged (R138). DESIGN CHOICE (log entry 40): a stage entered with the
commanded share at or above the restore limit ends at the first judgement at which the match holds, and stays RAMPING
until then. -/
def judgeUp (g : Nat) (p : Plan) (ra : Ramp) (r : CabRec) (s : State) : State :=
  if upMatch s g r ra.limit then
    if r.restoreLimit ≤ ra.limit then endRamp g p ra s
    else if ra.timer.isNone then
      let v := min r.restoreLimit (ra.limit + (groupParams s g).rampStep)
      haltOr g (silenceHalt s g) (issueRamp g p ra r v) s
    else s
  else s

/-- The ramp step of a slot's plan is judged, when the plan is RAMPING (R137, R138). -/
def judgeRamp (g : Nat) (s : State) : State :=
  match plan? s g with
  | some p =>
    match p.state, p.ramp, p.target with
    | .ramping, some ra, some t =>
      match cab? s t with
      | some r => if p.stage = some .rampUp then judgeUp g p ra r s else judgeDown g p ra t r s
      | none => s
    | _, _, _ => s
  | none => s

/-- A ramp stage begins: a new ramp record from the commanded share, the match window started, RAMPING (R136). DESIGN
CHOICE (log entry 39): until the stage's first ramp order the record's step size and interval captured are 0 and its last
step ms is absent. -/
def beginRamp (g : Nat) (s : State) : State :=
  match plan? s g with
  | some p =>
    let share := ((p.target.bind (cab? s)).map (·.share)).getD 0
    let ra : Ramp := ⟨share, 0, 0, none, none, some (.begin s.now (groupParams s g).matchWindow)⟩
    judgeRamp g (setPlan g (some { p with state := .ramping, ramp := some ra }) s)
  | none => s

/-! The step trigger (R131). -/

/-- One position on the walk of a step trigger: entering a stage, or an order step of the stage entered. -/
inductive WalkItem where
  | enter (st : Stage)
  | step (st : Stage) (i : Nat)
  deriving DecidableEq, Repr

/-- The positions of a stage from its entry on. -/
def stageItems (s : State) (g : Nat) (st : Stage) : List WalkItem :=
  .enter st :: (List.range (stageSteps s g st)).map (WalkItem.step st)

/-- The stages of a kind after a stage. -/
def PlanKind.after (k : PlanKind) (st : Stage) : List Stage := (k.stages.dropWhile (· != st)).drop 1

/-- The positions still before a plan (R131): from its present step, or the one after it when it is done; a CHECK or
ramp stage that is not done is entered afresh (R141). -/
def walkItems (s : State) (p : Plan) : List WalkItem :=
  match p.stage with
  | none => p.kind.stages.flatMap (stageItems s p.group)
  | some st =>
    let rest := (p.kind.after st).flatMap (stageItems s p.group)
    if st.isWhole then (if p.stepDone then rest else .enter st :: rest)
    else
      ((List.range (stageSteps s p.group st)).drop (if p.stepDone then p.step + 1 else p.step)).map
        (WalkItem.step st) ++ rest

/-- A stage is entered: step index 0 and a PLAN_STAGE notice (R131); the ramp record is held in ramp stages alone (R125). -/
def enterStage (g : Nat) (p : Plan) (st : Stage) (s : State) : State :=
  queueNotice .planStage [byteOf p.id, byteOf g, byteOf p.kind.toCode, byteOf st.toCode]
    (setPlan g (some { p with stage := some st, step := 0, stepDone := false, ramp := none }) s)

/-- The present step, or CHECK stage, counts as done (R131). -/
def markDone (g : Nat) (s : State) : State := modPlan g (fun p => { p with stepDone := true }) s

/-- The walk of a step trigger (R131). -/
def walk (g : Nat) : List WalkItem → State → State
  | [], s => completePlan g s
  | .enter st :: rest, s =>
    match plan? s g with
    | none => s
    | some p =>
      let s := enterStage g p st s
      if st = .check then haltOr g (recheck s p .check) (fun s => walk g rest (markDone g s)) s
      else if st.isRamp then beginRamp g s
      else walk g rest s
  | .step st i :: rest, s =>
    match plan? s g with
    | none => s
    | some p =>
      let p : Plan := { p with step := i, stepDone := false }
      let s := setPlan g (some p) s
      match (stepCabinet s p st i).bind (cab? s) with
      | none => s
      | some r =>
        if stepSkipped st i r then walk g rest (markDone g s)
        else
          let k := stepKind st i
          haltOr g (recheck s p st)
            (issueOrder g p k r (if k = .setShare then some 0 else none) (stepSettle (groupParams s g) k)) s

/-- The step trigger of a plan in CHECKING (R131). -/
def trigger (g : Nat) (s : State) : State :=
  match plan? s g with
  | some p => if p.state = .checking then walk g (walkItems s p) s else s
  | none => s

/-- STEP_TRIGGER (R131). -/
def execStepTrigger (g : Nat) (s : State) : Host.Outcome State Fault Refusal := .next (whenRunning (trigger g) s)

/-! Waiting for the step (R134, R135). -/

/-- A done step's settle: SETTLING with the captured settle, or CHECKING at once when it is 0 (R135, R141). -/
def Plan.settleFrom (p : Plan) (now : Word32) : Plan :=
  if p.settle = 0 then { p with state := .checking, stepDone := true }
  else { p with state := .settling, stepDone := true, settleTimer := some (.begin now p.settle) }

/-- The plan is in a ramp stage (R136). -/
def Plan.inRamp (p : Plan) : Bool := p.stage.any Stage.isRamp

/-- The DONE of a ramp order: the limit takes its value, the match window starts afresh, and the step is judged (R137). -/
def rampDone (g : Nat) (p : Plan) (s : State) : State :=
  let v := (p.order.bind (·.value)).getD 0
  let w : Timer := .begin s.now (groupParams s g).matchWindow
  judgeRamp g (setPlan g (some { p with
    state := .ramping
    ramp := p.ramp.map (fun ra => { ra with limit := v, window := some w }) }) s)

/-- An ISSUED plan takes the DONE of its current order (R135, R137, R138). -/
def planDone (g : Nat) (s : State) : State :=
  match plan? s g with
  | some p =>
    if p.state = .issued then
      if p.inRamp then rampDone g p s else setPlan g (some (p.settleFrom s.now)) s
    else s
  | none => s

/-- An ISSUED plan takes the REJECTED of its current order (R134). -/
def planRejected (g reason : Nat) (s : State) : State :=
  if (plan? s g).any (fun p => p.state == .issued) then haltPlan g .rejected (some reason) s else s

/-- A HALTED plan takes a late DONE (R121, R140). -/
def planLateDone (g : Nat) (s : State) : State :=
  modPlan g (fun p => if p.state = .halted then { p with lateSinceHalt := true, lateFlag := true } else p) s

/-- The cabinet index of a plan's current order, the detail of NO_REPLY and NO_COMPLETION (R134). -/
def orderCabinet (s : State) (o : PlanOrder) : Nat := (cabAt? s o.target).getD 0

/-- A plan re-sends its current order under the same sequence (R134). -/
def resend (g : Nat) (p : Plan) (o : PlanOrder) (s : State) : State :=
  let s := setPlan g (some { p with sends := p.sends + 1 }) s
  let s := modOrder ⟨.plan, o.target, o.seq⟩ (fun e =>
    { e with sends := e.sends + 1, sentMs := s.now, window := some (replyWindowFor s o.target) }) s
  if s.prio.any (fun f => f.slot == g) then s else placePrio g (planOrderFrame o) s

/-- The reply window of a plan's entry expires (R134). -/
def planReplyExpiry (g : Nat) (s : State) : State :=
  match plan? s g with
  | some p =>
    match p.state, p.order with
    | .issued, some o =>
      if p.sends < 4 then resend g p o s else haltPlan g .noReply (some (orderCabinet s o)) s
    | _, _ => s
  | none => s

/-- The completion window of a plan's entry expires (R134). -/
def planCompletionExpiry (g : Nat) (s : State) : State :=
  match plan? s g with
  | some p =>
    match p.state, p.order with
    | .issued, some o => haltPlan g .noCompletion (some (orderCabinet s o)) s
    | _, _ => s
  | none => s

/-- A settle timer expires (R135). -/
def settleExpires (g : Nat) (s : State) : State :=
  match plan? s g with
  | some p =>
    if p.state = .settling ∧ timerDue p.settleTimer s.now then
      setPlan g (some { p with state := .checking, settleTimer := none }) s
    else s
  | none => s

/-- SETTLE_EXPIRY (R135). -/
def execSettleExpiry (g : Nat) (s : State) : Host.Outcome State Fault Refusal := .next (whenRunning (settleExpires g) s)

/-- A ramp's interval timer expires: it stops and brings a judgement (R137). -/
def intervalExpires (g : Nat) (s : State) : State :=
  match plan? s g with
  | some p =>
    match p.ramp with
    | some ra =>
      if timerDue ra.timer s.now then judgeRamp g (setPlan g (some { p with ramp := some { ra with timer := none } }) s)
      else s
    | none => s
  | none => s

/-- RAMP_INTERVAL_EXPIRY (R137). -/
def execRampIntervalExpiry (g : Nat) (s : State) : Host.Outcome State Fault Refusal :=
  .next (whenRunning (intervalExpires g) s)

/-- A RAMPING plan's match window expires (R139). -/
def matchExpires (g : Nat) (s : State) : State :=
  match plan? s g with
  | some p =>
    if p.state = .ramping ∧ timerDue (p.ramp.bind (·.window)) s.now then
      haltPlan g .noMatch (some (((p.target.bind (cab? s)).map (·.load)).getD 0)) s
    else s
  | none => s

/-- MATCH_WINDOW_EXPIRY (R139). -/
def execMatchWindowExpiry (g : Nat) (s : State) : Host.Outcome State Fault Refusal :=
  .next (whenRunning (matchExpires g) s)

/-- A hand-off at the Sequencer: the plan of the cabinet's group judges its ramp step (R42, R137). -/
def takeRampHand (c : Nat) (s : State) : State :=
  match groupOf? s c with
  | some g => judgeRamp g s
  | none => s

/-- RAMP_STEP_JUDGEMENT (R137): the oldest hand-off is taken. -/
def execRampStepJudgement (s : State) : Host.Outcome State Fault Refusal :=
  .next (whenRunning (fun s =>
    match s.hand.ramp with
    | c :: rest => takeRampHand c (s.withHand { s.hand with ramp := rest })
    | [] => s) s)

/-! The Group Parameter Table request (R124). -/

/-- A ramp step outside its set refuses the request (R124). -/
def groupFieldBad : GroupField × Nat → Bool
  | (.rampStep, v) => !stepSet v
  | _ => false

/-- The range of a group parameter (R123). -/
def groupRange : GroupField → Nat × Nat
  | .minInService => (1, 7)
  | .capacityMargin => (500, 1000)
  | .reserveThreshold => (0, 1000)
  | .rampStep => (10, 80)
  | .rampInterval => (200, 10000)
  | .matchTolerance => (5, 100)
  | .matchWindow => (1000, 60000)
  | .replyWindow => (100, 5000)
  | .completionWindow => (1000, 120000)
  | .settleBypass => (0, 60000)
  | .settleMaint => (0, 60000)
  | .settleOutput => (0, 60000)
  | .settleIsolate => (0, 60000)
  | .mismatchAllowance => (1, 15)

/-- One group parameter stored (R123). -/
def setGroupField (p : GroupParams) (v : Nat) : GroupField → GroupParams
  | .minInService => { p with minInService := v }
  | .capacityMargin => { p with capacityMargin := v }
  | .reserveThreshold => { p with reserveThreshold := v }
  | .rampStep => { p with rampStep := v }
  | .rampInterval => { p with rampInterval := v }
  | .matchTolerance => { p with matchTolerance := v }
  | .matchWindow => { p with matchWindow := v }
  | .replyWindow => { p with replyWindow := v }
  | .completionWindow => { p with completionWindow := v }
  | .settleBypass => { p with settleBypass := v }
  | .settleMaint => { p with settleMaint := v }
  | .settleOutput => { p with settleOutput := v }
  | .settleIsolate => { p with settleIsolate := v }
  | .mismatchAllowance => { p with mismatchAllowance := v }

/-- The carried value of a group parameter clamped to its range (R124). -/
def groupValue (f : GroupField × Nat) : Nat := clamp (groupRange f.1).1 (groupRange f.1).2 f.2

/-- The carried fields stored one after the other (R124; log entry 24). -/
def storeGroupFields (p : GroupParams) (fs : List (GroupField × Nat)) : GroupParams :=
  fs.foldl (fun p f => setGroupField p (groupValue f) f.1) p

/-- Write Group Parameters (R124). -/
def writeGroupEffect (g : Nat) (fs : List (GroupField × Nat)) (s : State) : State × ManageReply :=
  refuseIf (decide (4 ≤ g) || fs.isEmpty || fs.any groupFieldBad) (replyRefused 7 .badValue) (fun s =>
    (s.withSeq { s.seq with groups := s.seq.groups.setIfInBounds g (storeGroupFields (groupParams s g) fs) },
      replyClamped 7 (fs.any (fun f => groupValue f != f.2)))) s

/-- The number of a group parameter in the table of R123, by which the free values of its identifier and width name it (log
entry 3). -/
def groupFieldNumber : GroupField → Nat
  | .minInService => 1
  | .capacityMargin => 2
  | .reserveThreshold => 3
  | .rampStep => 4
  | .rampInterval => 5
  | .matchTolerance => 6
  | .matchWindow => 7
  | .replyWindow => 8
  | .completionWindow => 9
  | .settleBypass => 10
  | .settleMaint => 11
  | .settleOutput => 12
  | .settleIsolate => 13
  | .mismatchAllowance => 14

/-- The group parameters, in the order of R123. -/
def groupFields : List GroupField :=
  [.minInService, .capacityMargin, .reserveThreshold, .rampStep, .rampInterval, .matchTolerance, .matchWindow, .replyWindow,
    .completionWindow, .settleBypass, .settleMaint, .settleOutput, .settleIsolate, .mismatchAllowance]

/-- The identifier of a group parameter and the bytes of its value (R124, R184; log entry 3). -/
def groupFieldForm (k : GroupField) : Byte × Nat := (Config.fieldIdentifier 7 (groupFieldNumber k), fieldBytes 7 (groupFieldNumber k) 1)

/-- The form of a Write Group Parameters: the group, then the named fields (R124, R184; log entry 3). -/
def groupForm (fs : List (GroupField × Nat)) : FieldForm :=
  .named (fieldBytes 7 0 1) (fs.map (fun f => groupFieldForm f.1))

/-- WRITE_GROUP_PARAMETERS (R124). -/
def execWriteGroupParameters (g : Nat) (fs : List (GroupField × Nat)) (s : State) : Host.Outcome State Fault Refusal :=
  .next (request 7 (groupForm fs) (writeGroupEffect g fs) s)

/-! Plan requests (R126 to R129, R141, R142, R145). -/

/-- The occupied slots. -/
def plansHeld (s : State) : List Plan := s.seq.plans.toList.filterMap id

/-- The plan id an accepted plan takes: the counter's value, or the next in turn that no occupied slot holds (R126). -/
def takePlanId (s : State) : Nat :=
  let held := fun n : Nat => (plansHeld s).any (fun p => p.id == n)
  (((List.range 255).map (fun n => (s.seq.nextPlan - 1 + n) % 255 + 1)).find? (fun n => !held n)).getD s.seq.nextPlan

/-- The plan id after one, with 255 followed by 1 (R126). -/
def nextPlanId (n : Nat) : Nat := n % 255 + 1

/-- A WITHDRAW or RESTORE plan, which names a target (R127). -/
def PlanKind.hasTarget : PlanKind → Bool
  | .withdraw => true
  | .restore => true
  | _ => false

/-- The BAD_VALUE check of a Plan Request after the kind (R127). -/
def planBadValue (k : PlanKind) (g : Nat) (t : Option Nat) : Bool :=
  decide (4 ≤ g) || (match t with
    | some c => !k.hasTarget || decide (24 ≤ c)
    | none => k.hasTarget)

/-- The NOT_FOUND check of a Plan Request (R127). -/
def planNotFound (s : State) (g : Nat) (t : Option Nat) : Bool :=
  (memberRecs s g).isEmpty || (match t with
    | some c => groupOf? s c != some g
    | none => false)

/-- The VISIT check of a Plan Request (R127). -/
def planVisit (s : State) (k : PlanKind) (g : Nat) (t : Option Nat) : Bool :=
  match k, t with
  | .restore, some c => cabCovered s c
  | .groupFromMaint, _ => (members s g).any (cabCovered s)
  | _, _ => false

/-- The starting condition of a kind (R128). -/
def startingCondition (s : State) (k : PlanKind) (g : Nat) (t : Option Nat) : Bool :=
  let target := t.bind (cab? s)
  let all := (memberRecs s g).map Prod.snd
  match k with
  | .withdraw =>
    target.any (·.reports .online) &&
      decide ((groupParams s g).minInService ≤ all.countP (·.reports .online) - 1)
  | .restore => target.any (fun r => r.reports .isolated || r.reports .standby)
  | .groupToMaint => all.all (fun r => r.reports .online || r.reports .staticBypass)
  | .groupFromMaint =>
    all.all (fun r => r.reports .isolated || r.reports .standby || r.reports .maintBypass) &&
      (lead? s g).any (fun m => m.2.reports .maintBypass || m.2.reports .isolated)

/-- The plan record of an accepted request (R129). -/
def newPlan (id : Nat) (k : PlanKind) (g : Nat) (t : Option Nat) : Plan where
  id := id
  kind := k
  group := g
  target := t
  state := .checking
  stage := none
  step := 0
  stepDone := false
  order := none
  sends := 0
  settle := 0
  settleTimer := none
  ramp := none
  haltCause := none
  haltDetail := none
  lateSinceHalt := false
  lateFlag := false

/-- Plan Request: the checks of R127 in their order, then the acceptance of R129. -/
def planRequestEffect (kind g : Nat) (t : Option Nat) (s : State) : State × ManageReply :=
  refuseIf (!s.supervising) (replyRefused 23 .mode) (fun s =>
    match PlanKind.ofCode kind with
    | none => (s, replyRefused 23 .badValue)
    | some k =>
      refuseIf (planBadValue k g t) (replyRefused 23 .badValue)
        (refuseIf (planNotFound s g t) (replyRefused 23 .notFound)
          (refuseIf (plan? s g).isSome (replyRefused 23 .busy)
            (refuseIf (planVisit s k g t) (replyRefused 23 .visit)
              (refuseIf (!startingCondition s k g t) (replyRefused 23 .state) (fun s =>
                let id := takePlanId s
                (s.withSeq { s.seq with
                    nextPlan := nextPlanId id
                    plans := s.seq.plans.setIfInBounds g (some (newPlan id k g t)) },
                  replyWith 23 (.planId id))))))) s) s

/-- The form of a Plan Request: the kind, the group and the target where one is named (R127, R184; log entry 3). -/
def planForm (t : Option Nat) : FieldForm := .sized (if t.isSome then fieldBytes 23 2 3 else fieldBytes 23 1 2)

/-- PLAN_REQUEST (R127 to R129). -/
def execPlanRequest (kind g : Nat) (t : Option Nat) (s : State) : Host.Outcome State Fault Refusal :=
  .next (request 23 (planForm t) (planRequestEffect kind g t) s)

/-- The occupied slot that holds a plan id (R141). -/
def planById (s : State) (id : Nat) : Option (Nat × Plan) :=
  (List.range 4).findSome? (fun g => ((plan? s g).filter (fun p => p.id == id)).map (fun p => (g, p)))

/-- The checks the requests on one plan share: the mode and the id (R141, R142). -/
def onPlan (code id : Nat) (act : Nat → Plan → State → State × ManageReply) (s : State) : State × ManageReply :=
  refuseIf (!s.supervising) (replyRefused code .mode) (fun s =>
    match planById s id with
    | none => (s, replyRefused code .notFound)
    | some (g, p) => act g p s) s

/-- The slot's plan-origin entry is removed, its window with it (R141, R142). -/
def removeSlotOrder (g : Nat) (s : State) : State := setOrders (s.tracker.orders.filter (fun e => !e.ofSlot g)) s

/-- The plan record as a resume leaves it (R141, steps 2 to 4). -/
def Plan.resume (p : Plan) (now : Word32) : Plan :=
  let q := { p with haltCause := none, haltDetail := none, lateSinceHalt := false }
  if p.lateSinceHalt && !p.inRamp then q.settleFrom now else { q with state := .checking, stepDone := false }

/-- The steps of an accepted Plan Resume (R141). -/
def resumePlan (g : Nat) (p : Plan) (s : State) : State :=
  setPlan g (some (p.resume s.now)) (clear codePlanHalted (.group g) (removeSlotOrder g s))

/-- Plan Resume (R141). -/
def planResumeEffect (id : Nat) : State → State × ManageReply :=
  onPlan 24 id (fun g p =>
    refuseIf (!(p.state == .halted)) (replyRefused 24 .state) (fun s => (resumePlan g p s, replyOk 24)))

/-- PLAN_RESUME (R141). -/
def execPlanResume (id : Nat) (s : State) : Host.Outcome State Fault Refusal := .next (request 24 (plainForm 24) (planResumeEffect id) s)

/-- The steps of an accepted Plan Abandon (R142). -/
def abandonPlan (g : Nat) (p : Plan) (s : State) : State :=
  let s := dropPrio g (removeSlotOrder g s)
  let s := if p.state = .halted then clear codePlanHalted (.group g) s else s
  setPlan g none s

/-- Plan Abandon (R142). -/
def planAbandonEffect (id : Nat) : State → State × ManageReply :=
  onPlan 25 id (fun g p s => (abandonPlan g p s, replyOk 25))

/-- PLAN_ABANDON (R142). -/
def execPlanAbandon (id : Nat) (s : State) : Host.Outcome State Fault Refusal := .next (request 25 (plainForm 25) (planAbandonEffect id) s)

/-- Read Plan (R145). -/
def readPlanEffect (g : Nat) (s : State) : State × ManageReply :=
  refuseIf (!s.supervising) (replyRefused 26 .mode)
    (refuseIf (decide (4 ≤ g)) (replyRefused 26 .badValue) (fun s =>
      let p := plan? s g
      let ra := p.bind (·.ramp)
      let left := fun t : Option Timer => t.map (·.left s.now)
      (s, replyWith 26 (.plan p (left (p.bind (·.settleTimer))) (left (ra.bind (·.timer)))
        (left (ra.bind (·.window))))))) s

/-- READ_PLAN (R145). -/
def execReadPlan (g : Nat) (s : State) : Host.Outcome State Fault Refusal := .next (request 26 (plainForm 26) (readPlanEffect g) s)

end Sys2Proof.Machine
end

