-- ==== Sys2Proof/Machine/Orders.lean ====
section
/-! DEFINITION. The Order Gate and the Order Tracker (R104 to R122): judging a site order, matching a reply, the updates of a
DONE, and the expiry of a window. -/

namespace Sys2Proof.Machine

/-! The Order Gate (R104 to R115). -/

/-- The class of an order kind as the table stands (R104). -/
def gateClass (s : State) (k : OrderKind) : GateClass := s.gate[k.index]

/-- The Gate answers a site order instead of forwarding it (R108). -/
def gateAnswer (f : Frame) (a : GateAnswer) (c : GateCause) (s : State) : State :=
  let kindByte := (f.payload.head?).getD (Config.absentOrderKind f.dest f.seq)
  enqueueReply (gateAnswerFrame kindByte f.dest f.seq a c) s

/-- A site order is placed in the Port F forward queue (R107). -/
def gateForward (f : Frame) (k : OrderKind) (v : Nat) (s : State) : State := enqueueForward .f (forwardedOrder f k v) s

/-- The interlock checks of R113 for an order of a kind and value to cabinet `t`: the cause of the first that fails. -/
def interlockCause (s : State) (k : OrderKind) (v : Nat) (t : Nat) (r : CabRec) : Option GateCause :=
  if (plan? s r.group).isSome then some .planBusy
  else if (firstSilent s r.group).isSome then some .silent
  else if k = .setShare ∧ min v 1000 < r.share ∧ !capacityPasses s r.group t (min v 1000) then some .capacity
  else if k = .outputClose ∧ !r.reports .standby then some .state
  else if k = .batteryTestStart ∧ !r.reports .online then some .state
  else if k = .batteryTestStart ∧
      (memberRecs s r.group).any (fun m => (m.1 != t && m.2.reports .onBattery) || m.2.testFlag) then some .busy
  else if k = .batteryTestStart ∧ !(r.bypass == .good) then some .bypass
  else if k = .batteryTestStart ∧ cabReserve s t < (groupParams s r.group).reserveThreshold then some .reserve
  else if sitePlaces ≤ siteOrders s then some .trackingFull
  else none

/-- The entry of a tracked site order, WAITING with sends 1 and its reply window started (R116). -/
def siteEntry (s : State) (f : Frame) (k : OrderKind) (v : Nat) : OrderEntry :=
  ⟨.site, f.dest.toNat, f.seq, k, orderValue k v, s.now, 1, .waiting, none, some (replyWindowFor s f.dest.toNat)⟩

/-- Steps 7 and 8 of the judgement: the class decides between forwarding, untracked or tracked, and an answer (R107,
R113). -/
def judgeByClass (f : Frame) (k : OrderKind) (v t : Nat) (r : CabRec) (s : State) : State :=
  match gateClass s k with
  | .forward => gateForward f k v s
  | .supervisorOnly => gateAnswer f .refused .usePlan s
  | .interlocked =>
    match interlockCause s k v t r with
    | some c => gateAnswer f .held c s
    | none => gateForward f k v (setOrders (s.tracker.orders ++ [siteEntry s f k v]) s)

/-- A site repeat of a standing entry (R110). -/
def judgeRepeat (f : Frame) (k : OrderKind) (v t : Nat) (e : OrderEntry) (s : State) : State :=
  if e.kind ≠ k ∨ (k = .setShare ∧ e.value ≠ orderValue k v) then gateAnswer f .refused .sequenceInUse s
  else if visitGuardFails s k t then gateAnswer f .refused .visit s
  else if e.sends = 4 then gateAnswer f .held .repeatLimit s
  else
    gateForward f k v (modOrder e.key (fun x =>
      if x.state = .waiting then
        { x with sends := x.sends + 1, sentMs := s.now, window := some (replyWindowFor s x.target) }
      else { x with sends := x.sends + 1 }) s)

/-- A broadcast site order (R109). -/
def judgeBroadcast (f : Frame) (k : OrderKind) (v : Nat) (s : State) : State :=
  match gateClass s k with
  | .forward => if k.returnsToService && anyVisit s then gateAnswer f .refused .visit s else gateForward f k v s
  | .interlocked => gateAnswer f .refused .broadcast s
  | .supervisorOnly => gateAnswer f .refused .broadcast s

/-- A site order to cabinet `t` after the target test: the repeat, the class, the visit guard, then `judgeByClass`
(R107, steps 4 to 8). -/
def judgeTargeted (f : Frame) (k : OrderKind) (v t : Nat) (r : CabRec) (s : State) : State :=
  match order? s ⟨.site, f.dest.toNat, f.seq⟩ with
  | some e => judgeRepeat f k v t e s
  | none =>
    if gateClass s k = .supervisorOnly then gateAnswer f .refused .usePlan s
    else if visitGuardFails s k t then gateAnswer f .refused .visit s
    else judgeByClass f k v t r s

/-- The judgement of one site order (R107). -/
def judgeOrder (f : Frame) (s : State) : State :=
  match parseOrder f.payload with
  | none => gateAnswer f .refused .form s
  | some (k, v) =>
    if f.dest.toNat = Config.broadcastAddr then judgeBroadcast f k v s
    else
      match cabAt? s f.dest.toNat with
      | none => gateAnswer f .refused .notConfigured s
      | some t =>
        match cab? s t with
        | none => gateAnswer f .refused .notConfigured s
        | some r => judgeTargeted f k v t r s

/-- The Classifier takes the head of a port's inbound queue and hands it to a block; while its condition does not hold
the head waits (R169). -/
def takeHead (p : Port) (ready : State → Frame → Bool) (act : Frame → State → State) (s : State) : State :=
  match (s.port p).inq with
  | f :: _ => if s.takesFrames && ready s f then act f (dropHead p s) else s
  | [] => s

/-- The Gate may take the head frame: SUPERVISING, an ORDER, and room in both queues (R106, R169). -/
def gateReady (s : State) (f : Frame) : Bool :=
  s.supervising && f.kind == .order && forwardRoom s .f && replyRoom s

/-- SITE_ORDER_JUDGEMENT (R106, R107). -/
def execSiteOrderJudgement (s : State) : Host.Outcome State Fault Refusal :=
  .next (whenRunning (takeHead .s gateReady judgeOrder) s)

/-- The visit guard at sending fails for a site order at the Port F forward head (R112). The kind is read from the
payload's first byte alone (log entry 20). -/
def sendingGuardFails (s : State) (f : Frame) : Bool :=
  f.kind == .order &&
    (match OrderKind.ofCode (byteAt f.payload 0) with
    | some k =>
      k.returnsToService &&
        (if f.dest.toNat = Config.broadcastAddr then anyVisit s
        else (cabAt? s f.dest.toNat).any (visitGuardFails s k))
    | none => false)

/-- A withheld site order: answered REFUSED with cause VISIT, its site-origin entry removed (R112). DESIGN CHOICE (log
entry 38): the order's own entry is the site-origin entry with its target and sequence, whatever kind and value that
entry holds. -/
def withholdOrder (f : Frame) (s : State) : State :=
  removeOrder ⟨.site, f.dest.toNat, f.seq⟩ (gateAnswer f .refused .visit s)

/-- Write Gate Entry (R105). -/
def writeGateEffect (kind cls : Nat) (s : State) : State × ManageReply :=
  match OrderKind.ofCode kind, GateClass.ofCode cls with
  | some k, some c => (s.withGate (s.gate.set k.index c), replyOk 10)
  | _, _ => (s, replyRefused 10 .badValue)

/-- WRITE_GATE_ENTRY (R105). -/
def execWriteGateEntry (kind cls : Nat) (s : State) : Host.Outcome State Fault Refusal :=
  .next (request 10 (.exactly [kind, cls]) (writeGateEffect kind cls) s)

/-! The Order Tracker (R116 to R121). -/

/-- The mode a single cabinet is expected in after an order of a kind, if the kind changes its mode (R10, R11). -/
def expectedAfter (s : State) (g : Nat) : OrderKind → Option Mode
  | .deisolate => some .standby
  | .isolate => some .isolated
  | .outputClose => if (lead? s g).any (fun m => m.2.reports .maintBypass) then some .maintBypass else some .online
  | .outputOpen => some .standby
  | .goBypass => some .staticBypass
  | .goInverter => some .online
  | _ => none

/-- Every member of a group that satisfies a test has its expected mode set (R12). -/
def walkMembers (g : Nat) (p : CabRec → Bool) (m : Mode) (s : State) : State :=
  (memberRecs s g).foldl (fun s x => if p x.2 then setCab s x.1 { x.2 with expected := some m } else s) s

/-- The updates a DONE makes to the Cabinet Table for an order of a kind and value to cabinet `t` (R11, R12, R120).
DESIGN CHOICE (log entry 34): a MAINT_CLOSE or MAINT_OPEN whose target is not the lead walks the target's group and always
includes that group's lead, not the target. -/
def doneUpdate (k : OrderKind) (v : Option Nat) (t : Nat) (r : CabRec) (s : State) : State :=
  match k with
  | .maintClose =>
    walkMembers r.group (fun x => x.lead || x.reports .staticBypass || x.reports .maintBypass) .maintBypass s
  | .maintOpen => walkMembers r.group (fun x => x.lead || x.reports .maintBypass) .staticBypass s
  | .setShare => setCab s t { r with share := v.getD 0 }
  | .batteryTestStart => setCab s t { r with testFlag := true }
  | .batteryTestStop => setCab s t { r with testFlag := false }
  | _ =>
    match expectedAfter s r.group k with
    | some m => setCab s t { r with expected := some m }
    | none => s

/-- The record update of a DONE that matches an entry (R120). -/
def doneEntry (e : OrderEntry) (s : State) : State :=
  match cabAt? s e.target with
  | some t =>
    match cab? s t with
    | some r => doneUpdate e.kind e.value t r s
    | none => s
  | none => s

/-- A result is handed to the plan of a plan-origin entry (R119). -/
def handPlan (e : OrderEntry) (f : Nat → State → State) (s : State) : State :=
  match e.slot with
  | some g => if e.origin = .plan then f g s else s
  | none => s

/-- A reply that matches a WAITING or ACCEPTED entry (R119). -/
def replyOnEntry (e : OrderEntry) (k : ReplyKind) (reason : Nat) (s : State) : State :=
  match k with
  | .accepted =>
    if e.state = .waiting then
      modOrder e.key (fun x => { x with state := .accepted, window := some (completionWindowFor s x.target) }) s
    else s
  | .done => handPlan e planDone (removeOrder e.key (doneEntry e s))
  | .rejected => handPlan e (fun g => planRejected g reason) (removeOrder e.key s)

/-- A reply that matches a LAPSED entry (R121). -/
def replyOnLapsed (e : OrderEntry) (k : ReplyKind) (s : State) : State :=
  match k with
  | .done => handPlan e planLateDone (doneEntry e s)
  | _ => s

/-- The Tracker matches a reply against the entries of an origin; `none` when no entry matches (R118). -/
def matchReply (o : Origin) (f : Frame) (s : State) : Option State :=
  match parseReply f.payload with
  | none => none
  | some (k, reason) =>
    match order? s ⟨o, f.src.toNat, f.seq⟩ with
    | none => none
    | some e => some (if e.state = .lapsed then replyOnLapsed e k s else replyOnEntry e k reason s)

/-- A consumed reply that matches no plan entry is counted (R118). -/
def countUnmatched (s : State) : State := s.withTracker { s.tracker with unmatched := countUp s.tracker.unmatched }

/-- The Tracker takes a REPLY by its destination (R118). -/
def trackReply (f : Frame) (s : State) : State :=
  if f.dest.toNat = Config.supervisorAddr then (matchReply .plan f s).getD (countUnmatched s)
  else if f.dest.toNat = Config.siteAddr then enqueueForward .s f ((matchReply .site f s).getD s)
  else enqueueForward .s f s

/-- The Tracker may take the head frame: SUPERVISING, a REPLY, and room in the Port S forward queue unless it is
addressed to 240 (R118, R169). -/
def trackerReady (s : State) (f : Frame) : Bool :=
  s.supervising && f.kind == .reply && (f.dest.toNat == Config.supervisorAddr || forwardRoom s .s)

/-- REPLY_MATCH (R118). -/
def execReplyMatch (s : State) : Host.Outcome State Fault Refusal :=
  .next (whenRunning (takeHead .f trackerReady trackReply) s)

/-- A window of an entry runs, of the kind asked, and its length has passed (R117). -/
def OrderEntry.windowDue (e : OrderEntry) (w : WindowKind) (now : Word32) : Bool :=
  e.window.any (fun x => x.1 == w && x.2.due now)

/-- A window expires: a site entry is removed and counted, a plan entry's plan takes the expiry (R117). -/
def windowExpires (w : WindowKind) (onPlan : Nat → State → State) (k : OrderKey) (s : State) : State :=
  match order? s k with
  | some e =>
    if e.windowDue w s.now then
      match e.origin with
      | .site =>
        let t := removeOrder k s
        t.withTracker { t.tracker with siteExpiries := countUp t.tracker.siteExpiries }
      | .plan => handPlan e onPlan s
    else s
  | none => s

/-- REPLY_WINDOW_EXPIRY (R117). -/
def execReplyWindowExpiry (k : OrderKey) (s : State) : Host.Outcome State Fault Refusal :=
  .next (whenRunning (windowExpires .reply planReplyExpiry k) s)

/-- COMPLETION_WINDOW_EXPIRY (R117). -/
def execCompletionWindowExpiry (k : OrderKey) (s : State) : Host.Outcome State Fault Refusal :=
  .next (whenRunning (windowExpires .completion planCompletionExpiry k) s)

end Sys2Proof.Machine
end

