-- ==== Sys2Proof/Machine/Inspector.lean ====
section
/-! DEFINITION. The Report Inspector (R22 to R43): the tests of a report, the live fields, the limits, the conditions, the
mismatch count, the hand-offs, the watches and the quiet timer; and Write Limit Entry. -/

namespace Sys2Proof.Machine

/-! Limits (R31 to R36). -/

/-- The measurement is one of the four of a cabinet (R31). -/
def Measurement.ofCabinet : Measurement → Bool
  | .cabLoad => true
  | .cabInV => true
  | .cabOutV => true
  | .cabTemp => true
  | _ => false

/-- The range of the trip and clear values of a measurement (R33). -/
def Measurement.range : Measurement → Int × Int
  | .cabLoad => (0, 1500)
  | .cabInV => (0, 999)
  | .cabOutV => (0, 999)
  | .cabTemp => (-400, 850)
  | .blockVMin => (0, 65534)
  | .blockVMax => (0, 65534)
  | .blockVSpread => (0, 65534)
  | .stringTemp => (-200, 700)

/-- How many indices a measurement's kind of subject has (R31). -/
def Measurement.indices (m : Measurement) : Nat := if m.ofCabinet then 24 else 32

/-- The subject an index stands for under a measurement (R31). -/
def Measurement.subject (m : Measurement) (i : Nat) : Subject := if m.ofCabinet then .cabinet i else .string i

/-- The place of the record for an index among the records of an entry: with subject ALL the index itself, otherwise
the one record of the entry's own index (R32). -/
def LimitSubject.place : LimitSubject → Nat → Option Nat
  | .all, i => some i
  | .one j, i => if i = j then some 0 else none

/-- The place of a subject's record among the records of an entry, if the entry covers the subject (R32). -/
def LimitEntry.place (e : LimitEntry) : Subject → Option Nat
  | .cabinet c => if e.measurement.ofCabinet then e.subject.place c else none
  | .string i => if e.measurement.ofCabinet then none else e.subject.place i
  | _ => none

/-- The records of an entry at count 0 with tripped clear (R32). -/
def LimitEntry.freshRecords (e : LimitEntry) : List LimitRec :=
  List.replicate (match e.subject with | .all => e.measurement.indices | .one _ => 1) ⟨0, false⟩

/-- The limit state array as Start and Stop Supervision reset it (R18, R19, R32). -/
def resetRecords (limits : Vector (Option LimitEntry) 32) : Vector (List LimitRec) 32 :=
  limits.map (fun o => (o.map LimitEntry.freshRecords).getD [])

/-- The occupied Limit Table entry at an index (R31). -/
def limit? (s : State) (k : Nat) : Option LimitEntry := (s.resp.limits[k]?).join

/-- The limit record of an entry for a subject (R32). -/
def limitRec? (s : State) (k : Nat) (e : LimitEntry) (sub : Subject) : Option LimitRec :=
  (e.place sub).bind (fun j => (s.insp.records.getD k [])[j]?)

/-- The limit state array with the record of an entry for a subject replaced. -/
def setLimitRec (k : Nat) (e : LimitEntry) (sub : Subject) (r : LimitRec) (s : State) : State :=
  match e.place sub with
  | some j => s.withInsp { s.insp with
      records := s.insp.records.setIfInBounds k ((s.insp.records.getD k []).set j r) }
  | none => s

/-- A value is beyond trip (R34). -/
def LimitEntry.beyondTrip (e : LimitEntry) (v : Int) : Bool :=
  match e.direction with
  | .high => decide (e.trip ≤ v)
  | .low => decide (v ≤ e.trip)

/-- A value is on the clear side (R35). -/
def LimitEntry.onClearSide (e : LimitEntry) (v : Int) : Bool :=
  match e.direction with
  | .high => decide (v ≤ e.clear)
  | .low => decide (e.clear ≤ v)

/-- Another occupied and enabled entry with the code holds a tripped record for the subject (R35, R36). -/
def heldElsewhere (s : State) (k code : Nat) (sub : Subject) : Bool :=
  (List.range 32).any (fun j =>
    j != k && (limit? s j).any (fun e => e.enabled && e.code == code && (limitRec? s j e sub).any (·.tripped)))

/-- A limit alarm is cleared unless another entry still holds it (R35, R36). -/
def clearUnlessHeld (k code : Nat) (sub : Subject) (s : State) : State :=
  if heldElsewhere s k code sub then s else clear code sub s

/-- A limit record after a measured value (R34, R35). -/
def LimitEntry.judge (e : LimitEntry) (v : Int) (r : LimitRec) : LimitRec :=
  if r.tripped then (if e.onClearSide v then ⟨0, false⟩ else r)
  else if e.beyondTrip v then ⟨satAdd 15 r.count 1, decide (e.persistence ≤ satAdd 15 r.count 1)⟩
  else ⟨0, false⟩

/-- A change of a record's tripped flag reaches the Alarm Unit (R34, R35). -/
def limitActs (k : Nat) (e : LimitEntry) (sub : Subject) (v : Int) (before after : LimitRec) (s : State) : State :=
  if before.tripped = after.tripped then s
  else if after.tripped then raise e.code sub (some (detailInt v)) s
  else clearUnlessHeld k e.code sub s

/-- The record of one entry for the reporting subject is judged (R32 to R35). -/
def judgeLimit (sub : Subject) (value : Measurement → Option Int) (k : Nat) (s : State) : State :=
  match limit? s k with
  | some e =>
    if e.enabled then
      match limitRec? s k e sub, value e.measurement with
      | some r, some v => limitActs k e sub v r (e.judge v r) (setLimitRec k e sub (e.judge v r) s)
      | _, _ => s
    else s
  | none => s

/-- Every limit record of the reporting subject is judged, by ascending entry index (R33; log entry 17). -/
def judgeLimits (sub : Subject) (value : Measurement → Option Int) (s : State) : State :=
  (List.range 32).foldl (fun s k => judgeLimit sub value k s) s

/-- The values of a cabinet's measurements, `none` for "not measured" (R33). -/
def CabRec.measured (r : CabRec) : Measurement → Option Int
  | .cabLoad => some r.load
  | .cabInV => some r.inV
  | .cabOutV => some r.outV
  | .cabTemp => if r.temp = invalidTemp then none else some r.temp
  | _ => none

/-- The measured block voltages of a string (R33). -/
def StrRec.measuredVolts (r : StrRec) : List Nat := r.volts.filter (· != notMeasured)

/-- The values of a string's measurements, `none` for "not measured" (R33). -/
def StrRec.measured (r : StrRec) : Measurement → Option Int
  | .blockVMin => r.measuredVolts.min?.map Int.ofNat
  | .blockVMax => r.measuredVolts.max?.map Int.ofNat
  | .blockVSpread =>
    match r.measuredVolts.max?, r.measuredVolts.min? with
    | some hi, some lo => some ((hi : Int) - lo)
    | _, _ => none
  | .stringTemp => (greatestTemp r.temps).map (clampInt (-200) 700)
  | _ => none

/-! Live fields, watch and liveness (R26, R28 to R30). -/

/-- A cabinet record with the live fields of an accepted report (R29). -/
def CabRec.takeReport (r : CabRec) (p : CabReport) : CabRec :=
  { r with
    reported := some p.mode
    load := min p.load 1500
    shareEcho := min p.echo 1000
    inV := min p.inV 999
    outV := min p.outV 999
    temp := storedTemp p.temp
    bypass := p.bypass
    door := p.door
    faultCode := if p.mode = .fault ∧ p.fault ≠ 0 then some p.fault else none
    testRunning := p.testRunning }

/-- A string record with the live fields of an accepted report; the monitor serial is not stored (R30). -/
def StrRec.takeReport (r : StrRec) (p : StrReport) : StrRec :=
  { r with volts := p.volts, current := p.current, temps := p.temps.map storedTemp }

/-- A SILENT node's alarm is cleared at an accepted report (R28). -/
def clearIfSilent (was : Liveness) (code : Nat) (sub : Subject) (s : State) : State :=
  if was = .silent then clear code sub s else s

/-! Conditions and the mismatch count (R37 to R41). -/

/-- CABINET_FAULT (R37). -/
def judgeFault (c : Nat) (r : CabRec) (s : State) : State :=
  raiseOrClear (r.reports .fault) codeCabinetFault (.cabinet c) (some (detailNat (r.faultCode.getD 0))) s

/-- The cabinet reports ON_BATTERY with expected mode ONLINE and the test flag clear (R38, R40). -/
def CabRec.fellOnBattery (r : CabRec) : Bool := r.reports .onBattery && r.expected == some .online && !r.testFlag

/-- ON_BATTERY (R38). -/
def judgeOnBattery (c : Nat) (r : CabRec) (s : State) : State :=
  if r.reports .onBattery then
    (if r.fellOnBattery then raise codeOnBattery (.cabinet c) (some (detailNat r.load)) s else s)
  else clear codeOnBattery (.cabinet c) s

/-- BYPASS_SOURCE_POOR (R39). -/
def judgeBypass (c : Nat) (r : CabRec) (s : State) : State :=
  raiseOrClear (!(r.bypass == .good)) codeBypassSourcePoor (.cabinet c) (some (detailNat r.bypass.toCode)) s

/-- A report is exempt from the mismatch count (R40). -/
def CabRec.exempt (r : CabRec) : Bool := r.reports .fault || r.fellOnBattery

/-- The mode agrees (R40). -/
def CabRec.modeAgrees (r : CabRec) : Bool :=
  r.expected.isNone || r.reported == r.expected ||
    (r.reports .onBattery && r.expected == some .online && r.testFlag)

/-- The share agrees within a tolerance (R40). -/
def CabRec.shareAgrees (r : CabRec) (tolerance : Nat) : Bool :=
  decide (r.shareEcho ≤ r.share + tolerance) && decide (r.share ≤ r.shareEcho + tolerance)

/-- The mismatch count after a report (R40). -/
def CabRec.nextMismatch (r : CabRec) (tolerance : Nat) : Nat :=
  if r.exempt then r.mismatch
  else if r.modeAgrees && r.shareAgrees tolerance then 0
  else satAdd 15 r.mismatch 1

/-- MODE_MISMATCH and the mismatch count (R40). -/
def judgeMismatch (c : Nat) (r : CabRec) (s : State) : State :=
  let gp := groupParams s r.group
  let n := r.nextMismatch gp.matchTolerance
  let s := setCab s c { r with mismatch := n }
  if r.exempt then s
  else if r.modeAgrees && r.shareAgrees gp.matchTolerance then clear codeModeMismatch (.cabinet c) s
  else if gp.mismatchAllowance ≤ n then
    raise codeModeMismatch (.cabinet c) (some (detailMismatch r.reported r.expected r.shareEcho)) s
  else s

/-- The first effect of R41: an UNKNOWN expected mode is set to the reported mode. -/
def CabRec.settleExpected (r : CabRec) : CabRec := { r with expected := r.expected.or r.reported }

/-- The second effect of R41: the test flag is cleared by a report of ONLINE with test running clear. -/
def CabRec.endTest (r : CabRec) : CabRec :=
  if r.reports .online && !r.testRunning then { r with testFlag := false } else r

/-! Acceptance and hand-offs (R42, R43). -/

/-- The hand-offs of an accepted cabinet report: to the Visit Register, and to the Sequencer when the slot of the
cabinet's group is occupied (R42). -/
def handCabinet (c g : Nat) (p : CabReport) (s : State) : State :=
  s.withHand { s.hand with
    visit := s.hand.visit ++ [⟨c, p.mode, p.door⟩]
    ramp := if (plan? s g).isSome then s.hand.ramp ++ [c] else s.hand.ramp }

/-- The record of an accepted cabinet report: live fields, LIVE with the watch loaded, expected mode settled (R26, R28,
R29, R41). -/
def CabRec.accept (r : CabRec) (e : DirEntry) (now : Word32) (p : CabReport) : CabRec :=
  ({ r.takeReport p with liveness := .live, watch := some (.begin now e.watchLen) }).settleExpected

/-- A cabinet report is accepted (R26 to R42). -/
def acceptCabinet (e : DirEntry) (c : Nat) (r : CabRec) (p : CabReport) (s : State) : State :=
  let a := r.accept e s.now p
  let s := setCab s c a
  let s := clearIfSilent r.liveness codeCabinetSilent (.cabinet c) s
  let s := judgeLimits (.cabinet c) a.measured s
  let s := judgeBypass c a (judgeOnBattery c a (judgeFault c a s))
  let s := judgeMismatch c a s
  let s := modCab c CabRec.endTest s
  handCabinet c r.group p s

/-- A string report is accepted (R26 to R35, R43). -/
def acceptString (e : DirEntry) (i : Nat) (r : StrRec) (p : StrReport) (s : State) : State :=
  let a : StrRec := { r.takeReport p with liveness := .live, watch := some (.begin s.now e.watchLen) }
  let s := setStr s i a
  let s := clearIfSilent r.liveness codeMonitorSilent (.string i) s
  let s := clear codeStringConfigMismatch (.string i) s
  let s := judgeLimits (.string i) a.measured s
  s.withHand { s.hand with
    ageing := s.hand.ageing ++ [⟨i, s.now, a.current, a.temps, p.serial, cleanResistances p.blocks p.resistances⟩] }

/-- The length of the unexpected-node quiet timer in milliseconds (R24). -/
def quietLength : Nat := 300000

/-- An unexpected report (R24). -/
def unexpectedNode (src : Byte) (s : State) : State :=
  let s := s.withInsp { s.insp with quiet := some (.begin s.now quietLength) }
  raise codeUnexpectedNode .supervisor (some (detailNat src.toNat)) s

/-- A string report that fails the form or block count test (R25). -/
def configMismatch (i : Nat) (c : StringConfigCause) (blocks : Nat) (s : State) : State :=
  raise codeStringConfigMismatch (.string i) (some (detailStringConfig c blocks)) s

/-- A report from the address of a cabinet entry (R23). -/
def inspectCabinet (f : Frame) (e : DirEntry) (n : CabNode) (s : State) : State :=
  match parseCabReport f.payload with
  | some p =>
    match cab? s n.index with
    | some r => acceptCabinet e n.index r p s
    | none => s
  | none => unexpectedNode f.src s

/-- A report from the address of a string-monitor entry (R23). -/
def inspectString (f : Frame) (e : DirEntry) (n : StrNode) (s : State) : State :=
  match parseStrReport f.payload with
  | .error (c, blocks) => configMismatch n.index c blocks s
  | .ok p =>
    if p.blocks = n.blocks then
      match str? s n.index with
      | some r => acceptString e n.index r p s
      | none => s
    else configMismatch n.index .blocks p.blocks s

/-- The inspection of a report (R23). -/
def inspect (f : Frame) (s : State) : State :=
  match nodeAt? s f.src.toNat with
  | none => unexpectedNode f.src s
  | some e =>
    match e.role with
    | .cabinet n => inspectCabinet f e n s
    | .stringMonitor n => inspectString f e n s

/-- The Inspector may take the head frame: SUPERVISING, a REPORT, and room in the Port S forward queue (R22, R169). -/
def inspectorReady (s : State) (f : Frame) : Bool := s.supervising && f.kind == .report && forwardRoom s .s

/-- REPORT_INSPECTION (R22, R23): the report is inspected and placed in the Port S forward queue unchanged. -/
def execReportInspection (s : State) : Host.Outcome State Fault Refusal :=
  .next (whenRunning (takeHead .f inspectorReady (fun f s => enqueueForward .s f (inspect f s))) s)

/-! Timers (R24, R27). -/

/-- The time base after a silence: VALID is marked BROKEN, FRESH stays (R27, R69). -/
def TimeBase.afterSilence : TimeBase → TimeBase
  | .fresh => .fresh
  | .valid => .broken
  | .broken => .broken

/-- A cabinet's watch expires (R27). -/
def cabinetFallsSilent (c : Nat) (r : CabRec) (s : State) : State :=
  raise codeCabinetSilent (.cabinet c) none (setCab s c { r with liveness := .silent, watch := none })

/-- A string's watch expires (R27, R69). -/
def stringFallsSilent (i : Nat) (r : StrRec) (s : State) : State :=
  raise codeMonitorSilent (.string i) none (setStr s i { r with
    liveness := .silent
    watch := none
    ageing := { r.ageing with base := r.ageing.base.afterSilence } })

/-- A node's watch expires, when it has run out (R27). -/
def watchExpires (n : NodeRef) (s : State) : State :=
  match n with
  | .cabinet c =>
    match cab? s c with
    | some r => if timerDue r.watch s.now then cabinetFallsSilent c r s else s
    | none => s
  | .string i =>
    match str? s i with
    | some r => if timerDue r.watch s.now then stringFallsSilent i r s else s
    | none => s

/-- WATCH_EXPIRY (R27). -/
def execWatchExpiry (n : NodeRef) (s : State) : Host.Outcome State Fault Refusal := .next (whenRunning (watchExpires n) s)

/-- The quiet timer expires (R24). -/
def quietExpires (s : State) : State :=
  if timerDue s.insp.quiet s.now then
    clear codeUnexpectedNode .supervisor (s.withInsp { s.insp with quiet := none })
  else s

/-- QUIET_TIMER_EXPIRY (R24). -/
def execQuietTimerExpiry (s : State) : Host.Outcome State Fault Refusal := .next (whenRunning quietExpires s)

/-! Write Limit Entry (R31, R36). -/

/-- The subject field is neither ALL nor an index of the measurement's kind (R31). -/
def limitSubjectBad (m : Measurement) : LimitSubject → Bool
  | .all => false
  | .one i => decide (m.indices ≤ i)

/-- The entry a Write Limit Entry stores, its values clamped (R31). -/
def limitEntryOf (m : Measurement) (d : Direction) (r : LimitReq) : LimitEntry :=
  ⟨m, limitSubjectOfCode r.subject, d, clampInt m.range.1 m.range.2 r.trip, clampInt m.range.1 m.range.2 r.clear,
    clamp 1 15 r.persistence, r.code, r.enabled⟩

/-- The clamped trip and clear values stand in the order the direction demands (R31). -/
def LimitEntry.ordered (e : LimitEntry) : Bool :=
  match e.direction with
  | .high => decide (e.clear < e.trip)
  | .low => decide (e.trip < e.clear)

/-- A value of the request was clamped (R31). -/
def limitClamped (e : LimitEntry) (r : LimitReq) : Bool :=
  e.trip != r.trip || e.clear != r.clear || e.persistence != r.persistence

/-- The subjects whose records of an entry stand tripped, by ascending index (R36). -/
def trippedSubjects (s : State) (k : Nat) (e : LimitEntry) : List Subject :=
  ((List.range e.measurement.indices).map e.measurement.subject).filter (fun sub =>
    (limitRec? s k e sub).any (·.tripped))

/-- The records of the old entry are reset and the alarms they held cleared (R36). -/
def releaseLimit (k : Nat) (s : State) : State :=
  match limit? s k with
  | some e =>
    (trippedSubjects s k e).foldl (fun s sub => clearUnlessHeld k e.code sub s)
      (s.withInsp { s.insp with records := s.insp.records.setIfInBounds k [] })
  | none => s

/-- The new entry is stored and its records created (R36). -/
def storeLimit (k : Nat) (e : LimitEntry) (s : State) : State :=
  (s.withResp { s.resp with limits := s.resp.limits.setIfInBounds k (some e) }).withInsp
    { s.insp with records := s.insp.records.setIfInBounds k e.freshRecords }

/-- The checks of Write Limit Entry on the structural fields (R31). -/
def limitBad (k : Nat) (m : Measurement) (r : LimitReq) : Bool :=
  decide (32 ≤ k) || limitSubjectBad m (limitSubjectOfCode r.subject) || decide (r.code < 32) || decide (63 < r.code)

/-- Write Limit Entry (R31, R36). -/
def writeLimitEffect (k : Nat) (r : LimitReq) (s : State) : State × ManageReply :=
  match Measurement.ofCode r.measurement, Direction.ofCode r.direction with
  | some m, some d =>
    let e := limitEntryOf m d r
    refuseIf (limitBad k m r || !e.ordered) (replyRefused 8 .badValue)
      (fun s => (storeLimit k e (releaseLimit k s), replyClamped 8 (limitClamped e r))) s
  | _, _ => (s, replyRefused 8 .badValue)

/-- WRITE_LIMIT_ENTRY (R31). -/
def execWriteLimitEntry (k : Nat) (r : LimitReq) (s : State) : Host.Outcome State Fault Refusal :=
  .next (request 8 (plainForm 8) (writeLimitEffect k r) s)

end Sys2Proof.Machine
end

