-- ==== Sys2Proof/Machine/Ports.lean ====
section
/-! DEFINITION. The Loop Ports and the Frame Classifier (R165 to R176): receiving a frame character by character, the
checks of a complete frame, forwarding, transmit arbitration, sending, and the two port requests. -/

namespace Sys2Proof.Machine

/-! Receiving (R165 to R168). -/

/-- The bit times of one character (R165). -/
def charBits : Nat := 12

/-- The bit times of idle line before a frame may start: 4 CT (R167). -/
def idleNeeded : Nat := 4 * charBits

/-- How many times one character is sent at most (R166). -/
def maxSendings : Nat := 5

/-- The payload length that the fifth character of the header carries (R167, R177). -/
def Rx.payloadLength (r : Rx) : Nat := byteAt r.taken 4

/-- The header has been taken and its length is above 128 (R167). -/
def Rx.tooLong (r : Rx) : Bool := decide (5 ≤ r.taken.length) && decide (maxPayload < r.payloadLength)

/-- The 7 + n characters of the frame have been taken (R167). -/
def Rx.complete (r : Rx) : Bool :=
  decide (5 ≤ r.taken.length) && decide (r.payloadLength ≤ maxPayload) &&
    decide (7 + r.payloadLength ≤ r.taken.length)

/-- The present character has been refused for the fifth time (R166). -/
def Rx.exhausted (r : Rx) : Bool := decide (maxSendings ≤ r.refusals)

/-- The frame has reached an end that its event has still to take (R166, R167; log entry 9). -/
def Rx.ended (r : Rx) : Bool := r.tooLong || r.complete || r.exhausted

/-- A character of a frame is taken (R167). -/
def Rx.take (r : Rx) (b : Byte) : Rx := { r with taken := r.taken ++ [b], idleBits := 0, refusals := 0 }

/-- A character of a frame is refused (R166). -/
def Rx.refuse (r : Rx) : Rx := { r with idleBits := 0, refusals := r.refusals + 1 }

/-- A start bit begins a frame under the settings taken then (R165, R167). -/
def rxBegin (st : LineSettings) : Rx := ⟨.inFrame, [], 0, 0, st⟩

/-- The start bit of the next character begins a frame: the receiver is IDLE, or has counted 4 CT already (R167). -/
def Rx.mayBegin (r : Rx) : Bool :=
  r.phase == .idle || (r.phase == .waitIdle && decide (idleNeeded ≤ r.idleBits))

/-- REPETITIONS gains 1 (R173). -/
def Counters.repeated (c : Counters) : Counters := { c with repetitions := countUp c.repetitions }

/-- TRUNCATED gains 1 (R173). -/
def Counters.truncate (c : Counters) : Counters := { c with truncated := countUp c.truncated }

/-- A receiver in a frame gets a character (R166, R167). -/
def PortState.frameChar (x : PortState) (r : Rx) (b : Byte) (faulty : Bool) : PortState :=
  if faulty then { x with rx := r.refuse, counters := x.counters.repeated } else { x with rx := r.take b }

/-- A port gets a character (R166, R167). A character after the end of its frame is not taken (log entry 9). -/
def PortState.receive (x : PortState) (b : Byte) (faulty : Bool) : PortState :=
  if x.rx.mayBegin then x.frameChar (rxBegin x.settings) b faulty
  else
    match x.rx.phase with
    | .inFrame => if x.rx.ended then x else x.frameChar x.rx b faulty
    | _ => { x with rx := { x.rx with idleBits := 0 } }

/-- CHARACTER_RECEIVED (R166, R167). -/
def execCharacterReceived (p : Port) (data : Byte) (parity stop : Bool) (s : State) : Host.Outcome State Fault Refusal :=
  .next (whenRunning (modPort p (fun x => x.receive data (charFaulty data parity stop))) s)

/-- A receiver that waits for idle counts idle time, and enters IDLE at 4 CT (R167). -/
def Rx.idle (r : Rx) (bits : Nat) : Rx :=
  match r.phase with
  | .waitIdle =>
    let n := r.idleBits + bits
    { r with idleBits := n, phase := if idleNeeded ≤ n then .idle else .waitIdle }
  | _ => r

/-- IDLE_DETECTED (R167). -/
def execIdleDetected (p : Port) (bits : Nat) (s : State) : Host.Outcome State Fault Refusal :=
  .next (whenRunning (modPort p (fun x => { x with rx := x.rx.idle bits })) s)

/-- The receiver leaves a frame and begins to wait for idle, its idle count going on (R165, R167). -/
def PortState.leaveFrame (x : PortState) : PortState := { x with rx := rxWaitIdle x.settings x.rx.idleBits }

/-- A frame is dropped under a counter and the error score rises (R167, R174). -/
def dropCounted (p : Port) (count : Counters → Counters) (s : State) : State :=
  scoreUp p (modPort p (fun x => { x.leaveFrame with counters := count x.counters }) s)

/-- The line of a receiver in a frame stays idle; beyond the character wait limit the frame is truncated (R167). -/
def waitExpires (p : Port) (bits : Nat) (s : State) : State :=
  let x := s.port p
  if x.rx.phase = .inFrame ∧ !x.rx.ended then
    let t := modPort p (fun x => { x with rx := { x.rx with idleBits := x.rx.idleBits + bits } }) s
    if charBits * x.rx.settings.waitLimit < x.rx.idleBits + bits then dropCounted p Counters.truncate t else t
  else s

/-- CHARACTER_WAIT_EXPIRY (R167). -/
def execCharacterWaitExpiry (p : Port) (bits : Nat) (s : State) : Host.Outcome State Fault Refusal :=
  .next (whenRunning (waitExpires p bits) s)

/-- A payload length above 128 drops the frame (R167). -/
def lengthTooLong (p : Port) (s : State) : State :=
  let r := (s.port p).rx
  if r.phase = .inFrame ∧ r.tooLong ∧ !r.exhausted then dropCounted p Counters.truncate s else s

/-- PAYLOAD_LENGTH_TOO_LONG (R167). -/
def execPayloadLengthTooLong (p : Port) (s : State) : Host.Outcome State Fault Refusal :=
  .next (whenRunning (lengthTooLong p) s)

/-- ABANDONED_RX gains 1 (R173). -/
def Counters.abandonRx (c : Counters) : Counters := { c with abandonedRx := countUp c.abandonedRx }

/-- A fifth refusal of the same character drops the frame (R166). -/
def abandonRx (p : Port) (s : State) : State :=
  let r := (s.port p).rx
  if r.phase = .inFrame ∧ r.exhausted then dropCounted p Counters.abandonRx s else s

/-- ABANDONED_RX (R166). -/
def execAbandonedRx (p : Port) (s : State) : Host.Outcome State Fault Refusal := .next (whenRunning (abandonRx p) s)

/-- CRC_ERROR gains 1 (R173). -/
def Counters.failCrc (c : Counters) : Counters := { c with crcError := countUp c.crcError }

/-- OVERRUN gains 1 (R173). -/
def Counters.overran (c : Counters) : Counters := { c with overrun := countUp c.overrun }

/-- DROPPED_ADDRESS gains 1 (R173). -/
def Counters.dropAddress (c : Counters) : Counters := { c with droppedAddress := countUp c.droppedAddress }

/-- FRAMES_IN gains 1 (R173). -/
def Counters.frameIn (c : Counters) : Counters := { c with framesIn := countUp c.framesIn }

/-- The header and payload bytes of a complete frame, over which its CRC runs (R177). -/
def Rx.crcBytes (r : Rx) : List Byte := r.taken.take (5 + r.payloadLength)

/-- The CRC a complete frame carries (R177). -/
def Rx.crcCarried (r : Rx) : Word16 := BitVec.ofNat 16 (be16 r.taken (5 + r.payloadLength))

/-- The CRC carried equals the CRC computed (R168, check 1). -/
def Rx.crcOk (r : Rx) : Bool := r.crcCarried == crc16 r.crcBytes

/-- The destination that check 3 of R168 drops a frame for. -/
def droppedDestination (p : Port) (k : FrameKind) (dest : Nat) : Bool :=
  (decide (241 ≤ dest) && decide (dest ≤ 254)) ||
    (p == .f && k == .manage && dest == Config.supervisorAddr)

/-- The frame of a kind that the taken characters spell (R177). -/
def Rx.frame (r : Rx) (k : FrameKind) : Frame :=
  ⟨r.taken.getD 0 0, r.taken.getD 1 0, k, r.taken.getD 3 0, .wire (r.crcBytes.drop 5) r.crcCarried⟩

/-- A frame enters a port's inbound queue at its tail (R168). -/
def PortState.enqueue (x : PortState) (f : Frame) : PortState :=
  { x.leaveFrame with inq := x.inq ++ [f], counters := x.counters.frameIn }

/-- The checks of a complete frame (R168). -/
def checkFrame (p : Port) (s : State) : State :=
  let x := s.port p
  if !x.rx.crcOk then dropCounted p Counters.failCrc s
  else
    match FrameKind.ofCode (byteAt x.rx.taken 2) with
    | none => dropCounted p Counters.truncate s
    | some k =>
      if droppedDestination p k (byteAt x.rx.taken 0) then
        soundFrame p (modPort p (fun x => { x.leaveFrame with counters := x.counters.dropAddress }) s)
      else if inboundPlaces ≤ x.inq.length then dropCounted p Counters.overran s
      else soundFrame p (modPort p (fun x => x.enqueue (x.rx.frame k)) s)

/-- A complete frame is checked (R168). -/
def frameComplete (p : Port) (s : State) : State :=
  let r := (s.port p).rx
  if r.phase = .inFrame ∧ r.complete ∧ !r.exhausted then checkFrame p s else s

/-- FRAME_COMPLETE (R168). -/
def execFrameComplete (p : Port) (s : State) : Host.Outcome State Fault Refusal := .next (whenRunning (frameComplete p) s)

/-! The Frame Classifier (R169). -/

/-- A MANAGE frame to 240 (R169). -/
def Frame.forResponder (f : Frame) : Bool := f.kind == .manage && f.dest.toNat == Config.supervisorAddr

/-- A head frame that the Classifier forwards without handing it to a block (R169). -/
def forwardable (s : State) (p : Port) (f : Frame) : Bool :=
  match p with
  | .s => !f.forResponder && !(s.supervising && f.kind == .order)
  | .f => !(s.supervising && (f.kind == .report || f.kind == .reply))

/-- The Classifier may forward the head frame of a port (R169). -/
def forwardReady (p : Port) (s : State) (f : Frame) : Bool := forwardable s p f && forwardRoom s (otherPort p)

/-- FRAME_FORWARD (R169). -/
def execFrameForward (p : Port) (s : State) : Host.Outcome State Fault Refusal :=
  .next (whenRunning (takeHead p (forwardReady p) (enqueueForward (otherPort p))) s)

/-! Transmit arbitration (R171). -/

/-- A transmitter takes a frame for sending, with the port's settings (R165, R171). -/
def beginSend (p : Port) (f : Frame) (s : State) : State :=
  modPort p (fun x => { x with tx := some ⟨f, x.settings, 0, 0⟩ }) s

/-- The head of a port's forward queue leaves it (R170). -/
def dropForward (p : Port) (s : State) : State := modPort p (fun x => { x with fwd := x.fwd.drop 1 }) s

/-- Port F with an empty priority queue: the forward head is taken, withheld, or stays (R112, R171). -/
def takeForwardF (f : Frame) (s : State) : State :=
  if sendingGuardFails s f then
    (if replyRoom s then withholdOrder f (dropForward .f s) else s)
  else beginSend .f f (dropForward .f s)

/-- The Port F arbitration (R171). -/
def transmitF (s : State) : State :=
  match s.prio with
  | x :: rest => beginSend .f x.frame (s.withPrio rest)
  | [] =>
    match s.portF.fwd with
    | f :: _ => takeForwardF f s
    | [] => s

/-- How a Reset FULL comes on when a reply frame is taken for sending (R190). -/
def FullReset.replyTaken : FullReset → FullReset
  | .waiting n => if n ≤ 1 then .sending else .waiting (n - 1)
  | x => x

/-- A notice leaves the Notice Queue for sending; the forward run count becomes 0 (R62, R171). -/
def sendNotice (f : Frame) (s : State) : State :=
  beginSend .s f ((s.withAlarm { s.alarm with notices := s.alarm.notices.drop 1 }).withFwdRun 0)

/-- A forwarded frame leaves the Port S forward queue for sending; the forward run count gains 1, stopping at 4 (R171). -/
def sendForwardS (f : Frame) (s : State) : State :=
  beginSend .s f ((dropForward .s s).withFwdRun (satAdd 4 s.fwdRun 1))

/-- The Port S choice between the forward queue and the Notice Queue (R171). -/
def transmitSOthers (s : State) : State :=
  match s.portS.fwd, s.alarm.notices with
  | f :: _, n :: _ => if s.fwdRun = 4 then sendNotice n s else sendForwardS f s
  | f :: _, [] => sendForwardS f s
  | [], n :: _ => sendNotice n s
  | [], [] => s

/-- The Port S arbitration (R171); from a Reset FULL on it takes from the reply queue alone (R190). -/
def transmitS (s : State) : State :=
  match s.replyQ with
  | f :: rest => beginSend .s f ((s.withReplyQ rest).withFullReset s.fullReset.replyTaken)
  | [] => if s.takesFrames then transmitSOthers s else s

/-- A free transmitter takes its next frame (R171). -/
def transmitTake (p : Port) (s : State) : State :=
  if (s.port p).tx.isSome then s
  else
    match p with
    | .s => transmitS s
    | .f => transmitF s

/-- TRANSMIT_TAKE (R171). -/
def execTransmitTake (p : Port) (s : State) : Host.Outcome State Fault Refusal := .next (whenRunning (transmitTake p) s)

/-! Sending (R166, R172). -/

/-- The transmitter has finished a frame: when it is the reply of a Reset FULL, the full reset is to be taken (R190). -/
def FullReset.frameEnded : Port → FullReset → FullReset
  | .s, .sending => .finished
  | _, x => x

/-- A transmitter becomes free under a counter (R172). -/
def endSend (p : Port) (count : Counters → Counters) (s : State) : State :=
  modPort p (fun x => { x with tx := none, counters := count x.counters })
    (s.withFullReset (FullReset.frameEnded p s.fullReset))

/-- FRAMES_OUT gains 1 (R173). -/
def Counters.frameOut (c : Counters) : Counters := { c with framesOut := countUp c.framesOut }

/-- ABANDONED_TX gains 1 (R173). -/
def Counters.abandonTx (c : Counters) : Counters := { c with abandonedTx := countUp c.abandonedTx }

/-- The frame being sent ends as sent (R172). -/
def frameSent (p : Port) (s : State) : State :=
  if (s.port p).tx.isSome then endSend p Counters.frameOut s else s

/-- FRAME_SENT (R172). -/
def execFrameSent (p : Port) (s : State) : Host.Outcome State Fault Refusal := .next (whenRunning (frameSent p) s)

/-- The frame being sent is abandoned at the fifth refusal of a character that has been repeated four times (R166,
R172). -/
def abandonTx (p : Port) (s : State) : State :=
  match (s.port p).tx with
  | some t => if t.refusals + 1 = maxSendings then scoreUp p (endSend p Counters.abandonTx s) else s
  | none => s

/-- ABANDONED_TX (R172). -/
def execAbandonedTx (p : Port) (s : State) : Host.Outcome State Fault Refusal := .next (whenRunning (abandonTx p) s)

/-- How many characters a frame has (R177). -/
def Frame.charCount (f : Frame) : Nat := 7 + f.payload.length

/-- The refusals of the character at a position after one more, if it may be repeated (R166; log entry 10). -/
def Tx.repeatAt (t : Tx) (char : Nat) : Option Tx :=
  if char = t.char ∧ t.refusals + 1 < maxSendings then some { t with refusals := t.refusals + 1 }
  else if t.char < char ∧ char < t.frame.charCount then some { t with char := char, refusals := 1 }
  else none

/-- A refused character is sent again (R166). -/
def characterRepeated (p : Port) (char : Nat) (s : State) : State :=
  match (s.port p).tx.bind (·.repeatAt char) with
  | some t => modPort p (fun x => { x with tx := some t, counters := x.counters.repeated }) s
  | none => s

/-- CHARACTER_REPEATED (R166). -/
def execCharacterRepeated (p : Port) (char : Nat) (s : State) : Host.Outcome State Fault Refusal :=
  .next (whenRunning (characterRepeated p char) s)

/-! The port requests (R173, R187). -/

/-- One of the four bit rates (R165). -/
def bitRateOk (v : Nat) : Bool := v == 19200 || v == 57600 || v == 115200 || v == 460800

/-- A setting that refuses the request (R187). -/
def portFieldBad : PortField × Nat → Bool
  | (.bitRate, v) => !bitRateOk v
  | _ => false

/-- A carried setting as it is stored (R165, R187). -/
def portValue : PortField × Nat → Nat
  | (.bitRate, v) => v
  | (.guard, v) => clamp 0 15 v
  | (.waitLimit, v) => clamp 2 255 v
  | (.raiseLevel, v) => clamp 1 255 v

/-- One setting stored (R187). -/
def setPortField (x : LineSettings) (v : Nat) : PortField → LineSettings
  | .bitRate => { x with bitRate := v }
  | .guard => { x with guard := v }
  | .waitLimit => { x with waitLimit := v }
  | .raiseLevel => { x with raiseLevel := v }

/-- The carried settings stored one after the other (R187; log entry 24). -/
def storePortFields (x : LineSettings) (fs : List (PortField × Nat)) : LineSettings :=
  fs.foldl (fun x f => setPortField x (portValue f) f.1) x

/-- Write Port Settings (R187). -/
def writePortEffect (port : Nat) (fs : List (PortField × Nat)) (s : State) : State × ManageReply :=
  match portOfCode port with
  | none => (s, replyRefused 11 .badValue)
  | some p =>
    refuseIf (fs.isEmpty || fs.any portFieldBad) (replyRefused 11 .badValue) (fun s =>
      (modPort p (fun x => { x with settings := storePortFields x.settings fs }) s,
        replyClamped 11 (fs.any (fun f => portValue f != f.2)))) s

/-- The number of a port setting in R187, by which the free values of its identifier and width name it (log entry 3). -/
def portFieldNumber : PortField → Nat
  | .bitRate => 1
  | .guard => 2
  | .waitLimit => 3
  | .raiseLevel => 4

/-- The port settings, in the order of R187. -/
def portFields : List PortField := [.bitRate, .guard, .waitLimit, .raiseLevel]

/-- The identifier of a port setting and the bytes of its value (R184, R187; log entry 3). -/
def portFieldForm (k : PortField) : Byte × Nat := (Config.fieldIdentifier 11 (portFieldNumber k), fieldBytes 11 (portFieldNumber k) 1)

/-- The form of a Write Port Settings: the port, one byte, then the named settings (R178, R184, R187; log entry 3). -/
def portForm (fs : List (PortField × Nat)) : FieldForm := .named 1 (fs.map (fun f => portFieldForm f.1))

/-- WRITE_PORT_SETTINGS (R187). -/
def execWritePortSettings (port : Nat) (fs : List (PortField × Nat)) (s : State) : Host.Outcome State Fault Refusal :=
  .next (request 11 (portForm fs) (writePortEffect port fs) s)

/-- The counters of both ports and the two Tracker counts set to 0 (R173). -/
def clearCounts (s : State) : State :=
  let s := modPort .s (fun x => { x with counters := zeroCounters }) s
  let s := modPort .f (fun x => { x with counters := zeroCounters }) s
  s.withTracker { s.tracker with siteExpiries := 0, unmatched := 0 }

/-- Read Port Counters (R173). -/
def readCountersEffect (clear : Bool) (s : State) : State × ManageReply :=
  (if clear then clearCounts s else s,
    replyWith 32 (.portCounters s.portS.counters s.portF.counters s.portS.score s.portF.score
      s.tracker.siteExpiries s.tracker.unmatched))

/-- READ_PORT_COUNTERS (R173). -/
def execReadPortCounters (clear : Bool) (s : State) : Host.Outcome State Fault Refusal :=
  .next (request 32 (.flag clear) (readCountersEffect clear) s)

end Sys2Proof.Machine
end

