-- ==== Sys2Proof/Machine/Visits.lean ====
section
/-! DEFINITION. The Visit Register (R147 to R164): opening, the hand-off of a cabinet report, the visit timers, closing,
force closing and cancelling, and the door judgement. -/

namespace Sys2Proof.Machine

/-- The Visit Register with an entry replaced. -/
def setVisit (k : Nat) (v : Option Visit) (s : State) : State :=
  s.withVisits { s.visits with entries := s.visits.entries.setIfInBounds k v }

/-- The entry at an index of the register, if it is occupied (R147). -/
def visitEntry? (s : State) (k : Nat) : Option Visit := (s.visits.entries[k]?).join

/-- The first occupied entry that satisfies a test, with its index. -/
def findVisit (s : State) (p : Visit → Bool) : Option (Nat × Visit) :=
  (List.range 8).findSome? (fun k => ((visitEntry? s k).filter p).map (fun v => (k, v)))

/-- The entry that holds a visit id (R147). -/
def visitById (s : State) (id : Nat) : Option (Nat × Visit) := findVisit s (·.id == id)

/-- The entry whose cabinet scope holds a cabinet (R152). -/
def visitOfCabinet (s : State) (c : Nat) : Option (Nat × Visit) := findVisit s (·.cabinets.contains c)

/-- The first scoped cabinet (R147). -/
def Visit.first (v : Visit) : Nat := v.cabinets.headD 0

/-- A reported mode meets a depth (R148). -/
def Depth.meets : Depth → Option Mode → Bool
  | .doorOnly, _ => true
  | .bypass, m => m == some .maintBypass || m == some .standby || m == some .isolated
  | .isolation, m => m == some .isolated

/-- A cabinet meets a depth on its reported mode as it stands in the Cabinet Table (R148). -/
def cabinetMeets (s : State) (d : Depth) (c : Nat) : Bool := d.meets ((cab? s c).bind (·.reported))

/-- The visit's condition is met (R148). -/
def conditionMet (s : State) (v : Visit) : Bool := v.cabinets.all (cabinetMeets s v.depth)

/-- A cabinet's door stands OPEN in the Cabinet Table (R156). -/
def doorOpen (s : State) (c : Nat) : Bool := (cab? s c).any (fun r => r.door == .opened)

/-- Every scoped door stands CLOSED in the Cabinet Table (R156). -/
def doorsClosed (s : State) (v : Visit) : Bool := !v.cabinets.any (doorOpen s)

/-- The VISIT_STATE notice (R61, R181). -/
def visitNotice (v : Visit) (st : VisitState) (s : State) : State :=
  queueNotice .visitState [byteOf v.id, byteOf st.toCode, flagByte v.overstay] s

/-- A PREPARING visit activates (R153). -/
def activateVisit (k : Nat) (v : Visit) (s : State) : State :=
  let w : Visit := { v with
    state := .active
    activeFrom := some s.clock.sec
    prepareTimer := none
    durationTimer := some (.begin s.now (v.duration * 60000)) }
  visitNotice w .active (setVisit k (some w) s)

/-- A PREPARING visit judges its condition (R153). -/
def judgePreparing (k : Nat) (v : Visit) (s : State) : State :=
  if conditionMet s v then activateVisit k v s else s

/-- An alarm code is cleared for each cabinet of a list, in its order. DESIGN CHOICE (log entry 17): R159 clears for each
cabinet of the scope and does not say in which order; the model takes the scope as it is kept, by ascending index (R147). -/
def clearEach (code : Nat) (cs : List Nat) (s : State) : State :=
  cs.foldl (fun s c => clear code (.cabinet c) s) s

/-- DOOR_LEFT_OPEN is raised for each cabinet of a scope whose door stands OPEN, by ascending index (R156, R157). -/
def raiseOpenDoors (v : Visit) (s : State) : State :=
  (v.cabinets.filter (doorOpen s)).foldl
    (fun s c => raise codeDoorLeftOpen (.cabinet c) (some (detailNat v.id)) s) s

/-- A visit leaves the register as CLOSED or CANCELLED; `byDoors` says that it is CLOSED through its doors (R159). The
entry is freed first: from step 1 on the scope belongs to no visit. -/
def leaveRegister (k : Nat) (v : Visit) (final : VisitState) (byDoors : Bool) (s : State) : State :=
  let s := setVisit k none s
  let s := clearEach codeVisitConditionLost v.cabinets s
  let s := if byDoors then
      clearEach codeDoorLeftOpen v.cabinets (clear codeVisitOverstay (.cabinet v.first) s)
    else s
  let s := unshelveScopes v.id v.cabinets v.strings s
  visitNotice v final s

/-- A cabinet of an ACTIVE or CLOSING visit is judged against the depth condition (R155). -/
def judgeCondition (v : Visit) (c : Nat) (s : State) : State :=
  raiseOrClear (!cabinetMeets s v.depth c) codeVisitConditionLost (.cabinet c) (some (detailNat v.id)) s

/-- The door of a cabinet of a CLOSING visit is judged (R156). -/
def judgeClosingDoor (k : Nat) (v : Visit) (c : Nat) (d : Door) (s : State) : State :=
  match d with
  | .closed =>
    let s := clear codeDoorLeftOpen (.cabinet c) s
    if doorsClosed s v then leaveRegister k v .closed true s else s
  | .opened =>
    if v.closeLimitPassed then raise codeDoorLeftOpen (.cabinet c) (some (detailNat v.id)) s else s

/-- Step 1 of a hand-off: the visit's own work (R152). -/
def visitWork (h : VisitHand) (s : State) : State :=
  match visitOfCabinet s h.cabinet with
  | some (k, v) =>
    match v.state with
    | .preparing => judgePreparing k v s
    | .active => judgeCondition v h.cabinet s
    | .closing => judgeClosingDoor k v h.cabinet h.door (judgeCondition v h.cabinet s)
    | _ => s
  | none => s

/-- A cabinet lies in the scope of an ACTIVE or CLOSING visit (R160). -/
def inOpenScope (s : State) (c : Nat) : Bool := (visitsIn s VisitState.shelves).any (·.cabinets.contains c)

/-- The visit id the Force Close list holds for a cabinet (R160). -/
def forceClosed? (s : State) (c : Nat) : Option Nat := (s.visits.forceClose.find? (fun p => p.1 == c)).map Prod.snd

/-- A cabinet's pair leaves the Force Close list (R160). -/
def releaseForce (c : Nat) (s : State) : State :=
  s.withVisits { s.visits with forceClose := s.visits.forceClose.filter (fun p => p.1 != c) }

/-- Step 2 of a hand-off: the door judgement (R160). -/
def doorJudgement (c : Nat) (d : Door) (s : State) : State :=
  if inOpenScope s c then
    match d with
    | .opened => s
    | .closed => clear codeDoorOpenUnscoped (.cabinet c) s
  else
    match forceClosed? s c, d with
    | some id, .opened => raise codeDoorLeftOpen (.cabinet c) (some (detailNat id)) s
    | some _, .closed =>
      clear codeDoorOpenUnscoped (.cabinet c)
        (clear codeVisitOverstay (.cabinet c) (clear codeDoorLeftOpen (.cabinet c) (releaseForce c s)))
    | none, .opened => raise codeDoorOpenUnscoped (.cabinet c) none s
    | none, .closed => clear codeDoorOpenUnscoped (.cabinet c) s

/-- A hand-off at the Visit Register (R152). -/
def takeVisitHand (h : VisitHand) (s : State) : State := doorJudgement h.cabinet h.door (visitWork h s)

/-- VISIT_HAND_OFF (R152): the oldest hand-off is taken. -/
def execVisitHandOff (s : State) : Host.Outcome State Fault Refusal :=
  .next (whenRunning (fun s =>
    match s.hand.visit with
    | h :: rest => takeVisitHand h (s.withHand { s.hand with visit := rest })
    | [] => s) s)

/-! Timers (R153, R154, R156). -/

/-- A PREPARING visit's prepare timer expires (R153). -/
def prepareExpires (id : Nat) (s : State) : State :=
  match visitById s id with
  | some (k, v) =>
    if v.state = .preparing ∧ timerDue v.prepareTimer s.now then leaveRegister k v .cancelled false s else s
  | none => s

/-- PREPARE_TIMER_EXPIRY (R153). -/
def execPrepareTimerExpiry (id : Nat) (s : State) : Host.Outcome State Fault Refusal :=
  .next (whenRunning (prepareExpires id) s)

/-- An ACTIVE or CLOSING visit's duration timer expires (R154). -/
def durationExpires (id : Nat) (s : State) : State :=
  match visitById s id with
  | some (k, v) =>
    if v.state.shelves ∧ timerDue v.durationTimer s.now then
      raise codeVisitOverstay (.cabinet v.first) (some (detailNat v.id))
        (setVisit k (some { v with overstay := true, durationTimer := none }) s)
    else s
  | none => s

/-- DURATION_TIMER_EXPIRY (R154). -/
def execDurationTimerExpiry (id : Nat) (s : State) : Host.Outcome State Fault Refusal :=
  .next (whenRunning (durationExpires id) s)

/-- A CLOSING visit's close timer expires (R156). -/
def closeExpires (id : Nat) (s : State) : State :=
  match visitById s id with
  | some (k, v) =>
    if v.state = .closing ∧ timerDue v.closeTimer s.now then
      raiseOpenDoors v (setVisit k (some { v with closeLimitPassed := true, closeTimer := none }) s)
    else s
  | none => s

/-- CLOSE_TIMER_EXPIRY (R156). -/
def execCloseTimerExpiry (id : Nat) (s : State) : Host.Outcome State Fault Refusal :=
  .next (whenRunning (closeExpires id) s)

/-! Requests (R149 to R151, R156 to R158, R162). -/

/-- A carried cabinet scope without duplicates, ascending (R147, R149). -/
def cabinetScope (r : VisitReq) : List Nat := (List.range 24).filter r.cabinets.contains

/-- A carried string scope without duplicates, ascending (R147, R149). -/
def stringScope (r : VisitReq) : List Nat := (List.range 32).filter r.strings.contains

/-- The BAD_VALUE check of Visit Open, but for the depth (R149). The entry counts are those of the scopes without
duplicates: at most 24 and 32 by the range of the indices. -/
def visitBadValue (r : VisitReq) : Bool :=
  r.id == 0 || decide (255 < r.id) || r.cabinets.isEmpty || r.cabinets.any (fun c => decide (24 ≤ c)) ||
    r.strings.any (fun i => decide (32 ≤ i))

/-- The lowest offending cabinet index, or the lowest offending string index when no cabinet offends (R149). -/
def offending (r : VisitReq) (cab str : Nat → Bool) : Option Nat :=
  ((cabinetScope r).find? cab).or ((stringScope r).find? str)

/-- The SCOPE check: unconfigured cabinets, and strings unconfigured or owned outside the scope (R149). -/
def scopeOffender (s : State) (r : VisitReq) : Option Nat :=
  offending r (fun c => (cab? s c).isNone)
    (fun i => (str? s i).isNone || !(strNode? s i).any (fun n => r.cabinets.contains n.owner))

/-- The OVERLAP check (R149, R150). -/
def overlapOffender (s : State) (r : VisitReq) : Option Nat := offending r (cabCovered s) (strCovered s)

/-- A plan conflicts with a visit on a cabinet: a RESTORE of it, or a GROUP_FROM_MAINT of its group (R150). -/
def Plan.conflictsWith (p : Plan) (c : Nat) (group : Option Nat) : Bool :=
  (p.kind == .restore && p.target == some c) || (p.kind == .groupFromMaint && group == some p.group)

/-- The PLAN_CONFLICT check (R149, R150). -/
def conflictOffender (s : State) (r : VisitReq) : Option Nat :=
  (cabinetScope r).find? (fun c => (s.seq.plans.toList.filterMap id).any (·.conflictsWith c (groupOf? s c)))

/-- The record a Visit Open fills, PREPARING (R147, R151). -/
def preparingVisit (s : State) (r : VisitReq) (d : Depth) : Visit where
  id := r.id
  cabinets := cabinetScope r
  strings := stringScope r
  depth := d
  duration := clamp 1 720 r.duration
  prepareLimit := clamp 1 120 r.prepareLimit
  state := .preparing
  openedAt := s.clock.sec
  activeFrom := none
  closingFrom := none
  overstay := false
  closeLimitPassed := false
  prepareTimer := some (.begin s.now (clamp 1 120 r.prepareLimit * 60000))
  durationTimer := none
  closeTimer := none

/-- Step 2 of Visit Open: a scoped cabinet in the Force Close list leaves it, its alarms cleared (R151). DESIGN CHOICE (log
entry 17): the cabinets are taken by ascending index, and R151 does not say in which order. -/
def releaseScoped (cs : List Nat) (s : State) : State :=
  (cs.filter (fun c => (forceClosed? s c).isSome)).foldl
    (fun s c => clear codeDoorLeftOpen (.cabinet c) (clear codeVisitOverstay (.cabinet c) (releaseForce c s))) s

/-- The steps of an accepted Visit Open in the entry `k` (R151). -/
def openVisit (k : Nat) (v : Visit) (s : State) : State :=
  let s := setVisit k (some v) s
  let s := releaseScoped v.cabinets s
  let s := visitNotice v .preparing s
  judgePreparing k v s

/-- The lowest free entry of the register (R147). -/
def freeEntry (s : State) : Option Nat := (List.range 8).find? (fun k => (visitEntry? s k).isNone)

/-- The state an entry of the register has, CLOSED for a freed one. -/
def stateReached (s : State) (k : Nat) : VisitState := ((visitEntry? s k).map (·.state)).getD .closed

/-- A scope check of Visit Open: an offending index refuses the request and is its detail (R149). -/
def refuseOffender (o : Option Nat) (c : Cause) (rest : State → State × ManageReply) (s : State) :
    State × ManageReply :=
  match o with
  | some n => (s, replyRefusedAt 27 c n)
  | none => rest s

/-- Visit Open: the checks of R149 in their order, then the steps of R151. -/
def visitOpenEffect (r : VisitReq) (s : State) : State × ManageReply :=
  refuseIf (!s.supervising) (replyRefused 27 .mode) (fun s =>
    match Depth.ofCode r.depth with
    | none => (s, replyRefused 27 .badValue)
    | some d =>
      refuseIf (visitBadValue r) (replyRefused 27 .badValue) (fun s =>
        match freeEntry s with
        | none => (s, replyRefused 27 .full)
        | some k =>
          refuseIf (visitById s r.id).isSome (replyRefused 27 .id)
            (refuseOffender (scopeOffender s r) .scope
              (refuseOffender (overlapOffender s r) .overlap
                (refuseOffender (conflictOffender s r) .planConflict (fun s =>
                  let v := preparingVisit s r d
                  let t := openVisit k v s
                  let clamped := v.duration != r.duration || v.prepareLimit != r.prepareLimit
                  (t, { replyClamped 27 clamped with result := .visitState (stateReached t k) }))))) s) s) s

/-- The form of a Visit Open: the id, the two scopes with their own counts, the depth, the duration and the prepare limit
(R149, R184; log entry 3). -/
def visitForm (r : VisitReq) : FieldForm :=
  .lists (fieldBytes 27 0 1) 1 [r.cabinets.length, r.strings.length] (fieldBytes 27 1 3)

/-- VISIT_OPEN (R149 to R151). -/
def execVisitOpen (r : VisitReq) (s : State) : Host.Outcome State Fault Refusal := .next (request 27 (visitForm r) (visitOpenEffect r) s)

/-- The checks the requests on one visit share: the mode, the id, the state (R156 to R158). -/
def onVisit (code : Nat) (id : Nat) (allowed : VisitState → Bool)
    (act : Nat → Visit → State → State × ManageReply) (s : State) : State × ManageReply :=
  refuseIf (!s.supervising) (replyRefused code .mode) (fun s =>
    match visitById s id with
    | none => (s, replyRefused code .notFound)
    | some (k, v) => refuseIf (!allowed v.state) (replyRefused code .state) (act k v) s) s

/-- The steps of an accepted Visit Close (R156). -/
def closeVisit (k : Nat) (v : Visit) (s : State) : State :=
  let w : Visit := { v with
    state := .closing
    closingFrom := some s.clock.sec
    closeTimer := some (.begin s.now (v.prepareLimit * 60000)) }
  let s := visitNotice w .closing (setVisit k (some w) s)
  if doorsClosed s w then leaveRegister k w .closed true s else s

/-- Visit Close (R156). -/
def visitCloseEffect (id : Nat) : State → State × ManageReply :=
  onVisit 28 id (· == .active) (fun k v s =>
    let t := closeVisit k v s
    (t, replyWith 28 (.visitState (stateReached t k))))

/-- VISIT_CLOSE (R156). -/
def execVisitClose (id : Nat) (s : State) : Host.Outcome State Fault Refusal := .next (request 28 (plainForm 28) (visitCloseEffect id) s)

/-- Every cabinet of a scope is placed in the Force Close list with the visit id (R157, R160). -/
def placeForce (v : Visit) (s : State) : State :=
  s.withVisits { s.visits with
    forceClose := s.visits.forceClose.filter (fun p => !v.cabinets.contains p.1) ++ v.cabinets.map (fun c => (c, v.id)) }

/-- The steps of an accepted Visit Force Close (R157). -/
def forceCloseVisit (k : Nat) (v : Visit) (s : State) : State :=
  leaveRegister k v .closed false (placeForce v (raiseOpenDoors v s))

/-- Visit Force Close (R157). -/
def visitForceCloseEffect (id : Nat) : State → State × ManageReply :=
  onVisit 29 id VisitState.shelves (fun k v s => (forceCloseVisit k v s, replyOk 29))

/-- VISIT_FORCE_CLOSE (R157). -/
def execVisitForceClose (id : Nat) (s : State) : Host.Outcome State Fault Refusal :=
  .next (request 29 (plainForm 29) (visitForceCloseEffect id) s)

/-- Visit Cancel (R158). -/
def visitCancelEffect (id : Nat) : State → State × ManageReply :=
  onVisit 30 id (· == .preparing) (fun k v s => (leaveRegister k v .cancelled false s, replyOk 30))

/-- VISIT_CANCEL (R158). -/
def execVisitCancel (id : Nat) (s : State) : Host.Outcome State Fault Refusal := .next (request 30 (plainForm 30) (visitCancelEffect id) s)

/-- The summary Read Visit gives for id 0, by ascending entry index (R162). -/
def visitSummary (s : State) : List (Nat × VisitState) :=
  (s.visits.entries.toList.filterMap id).map (fun v => (v.id, v.state))

/-- The time left on a timer, absent while it is stopped (R145, R162). -/
def runningLeft (t : Option Timer) (now : Word32) : Option Nat := t.map (·.left now)

/-- Read Visit (R162). DESIGN CHOICE (log entry 43): the Force Close pairs of the id stand in the order in which they entered
the list. -/
def readVisitEffect (id : Nat) (s : State) : State × ManageReply :=
  refuseIf (!s.supervising) (replyRefused 31 .mode) (fun s =>
    if id = 0 then (s, replyWith 31 (.visitSummary (visitSummary s)))
    else
      match visitById s id with
      | none => (s, replyRefused 31 .notFound)
      | some (_, v) =>
        (s, replyWith 31 (.visit v (runningLeft v.prepareTimer s.now) (runningLeft v.durationTimer s.now)
          (runningLeft v.closeTimer s.now) (s.visits.forceClose.filter (fun p => p.2 == id))))) s

/-- READ_VISIT (R162). -/
def execReadVisit (id : Nat) (s : State) : Host.Outcome State Fault Refusal := .next (request 31 (plainForm 31) (readVisitEffect id) s)

end Sys2Proof.Machine
end

