-- ==== Sys2Proof/Machine/Requests.lean ====
section
/-! DEFINITION. The management requests on the directory, the supervision mode, the records and the alarms (R3, R4, R17 to
R19, R21, R46, R53, R57, R184, R186, R188). -/

namespace Sys2Proof.Machine

/-! BAD_REQUEST (R184). -/

/-- What the bytes behind a request code have to be for some command's fields: one of some lengths; a head and then fields
whose identifiers the code knows; or variable lists with their own counts (R184; log entry 3). -/
inductive RequestShape where
  | sizes (ns : List Nat)
  | named (head : Nat) (known : List (Byte × Nat))
  | lists (before width count behind : Nat)
  deriving DecidableEq, Repr

/-- The bytes are named fields of a code one after the other, each known and with its value (R184). The first argument is
the number of fields looked for at most. -/
def namedParse (known : List (Byte × Nat)) : Nat → List Byte → Bool
  | _, [] => true
  | 0, _ :: _ => false
  | fuel + 1, b :: p =>
    known.any (fun x => b == x.1 && decide (x.2 ≤ p.length) && namedParse known fuel (p.drop x.2))

/-- The bytes are some lists one after the other, each of the length its own count says, and then `behind` bytes (R184). -/
def listsParse (width behind : Nat) : Nat → List Byte → Bool
  | 0, p => p.length == behind
  | _ + 1, [] => false
  | count + 1, b :: p =>
    decide (width * b.toNat ≤ p.length) && listsParse width behind count (p.drop (width * b.toNat))

/-- The bytes have a shape (R184). -/
def RequestShape.admits : RequestShape → List Byte → Bool
  | .sizes ns, p => ns.contains p.length
  | .named head known, p => decide (head ≤ p.length) && namedParse known p.length (p.drop head)
  | .lists before width count behind, p =>
    decide (before ≤ p.length) && listsParse width behind count (p.drop before)

/-- The shape of each request of R185 (R178, R184; log entry 3): no field for Read Identity, Start and Stop Supervision and
Commit Ageing Parameters; kind and class for Write Gate Entry; the copy for Read Ageing Parameters, the clear flag for Read
Port Counters, the kind for Reset; the forms of Write Node Entry, Read String Ageing and Plan Request; named fields and
variable lists where R184 says so; and one length for the others. -/
def requestShape : Nat → Option RequestShape
  | 1 | 5 | 6 | 13 => some (.sizes [0])
  | 10 => some (.sizes [2])
  | 14 | 32 | 33 => some (.sizes [1])
  | 2 => some (.sizes [fieldBytes 2 1 9, fieldBytes 2 2 10, fieldBytes 2 3 9, fieldBytes 2 4 5])
  | 18 => some (.sizes [fieldBytes 18 1 2, fieldBytes 18 2 3])
  | 23 => some (.sizes [fieldBytes 23 1 2, fieldBytes 23 2 3])
  | 7 => some (.named (fieldBytes 7 0 1) (groupFields.map groupFieldForm))
  | 11 => some (.named 1 (portFields.map portFieldForm))
  | 12 => some (.named 0 (ageingFields.map ageingFieldForm))
  | 19 => some (.lists (fieldBytes 19 0 8) 2 1 (fieldBytes 19 1 2))
  | 27 => some (.lists (fieldBytes 27 0 1) 1 2 (fieldBytes 27 1 3))
  | code => if 1 ≤ code ∧ code ≤ 33 then some (.sizes [fieldBytes code 0 (leastBytes code)]) else none

/-- A MANAGE payload parses: its code is one of R185, and the bytes behind it have the code's shape (R184). -/
def requestParses (f : Frame) : Bool :=
  ((requestCode f).bind requestShape).any (fun shape => shape.admits (requestFieldBytes f))

/-- The answer to a MANAGE frame that does not parse: its first byte as the request code, 0 when it has none (R183,
R184). -/
def badRequestReply (f : Frame) : ManageReply := ⟨(requestCode f).getD 0, .badRequest, none, none, .none⟩

/-- MANAGE_BAD_REQUEST (R184): the frame at the head, when it does not parse, is answered BAD_REQUEST and nothing else
changes. -/
def badRequest (s : State) : State :=
  match manageHead? s with
  | some f =>
    if responderReady s ∧ !requestParses f then
      enqueueReply (manageReplyFrame f.seq (badRequestReply f)) (dropHead .s s)
    else s
  | none => s

/-- MANAGE_BAD_REQUEST (R184). -/
def execManageBadRequest (s : State) : Host.Outcome State Fault Refusal := .next (whenRunning badRequest s)

/-! Read Identity (R186). -/

/-- Read Identity (R186). -/
def readIdentityEffect (s : State) : State × ManageReply :=
  (s, replyWith 1 (.identity Config.partCode Config.designLevel s.resp.mode s.clock.sec s.clock.ms
    (dirEntries s.resp.dir).length (plansHeld s).length (visitsIn s (fun _ => true)).length s.alarm.list.length))

/-- READ_IDENTITY (R186). -/
def execReadIdentity (s : State) : Host.Outcome State Fault Refusal := .next (request 1 (.exactly []) readIdentityEffect s)

/-! The Node Directory (R3, R4). -/

/-- A role field set that is refused: neither role, or a structural field out of its range (R2, R3). -/
def roleBad : NodeRoleReq → Bool
  | .cabinet index group _ _ _ => decide (24 ≤ index) || decide (4 ≤ group)
  | .stringMonitor index owner blocks _ =>
    decide (32 ≤ index) || decide (24 ≤ owner) || decide (blocks < 1) || decide (40 < blocks)
  | .otherRole => true

/-- The role of an entry as it is stored, its numeric fields clamped (R2, R3). -/
def storedRole : NodeRoleReq → Option NodeRole
  | .cabinet index group lead rating restoreLimit =>
    some (.cabinet ⟨index, group, lead, clamp 10 1000 rating, clamp 0 1000 (restoreLimit.getD 1000)⟩)
  | .stringMonitor index owner blocks capacity =>
    some (.stringMonitor ⟨index, owner, blocks, clamp 1 2000 capacity⟩)
  | .otherRole => none

/-- A numeric role field was clamped (R3). -/
def roleClamped : NodeRoleReq → Bool
  | .cabinet _ _ _ rating restoreLimit => (clamped 10 1000 rating).2 || restoreLimit.any (fun v => (clamped 0 1000 v).2)
  | .stringMonitor _ _ _ capacity => (clamped 1 2000 capacity).2
  | .otherRole => false

/-- The structural fields of a request and its index are in range (R3). -/
def nodeBad (index : Nat) (r : NodeReq) : Bool :=
  decide (56 ≤ index) || decide (r.addr < 1) || decide (239 < r.addr) || roleBad r.role

/-- The entry a Write Node Entry stores (R3). -/
def storedEntry (r : NodeReq) : Option DirEntry :=
  (storedRole r.role).map (fun role => ⟨r.addr, clamp 500 60000 r.interval, clamp 1 15 r.missLimit, role⟩)

/-- A field of the request was clamped (R3). -/
def entryClamped (r : NodeReq) : Bool :=
  (clamped 500 60000 r.interval).2 || (clamped 1 15 r.missLimit).2 || roleClamped r.role

/-- The directory with an entry replaced. -/
def setDir (index : Nat) (e : Option DirEntry) (s : State) : State :=
  s.withResp { s.resp with dir := s.resp.dir.setIfInBounds index e }

/-- Write Node Entry (R3). -/
def writeNodeEffect (index : Nat) (r : NodeReq) (s : State) : State × ManageReply :=
  refuseIf s.supervising (replyRefused 2 .mode)
    (refuseIf (nodeBad index r) (replyRefused 2 .badValue)
      (fun s => (setDir index (storedEntry r) s, replyClamped 2 (entryClamped r)))) s

/-- The form of a Write Node Entry: the index, the common fields, and those of the role; the restore share limit may be
left out (R2, R3, R184; log entry 3). -/
def nodeForm (r : NodeReq) : FieldForm :=
  .sized (match r.role with
    | .cabinet _ _ _ _ none => fieldBytes 2 1 9
    | .cabinet _ _ _ _ (some _) => fieldBytes 2 2 10
    | .stringMonitor _ _ _ _ => fieldBytes 2 3 9
    | .otherRole => fieldBytes 2 4 5)

/-- WRITE_NODE_ENTRY (R3). -/
def execWriteNodeEntry (index : Nat) (r : NodeReq) (s : State) : Host.Outcome State Fault Refusal :=
  .next (request 2 (nodeForm r) (writeNodeEffect index r) s)

/-- Clear Node Entry (R4). -/
def clearNodeEffect (index : Nat) (s : State) : State × ManageReply :=
  refuseIf s.supervising (replyRefused 3 .mode)
    (refuseIf (decide (56 ≤ index)) (replyRefused 3 .badValue) (fun s => (setDir index none s, replyOk 3))) s

/-- CLEAR_NODE_ENTRY (R4). -/
def execClearNodeEntry (index : Nat) (s : State) : Host.Outcome State Fault Refusal :=
  .next (request 3 (plainForm 3) (clearNodeEffect index) s)

/-- Read Node Entry (R4). -/
def readNodeEffect (index : Nat) (s : State) : State × ManageReply :=
  refuseIf (decide (56 ≤ index)) (replyRefused 4 .badValue)
    (fun s => (s, replyWith 4 (.nodeEntry ((s.resp.dir[index]?).join)))) s

/-- READ_NODE_ENTRY (R4). -/
def execReadNodeEntry (index : Nat) (s : State) : Host.Outcome State Fault Refusal :=
  .next (request 4 (plainForm 4) (readNodeEffect index) s)

/-! Start and Stop Supervision (R17 to R19). -/

/-- The occupied directory entries with their indices, ascending (R17). -/
def indexedEntries (dir : Vector (Option DirEntry) 56) : List (Nat × DirEntry) :=
  (List.range 56).filterMap (fun i => ((dir[i]?).join).map (fun e => (i, e)))

/-- A cabinet entry offends against the entries below it and the whole directory (R17). -/
def cabinetOffends (below all : List CabNode) (n : CabNode) : Bool :=
  below.any (fun m => m.index == n.index) ||
    decide (8 ≤ below.countP (fun m => m.group == n.group)) ||
    (n.lead && below.any (fun m => m.group == n.group && m.lead)) ||
    (!all.any (fun m => m.group == n.group && m.lead) && !below.any (fun m => m.group == n.group))

/-- A string-monitor entry offends against the entries below it and the whole directory (R17). -/
def stringOffends (below : List StrNode) (cabs : List CabNode) (n : StrNode) : Bool :=
  below.any (fun m => m.index == n.index) ||
    !cabs.any (fun m => m.index == n.owner) ||
    decide (4 ≤ below.countP (fun m => m.owner == n.owner))

/-- An entry of the directory offends (R17). -/
def entryOffends (all : List (Nat × DirEntry)) (i : Nat) (e : DirEntry) : Bool :=
  let below := (all.filter (fun x => decide (x.1 < i))).map Prod.snd
  below.any (fun x => x.addr == e.addr) ||
    (match e.role with
    | .cabinet n => cabinetOffends (below.filterMap (·.cab?)) (all.filterMap (fun x => x.2.cab?)) n
    | .stringMonitor n => stringOffends (below.filterMap (·.str?)) (all.filterMap (fun x => x.2.cab?)) n)

/-- What the directory consistency check answers: `none` when the directory passes, otherwise the refusal detail (R17;
log entry 21). -/
def directoryFault (dir : Vector (Option DirEntry) 56) : Option Nat :=
  let all := indexedEntries dir
  if all.any (fun x => x.2.cab?.isSome) then (all.find? (fun x => entryOffends all x.1 x.2)).map Prod.fst
  else some 255

/-- The Cabinet Table that Start Supervision creates (R7, R18). -/
def startCabs (s : State) : Vector (Option CabRec) 24 :=
  (Vector.range 24).map (fun c => (cabNode? s c).bind (fun e => e.cab?.map (startCabinet s.now e)))

/-- The String Table that Start Supervision creates (R13, R14, R18). -/
def startStrs (s : State) : Vector (Option StrRec) 32 :=
  (Vector.range 32).map (fun i => (strEntry? s i).bind (fun e => e.str?.map (startString s.now e)))

/-- The SUPERVISION_STATE notice (R61, R181). -/
def supervisionNotice (m : SupMode) (s : State) : State := queueNotice .supervisionState [byteOf m.toCode] s

/-- The steps of a Start Supervision whose directory passes (R18). -/
def startSupervision (s : State) : State :=
  supervisionNotice .supervising
    ((((s.withCabs (startCabs s)).withStrs (startStrs s)).withInsp
      { s.insp with records := resetRecords s.resp.limits }).withResp { s.resp with mode := .supervising })

/-- Start Supervision (R17, R18). -/
def startEffect (s : State) : State × ManageReply :=
  refuseIf s.supervising (replyRefused 5 .mode) (fun s =>
    match directoryFault s.resp.dir with
    | some i => (s, replyRefusedAt 5 .directory i)
    | none => (startSupervision s, replyOk 5)) s

/-- START_SUPERVISION (R17, R18). -/
def execStartSupervision (s : State) : Host.Outcome State Fault Refusal := .next (request 5 (.exactly []) startEffect s)

/-- A plan slot or a Visit Register entry is occupied (R19). -/
def floorBusy (s : State) : Bool := !(plansHeld s).isEmpty || !(visitsIn s (fun _ => true)).isEmpty

/-- The Alarm List entries Stop Supervision keeps (R19, R58). -/
def keepLinkErrors (l : List AlarmEntry) : List AlarmEntry := l.filter (fun e => e.code == codeLinkErrors)

/-- The steps of an accepted Stop Supervision (R19, R24). -/
def stopSupervision (s : State) : State :=
  let t := (s.withCabs (Vector.replicate 24 none)).withStrs (Vector.replicate 32 none)
  let t := t.withVisits { t.visits with forceClose := [] }
  let t := setOrders (t.tracker.orders.filter (fun e => !(e.origin == .site))) t
  let t := t.withInsp ⟨resetRecords t.resp.limits, none⟩
  let t := t.withHand ⟨[], [], []⟩
  let t := t.withAlarm { t.alarm with list := keepLinkErrors t.alarm.list }
  supervisionNotice .unconfigured (t.withResp { t.resp with mode := .unconfigured })

/-- Stop Supervision (R19). -/
def stopEffect (s : State) : State × ManageReply :=
  refuseIf (!s.supervising) (replyRefused 6 .mode)
    (refuseIf (floorBusy s) (replyRefused 6 .busy) (fun s => (stopSupervision s, replyOk 6))) s

/-- STOP_SUPERVISION (R19). -/
def execStopSupervision (s : State) : Host.Outcome State Fault Refusal := .next (request 6 (.exactly []) stopEffect s)

/-! The records (R21, R188). -/

/-- The checks the reads of a record share: the mode, the index, then the record's existence (R21). -/
def onRecord {α : Type} (code index top : Nat) (rec? : State → Nat → Option α)
    (act : α → State → State × ManageReply) (s : State) : State × ManageReply :=
  refuseIf (!s.supervising) (replyRefused code .mode)
    (refuseIf (decide (top ≤ index)) (replyRefused code .badValue) (fun s =>
      match rec? s index with
      | some r => act r s
      | none => (s, replyRefused code .notFound))) s

/-- Read Cabinet Record (R21). -/
def readCabinetEffect (c : Nat) : State → State × ManageReply :=
  onRecord 15 c 24 cab? (fun r s => (s, replyWith 15 (.cabinet r (timerLeft r.watch s.now) (cabReserve s c))))

/-- READ_CABINET_RECORD (R21). -/
def execReadCabinetRecord (c : Nat) (s : State) : Host.Outcome State Fault Refusal :=
  .next (request 15 (plainForm 15) (readCabinetEffect c) s)

/-- Read String Record: every field of the String Table record, the live fields and the ageing record that an update changes
(R13, R14, R21, R68), with the time left on the two timers (R26, R188). -/
def readStringEffect (i : Nat) : State → State × ManageReply :=
  onRecord 16 i 32 str? (fun r s =>
    (s, replyWith 16 (.string r.volts r.current r.temps r.serial (timerLeft r.watch s.now) r.liveness
      r.ageing (runningLeft r.ageing.recovery s.now))))

/-- READ_STRING_RECORD (R21). -/
def execReadStringRecord (i : Nat) (s : State) : Host.Outcome State Fault Refusal :=
  .next (request 16 (plainForm 16) (readStringEffect i) s)

/-- A first block number that lies outside 1 to the block count (R188). -/
def firstBlockBad (r : StrRec) (first : Nat) : Bool := decide (first < 1) || decide (r.volts.length < first)

/-- The greatest block count of a string (R2). -/
def maxBlocks : Nat := 40

/-- A first block number that lies outside the range of every string: a structural value, judged before the record's
existence (R2, R184, R188). DEDUCED for a number above 40 (log entry 22): R188 gives the range of the string's own block
count. -/
def firstBlockNever (first : Nat) : Bool := decide (first < 1) || decide (maxBlocks < first)

/-- The blocks a reply carries: up to 16, from a first block on (R188). -/
def replyBlocks {α : Type} (first : Nat) (l : List α) : List α := (l.drop (first - 1)).take 16

/-- A baseline list as the LISTS part carries it, in two bytes of µΩ each: above 65535 it is read as 65535 (R188). -/
def carriedBaselines (a : Ageing) : List Nat := a.baseline.map (min 65535)

/-- Read String Blocks: voltage, baseline and rise of each block as they stand (R21, R188). -/
def readBlocksEffect (i first : Nat) (s : State) : State × ManageReply :=
  refuseIf (!s.supervising) (replyRefused 17 .mode)
    (refuseIf (firstBlockNever first) (replyRefused 17 .badValue)
      (onRecord 17 i 32 str? (fun r =>
        refuseIf (firstBlockBad r first) (replyRefused 17 .badValue) (fun s =>
          (s, replyWith 17 (.blocks (replyBlocks first (r.volts.zip (r.ageing.baseline.zip r.ageing.rises))))))))) s

/-- READ_STRING_BLOCKS (R188). -/
def execReadStringBlocks (i first : Nat) (s : State) : Host.Outcome State Fault Refusal :=
  .next (request 17 (plainForm 17) (readBlocksEffect i first) s)

/-- The RECORD part: every field of the ageing record except the baseline and rise lists, and the time left on the
recovery timer (R188). -/
def ageingRecordResult (s : State) (r : StrRec) : Result :=
  .ageingRecord { r.ageing with baseline := [], rises := [] } (runningLeft r.ageing.recovery s.now)

/-- The LISTS part: baselines as two bytes carry them, and rises (R188). -/
def ageingListsResult (r : StrRec) (first : Nat) : Result :=
  .ageingLists (replyBlocks first ((carriedBaselines r.ageing).zip r.ageing.rises))

/-- Read String Ageing: part 1 is RECORD, 2 is LISTS (R178, R188). -/
def readAgeingEffect (i part first : Nat) (s : State) : State × ManageReply :=
  refuseIf (!s.supervising) (replyRefused 18 .mode)
    (refuseIf ((part != 1 && part != 2) || (part == 2 && firstBlockNever first)) (replyRefused 18 .badValue)
      (onRecord 18 i 32 str? (fun r =>
        refuseIf (part == 2 && firstBlockBad r first) (replyRefused 18 .badValue) (fun s =>
          (s, replyWith 18 (if part = 1 then ageingRecordResult s r else ageingListsResult r first)))))) s

/-- The form of a Read String Ageing: the index, the part, and the first block of the LISTS part (R184, R188; log entry
3). -/
def ageingReadForm (part : Nat) : FieldForm := .sized (if part = 2 then fieldBytes 18 2 3 else fieldBytes 18 1 2)

/-- READ_STRING_AGEING (R188). -/
def execReadStringAgeing (i part first : Nat) (s : State) : Host.Outcome State Fault Refusal :=
  .next (request 18 (ageingReadForm part) (readAgeingEffect i part first) s)

/-! The alarms (R46, R53, R57). -/

/-- A flag field that holds YES or NO (R46). -/
def flagValue : FlagField → Option Bool
  | .yes => some true
  | .no => some false
  | .neither => none

/-- Write Alarm Class (R46). -/
def writeClassEffect (code level : Nat) (latching shelvable : FlagField) (s : State) : State × ManageReply :=
  match classIndex code, flagValue latching, flagValue shelvable with
  | some i, some la, some sh =>
    (s.withAlarm { s.alarm with classes := s.alarm.classes.setIfInBounds i ⟨clamp 0 3 level, la, sh⟩ },
      replyClamped 9 (clamped 0 3 level).2)
  | _, _, _ => (s, replyRefused 9 .badValue)

/-- WRITE_ALARM_CLASS (R46). -/
def execWriteAlarmClass (code level : Nat) (latching shelvable : FlagField) (s : State) :
    Host.Outcome State Fault Refusal := .next (request 9 (plainForm 9) (writeClassEffect code level latching shelvable) s)

/-- An Alarm List entry as Read Alarm List packs it (R188). -/
def AlarmEntry.packed (e : AlarmEntry) : List Byte :=
  byteOf (e.code * 4 + e.level) :: byteOf (e.subject.number * 4 + e.state.toCode) :: byteOf e.count ::
    (bytes32 e.firstRaised ++ bytes32 e.lastRaised ++ (e.detail.map bytes32).getD [])

/-- Read Alarm List (R57, R188). -/
def readAlarmEffect (start : Nat) (s : State) : State × ManageReply :=
  let page := ((readOrder s.alarm.list).drop start).take 8
  (s.withAlarm { s.alarm with lost := 0 },
    replyWith 21 (.alarmList s.alarm.list.length s.alarm.lost (page.map AlarmEntry.packed)))

/-- READ_ALARM_LIST (R57). -/
def execReadAlarmList (start : Nat) (s : State) : Host.Outcome State Fault Refusal :=
  .next (request 21 (plainForm 21) (readAlarmEffect start) s)

/-- Acknowledge Alarm on the entry for a code and subject (R53). -/
def acknowledge (code : Nat) (sub : Subject) (s : State) : State × ManageReply :=
  match s.alarm.find? code sub with
  | none => (s, replyRefused 22 .notFound)
  | some e =>
    match e.state with
    | .active => (s.withAlarm (s.alarm.modify code sub (fun x => { x with state := .acknowledged })), replyOk 22)
    | .acknowledged => (s, replyOk 22)
    | .cleared => (s.withAlarm (s.alarm.remove code sub), replyOk 22)
    | .shelved => (s, replyRefused 22 .state)

/-- Acknowledge Alarm (R53). -/
def acknowledgeEffect (code kind index : Nat) (s : State) : State × ManageReply :=
  refuseIf (!s.supervising) (replyRefused 22 .mode) (fun s =>
    match classIndex code, subjectOfFields kind index with
    | some _, some sub => acknowledge code sub s
    | _, _ => (s, replyRefused 22 .badValue)) s

/-- ACKNOWLEDGE_ALARM (R53). -/
def execAcknowledgeAlarm (code kind index : Nat) (s : State) : Host.Outcome State Fault Refusal :=
  .next (request 22 (plainForm 22) (acknowledgeEffect code kind index) s)

end Sys2Proof.Machine
end

