-- ==== Sys2Proof/Machine/Resets.lean ====
section
/-! DEFINITION. The Floor Clock (R1), power-on and the reset line (R20, R175), and the two management resets (R190, R191). -/

namespace Sys2Proof.Machine

/-- Every state of the part at its value after a full reset (R190). The waiting commands and the reset line are not
state of the part. -/
def fullReset (s : State) : State := (State.reset.withPending s.pending).withResetLine s.resetLine

/-- POWER_ON (R20, R175): the bridge stays closed after it while the reset line is held (log entry 11). -/
def execPowerOn (s : State) : Host.Outcome State Fault Refusal :=
  .next ((fullReset s).withBridge (if s.resetLine then .closed else .opened))

/-- RESET_LINE_ASSERTED (R175): the bridge closes, and no state moves until the release (log entry 12). -/
def execResetLineAsserted (s : State) : Host.Outcome State Fault Refusal :=
  .next ((s.withResetLine true).withBridge .closed)

/-- RESET_LINE_RELEASED (R20, R175): the reset ends, every state at its reset value, and the bridge opens. -/
def execResetLineReleased (s : State) : Host.Outcome State Fault Refusal :=
  .next (if s.resetLine then (fullReset s).withResetLine false else s)

/-! Reset TRAFFIC (R176, R191). -/

/-- A port after the emptying of its queues and counts; settings, receiver and transmitter are kept (R176). -/
def PortState.cleanTraffic (x : PortState) : PortState :=
  { x with inq := [], fwd := [], counters := zeroCounters, score := 0, sound := 0 }

/-- Step 1 at the ports (R176, R191). -/
def emptyPorts (s : State) : State :=
  let t := modPort .f PortState.cleanTraffic (modPort .s PortState.cleanTraffic s)
  (((t.withPrio []).withReplyQ []).withFwdRun 0).withAlarm { t.alarm with notices := [] }

/-- Step 1 at the Tracker (R122, R191). -/
def emptyTracker (s : State) : State :=
  s.withTracker ⟨s.tracker.orders.filter (fun e => !(e.origin == .site)), 0, 0⟩

/-- Step 3: every plan in ISSUED halts with cause RESET, by ascending slot (R144, R191; log entry 17). -/
def haltIssued (s : State) : State :=
  (List.range 4).foldl
    (fun s g => if (plan? s g).any (fun p => p.state == .issued) then haltPlan g .reset none s else s) s

/-- Steps 1 to 3 of a Reset TRAFFIC (R191). -/
def trafficReset (s : State) : State :=
  haltIssued (clear codeLinkErrors (.port .f) (clear codeLinkErrors (.port .s) (emptyTracker (emptyPorts s))))

/-- Reset with a kind that is not FULL: 1 is TRAFFIC (R178, R185, R191). -/
def resetTrafficEffect (kind : Nat) (s : State) : State × ManageReply :=
  refuseIf (kind != 1) (replyRefused 33 .badValue) (fun s => (trafficReset s, replyOk 33)) s

/-- RESET_TRAFFIC (R191). The kind FULL is the command RESET_FULL: a frame that carries it is not this one (log
entry 25). -/
def execResetTraffic (kind : Nat) (s : State) : Host.Outcome State Fault Refusal :=
  .next (if kind = 2 then s else request 33 (.exactly [kind]) (resetTrafficEffect kind) s)

/-! Reset FULL (R190). -/

/-- Reset FULL: the OK reply is the last of the frames the reply queue has then to send (R190; log entry 13). -/
def resetFullEffect (s : State) : State × ManageReply :=
  (s.withFullReset (.waiting (s.replyQ.length + 1)), replyOk 33)

/-- RESET_FULL (R190). -/
def execResetFull (s : State) : Host.Outcome State Fault Refusal := .next (request 33 (.exactly [2]) resetFullEffect s)

/-- FULL_RESET_TAKEN (R190): the Port S transmitter has finished the reply. -/
def execFullResetTaken (s : State) : Host.Outcome State Fault Refusal :=
  .next (whenRunning (fun s => if s.fullReset = .finished then fullReset s else s) s)

/-! The Floor Clock (R1). -/

/-- One millisecond of the Floor Clock (R1; log entry 7). -/
def FloorClock.tick (c : FloorClock) : FloorClock :=
  if c.phase + 1 < 1000 then { c with ms := c.ms + 1, phase := c.phase + 1 }
  else ⟨c.ms + 1, c.sec + 1, 0⟩

/-- FLOOR_CLOCK_TICK (R1). -/
def execFloorClockTick (s : State) : Host.Outcome State Fault Refusal :=
  .next (whenRunning (fun s => s.withClock s.clock.tick) s)

end Sys2Proof.Machine
end

