-- ==== Sys2Proof/Machine/Dispatch.lean ====
section
/-! DEFINITION. The effect of each command on everything but the queue of waiting commands. -/

namespace Sys2Proof.Machine

/-- The effect of a command: one direct call of its meaning for each constructor of `Instr`. -/
def exec (i : Instr) (s : State) : Host.Outcome State Fault Refusal :=
  match i with
  | .powerOn => Sys2Proof.Machine.execPowerOn s
  | .resetLineAsserted => Sys2Proof.Machine.execResetLineAsserted s
  | .resetLineReleased => Sys2Proof.Machine.execResetLineReleased s
  | .idleDetected p bits => Sys2Proof.Machine.execIdleDetected p bits s
  | .frameComplete p => Sys2Proof.Machine.execFrameComplete p s
  | .payloadLengthTooLong p => Sys2Proof.Machine.execPayloadLengthTooLong p s
  | .characterWaitExpiry p bits => Sys2Proof.Machine.execCharacterWaitExpiry p bits s
  | .abandonedRx p => Sys2Proof.Machine.execAbandonedRx p s
  | .reportInspection => Sys2Proof.Machine.execReportInspection s
  | .visitHandOff => Sys2Proof.Machine.execVisitHandOff s
  | .ageingUpdate => Sys2Proof.Machine.execAgeingUpdate s
  | .rampStepJudgement => Sys2Proof.Machine.execRampStepJudgement s
  | .replyMatch => Sys2Proof.Machine.execReplyMatch s
  | .siteOrderJudgement => Sys2Proof.Machine.execSiteOrderJudgement s
  | .frameForward p => Sys2Proof.Machine.execFrameForward p s
  | .transmitTake p => Sys2Proof.Machine.execTransmitTake p s
  | .frameSent p => Sys2Proof.Machine.execFrameSent p s
  | .abandonedTx p => Sys2Proof.Machine.execAbandonedTx p s
  | .watchExpiry n => Sys2Proof.Machine.execWatchExpiry n s
  | .quietTimerExpiry => Sys2Proof.Machine.execQuietTimerExpiry s
  | .replyWindowExpiry k => Sys2Proof.Machine.execReplyWindowExpiry k s
  | .completionWindowExpiry k => Sys2Proof.Machine.execCompletionWindowExpiry k s
  | .settleExpiry slot => Sys2Proof.Machine.execSettleExpiry slot s
  | .rampIntervalExpiry slot => Sys2Proof.Machine.execRampIntervalExpiry slot s
  | .matchWindowExpiry slot => Sys2Proof.Machine.execMatchWindowExpiry slot s
  | .stepTrigger slot => Sys2Proof.Machine.execStepTrigger slot s
  | .recoveryTimerExpiry str => Sys2Proof.Machine.execRecoveryTimerExpiry str s
  | .prepareTimerExpiry visit => Sys2Proof.Machine.execPrepareTimerExpiry visit s
  | .durationTimerExpiry visit => Sys2Proof.Machine.execDurationTimerExpiry visit s
  | .closeTimerExpiry visit => Sys2Proof.Machine.execCloseTimerExpiry visit s
  | .manageBadRequest => Sys2Proof.Machine.execManageBadRequest s
  | .readIdentity => Sys2Proof.Machine.execReadIdentity s
  | .writeNodeEntry index entry => Sys2Proof.Machine.execWriteNodeEntry index entry s
  | .clearNodeEntry index => Sys2Proof.Machine.execClearNodeEntry index s
  | .readNodeEntry index => Sys2Proof.Machine.execReadNodeEntry index s
  | .startSupervision => Sys2Proof.Machine.execStartSupervision s
  | .stopSupervision => Sys2Proof.Machine.execStopSupervision s
  | .writeGroupParameters group fields => Sys2Proof.Machine.execWriteGroupParameters group fields s
  | .writeLimitEntry index entry => Sys2Proof.Machine.execWriteLimitEntry index entry s
  | .writeAlarmClass code level latching shelvable => Sys2Proof.Machine.execWriteAlarmClass code level latching shelvable s
  | .writeGateEntry kind cls => Sys2Proof.Machine.execWriteGateEntry kind cls s
  | .writePortSettings port fields => Sys2Proof.Machine.execWritePortSettings port fields s
  | .stageAgeingParameters fields => Sys2Proof.Machine.execStageAgeingParameters fields s
  | .commitAgeingParameters => Sys2Proof.Machine.execCommitAgeingParameters s
  | .readAgeingParameters copy => Sys2Proof.Machine.execReadAgeingParameters copy s
  | .readCabinetRecord c => Sys2Proof.Machine.execReadCabinetRecord c s
  | .readStringRecord str => Sys2Proof.Machine.execReadStringRecord str s
  | .readStringBlocks str first => Sys2Proof.Machine.execReadStringBlocks str first s
  | .readStringAgeing str part first => Sys2Proof.Machine.execReadStringAgeing str part first s
  | .stringRestore str history => Sys2Proof.Machine.execStringRestore str history s
  | .acceptReplacementNew str choice => Sys2Proof.Machine.execAcceptReplacementNew str choice s
  | .acceptReplacementSame str => Sys2Proof.Machine.execAcceptReplacementSame str s
  | .readAlarmList start => Sys2Proof.Machine.execReadAlarmList start s
  | .acknowledgeAlarm code subjectKind subjectIndex => Sys2Proof.Machine.execAcknowledgeAlarm code subjectKind subjectIndex s
  | .planRequest kind group target => Sys2Proof.Machine.execPlanRequest kind group target s
  | .planResume id => Sys2Proof.Machine.execPlanResume id s
  | .planAbandon id => Sys2Proof.Machine.execPlanAbandon id s
  | .readPlan group => Sys2Proof.Machine.execReadPlan group s
  | .visitOpen visit => Sys2Proof.Machine.execVisitOpen visit s
  | .visitClose id => Sys2Proof.Machine.execVisitClose id s
  | .visitForceClose id => Sys2Proof.Machine.execVisitForceClose id s
  | .visitCancel id => Sys2Proof.Machine.execVisitCancel id s
  | .readVisit id => Sys2Proof.Machine.execReadVisit id s
  | .readPortCounters clear => Sys2Proof.Machine.execReadPortCounters clear s
  | .resetTraffic kind => Sys2Proof.Machine.execResetTraffic kind s
  | .resetFull => Sys2Proof.Machine.execResetFull s
  | .fullResetTaken => Sys2Proof.Machine.execFullResetTaken s
  | .floorClockTick => Sys2Proof.Machine.execFloorClockTick s
  | .characterReceived p data parity stop => Sys2Proof.Machine.execCharacterReceived p data parity stop s
  | .characterRepeated p char => Sys2Proof.Machine.execCharacterRepeated p char s

end Sys2Proof.Machine
end

