-- ==== Sys2Proof/Safety.lean ====
section
/-! DEFINITION. The terms that statements use: which components of State an effect may change, when a management request is
at the head and can be taken, what a port's head frame needs, and the invariants of the part. -/

namespace Sys2Proof.Machine

/-! Components and frames. -/

/-- The components of State. -/
inductive Field where
  | pending
  | resetLine
  | bridge
  | fullReset
  | clock
  | resp
  | insp
  | cabs
  | strs
  | params
  | alarm
  | gate
  | tracker
  | seq
  | visits
  | portS
  | portF
  | prio
  | replyQ
  | fwdRun
  | hand
  deriving DecidableEq, Repr

/-- A component is the same in two states. -/
def State.same : Field → State → State → Prop
  | .pending, s, t => t.pending = s.pending
  | .resetLine, s, t => t.resetLine = s.resetLine
  | .bridge, s, t => t.bridge = s.bridge
  | .fullReset, s, t => t.fullReset = s.fullReset
  | .clock, s, t => t.clock = s.clock
  | .resp, s, t => t.resp = s.resp
  | .insp, s, t => t.insp = s.insp
  | .cabs, s, t => t.cabs = s.cabs
  | .strs, s, t => t.strs = s.strs
  | .params, s, t => t.params = s.params
  | .alarm, s, t => t.alarm = s.alarm
  | .gate, s, t => t.gate = s.gate
  | .tracker, s, t => t.tracker = s.tracker
  | .seq, s, t => t.seq = s.seq
  | .visits, s, t => t.visits = s.visits
  | .portS, s, t => t.portS = s.portS
  | .portF, s, t => t.portF = s.portF
  | .prio, s, t => t.prio = s.prio
  | .replyQ, s, t => t.replyQ = s.replyQ
  | .fwdRun, s, t => t.fwdRun = s.fwdRun
  | .hand, s, t => t.hand = s.hand

/-- Only the components of a list may differ between two states: every other component is the same. -/
structure Only (fs : List Field) (s t : State) : Prop where
  same : ∀ f, f ∉ fs → State.same f s t

/-- The component of a port. -/
def portField : Port → Field
  | .s => .portS
  | .f => .portF

/-- The components a plan's own events act on: its slot, its order entry, its frame, and alarms with notices (R131 to
R140). -/
def planFields : List Field := [.seq, .tracker, .prio, .alarm]

/-- The components of a window expiry by the origin of the entry (R117, R134). -/
def windowFields : Origin → List Field
  | .site => [.tracker]
  | .plan => planFields

/-- The components a management request acts on: the inbound queue it leaves, the reply queue, and those of its own
effect (R182, R183). -/
def requestFields (fs : List Field) : List Field := .portS :: .replyQ :: fs

/-- Every component but the queue of commands and the reset line. -/
def resetFields : List Field :=
  [.bridge, .fullReset, .clock, .resp, .insp, .cabs, .strs, .params, .alarm, .gate, .tracker, .seq, .visits, .portS,
    .portF, .prio, .replyQ, .fwdRun, .hand]

/-- The components a command may change. -/
def touches : Instr → List Field
  | .powerOn => resetFields
  | .resetLineAsserted => [.resetLine, .bridge]
  | .resetLineReleased => .resetLine :: resetFields
  | .idleDetected p _ => [portField p]
  | .frameComplete p => [portField p, .alarm]
  | .payloadLengthTooLong p => [portField p, .alarm]
  | .characterWaitExpiry p _ => [portField p, .alarm]
  | .abandonedRx p => [portField p, .alarm]
  | .reportInspection => [.portF, .portS, .alarm, .insp, .cabs, .strs, .hand]
  | .visitHandOff => [.hand, .alarm, .visits]
  | .ageingUpdate => [.hand, .alarm, .strs]
  | .rampStepJudgement => .hand :: planFields
  | .replyMatch => .portF :: .portS :: .cabs :: planFields
  | .siteOrderJudgement => [.portS, .portF, .replyQ, .tracker]
  | .frameForward _ => [.portS, .portF]
  | .transmitTake .s => [.portS, .replyQ, .fullReset, .alarm, .fwdRun]
  | .transmitTake .f => [.portF, .prio, .replyQ, .tracker]
  | .frameSent .s => [.portS, .fullReset]
  | .frameSent .f => [.portF]
  | .abandonedTx .s => [.portS, .fullReset, .alarm]
  | .abandonedTx .f => [.portF, .alarm]
  | .watchExpiry (.cabinet _) => [.cabs, .alarm]
  | .watchExpiry (.string _) => [.strs, .alarm]
  | .quietTimerExpiry => [.insp, .alarm]
  | .replyWindowExpiry k => windowFields k.origin
  | .completionWindowExpiry k => windowFields k.origin
  | .settleExpiry _ => [.seq]
  | .rampIntervalExpiry _ => planFields
  | .matchWindowExpiry _ => planFields
  | .stepTrigger _ => planFields
  | .recoveryTimerExpiry _ => [.strs, .alarm]
  | .prepareTimerExpiry _ => [.visits, .alarm]
  | .durationTimerExpiry _ => [.visits, .alarm]
  | .closeTimerExpiry _ => [.visits, .alarm]
  | .manageBadRequest => requestFields []
  | .readIdentity => requestFields []
  | .writeNodeEntry _ _ => requestFields [.resp]
  | .clearNodeEntry _ => requestFields [.resp]
  | .readNodeEntry _ => requestFields []
  | .startSupervision => requestFields [.resp, .insp, .cabs, .strs, .alarm]
  | .stopSupervision => requestFields [.resp, .insp, .cabs, .strs, .alarm, .tracker, .visits, .hand]
  | .writeGroupParameters _ _ => requestFields [.seq]
  | .writeLimitEntry _ _ => requestFields [.resp, .insp, .alarm]
  | .writeAlarmClass _ _ _ _ => requestFields [.alarm]
  | .writeGateEntry _ _ => requestFields [.gate]
  | .writePortSettings _ _ => requestFields [.portF]
  | .stageAgeingParameters _ => requestFields [.params]
  | .commitAgeingParameters => requestFields [.params]
  | .readAgeingParameters _ => requestFields []
  | .readCabinetRecord _ => requestFields []
  | .readStringRecord _ => requestFields []
  | .readStringBlocks _ _ => requestFields []
  | .readStringAgeing _ _ _ => requestFields []
  | .stringRestore _ _ => requestFields [.strs, .alarm]
  | .acceptReplacementNew _ _ => requestFields [.strs, .alarm]
  | .acceptReplacementSame _ => requestFields [.strs, .alarm]
  | .readAlarmList _ => requestFields [.alarm]
  | .acknowledgeAlarm _ _ _ => requestFields [.alarm]
  | .planRequest _ _ _ => requestFields [.seq]
  | .planResume _ => requestFields [.seq, .tracker, .alarm]
  | .planAbandon _ => requestFields planFields
  | .readPlan _ => requestFields []
  | .visitOpen _ => requestFields [.visits, .alarm]
  | .visitClose _ => requestFields [.visits, .alarm]
  | .visitForceClose _ => requestFields [.visits, .alarm]
  | .visitCancel _ => requestFields [.visits, .alarm]
  | .readVisit _ => requestFields []
  | .readPortCounters _ => requestFields [.portF, .tracker]
  | .resetTraffic _ => requestFields [.portF, .prio, .fwdRun, .alarm, .tracker, .seq]
  | .resetFull => requestFields [.fullReset]
  | .fullResetTaken => resetFields
  | .floorClockTick => [.clock]
  | .characterReceived p _ _ _ => [portField p]
  | .characterRepeated p _ => [portField p]

/-- A command that ends in a full reset of the part (R20). -/
def isFullReset : Instr → Bool
  | .powerOn => true
  | .resetLineReleased => true
  | .fullResetTaken => true
  | _ => false

/-- A command of the Management Responder: one of the requests of R185, or the answer to a frame that does not parse (R182,
R184). -/
def isRequest : Instr → Bool
  | .manageBadRequest => true
  | .readIdentity => true
  | .writeNodeEntry _ _ => true
  | .clearNodeEntry _ => true
  | .readNodeEntry _ => true
  | .startSupervision => true
  | .stopSupervision => true
  | .writeGroupParameters _ _ => true
  | .writeLimitEntry _ _ => true
  | .writeAlarmClass _ _ _ _ => true
  | .writeGateEntry _ _ => true
  | .writePortSettings _ _ => true
  | .stageAgeingParameters _ => true
  | .commitAgeingParameters => true
  | .readAgeingParameters _ => true
  | .readCabinetRecord _ => true
  | .readStringRecord _ => true
  | .readStringBlocks _ _ => true
  | .readStringAgeing _ _ _ => true
  | .stringRestore _ _ => true
  | .acceptReplacementNew _ _ => true
  | .acceptReplacementSame _ => true
  | .readAlarmList _ => true
  | .acknowledgeAlarm _ _ _ => true
  | .planRequest _ _ _ => true
  | .planResume _ => true
  | .planAbandon _ => true
  | .readPlan _ => true
  | .visitOpen _ => true
  | .visitClose _ => true
  | .visitForceClose _ => true
  | .visitCancel _ => true
  | .readVisit _ => true
  | .readPortCounters _ => true
  | .resetTraffic _ => true
  | .resetFull => true
  | _ => false

/-- The request code and the form of the fields of a request command; a Reset or an Accept Replacement of the kind or choice
that another command takes has none (R184, R185; log entries 3 and 25). -/
def requestForm : Instr → Option (Nat × FieldForm)
  | .readIdentity => some (1, .exactly [])
  | .writeNodeEntry _ r => some (2, nodeForm r)
  | .clearNodeEntry _ => some (3, plainForm 3)
  | .readNodeEntry _ => some (4, plainForm 4)
  | .startSupervision => some (5, .exactly [])
  | .stopSupervision => some (6, .exactly [])
  | .writeGroupParameters _ fs => some (7, groupForm fs)
  | .writeLimitEntry _ _ => some (8, plainForm 8)
  | .writeAlarmClass _ _ _ _ => some (9, plainForm 9)
  | .writeGateEntry kind cls => some (10, .exactly [kind, cls])
  | .writePortSettings _ fs => some (11, portForm fs)
  | .stageAgeingParameters fs => some (12, stageForm fs)
  | .commitAgeingParameters => some (13, .exactly [])
  | .readAgeingParameters copy => some (14, .exactly [copy])
  | .readCabinetRecord _ => some (15, plainForm 15)
  | .readStringRecord _ => some (16, plainForm 16)
  | .readStringBlocks _ _ => some (17, plainForm 17)
  | .readStringAgeing _ part _ => some (18, ageingReadForm part)
  | .stringRestore _ h => some (19, restoreForm h)
  | .acceptReplacementNew _ choice => if choice = 2 then none else some (20, plainForm 20)
  | .acceptReplacementSame _ => some (20, plainForm 20)
  | .readAlarmList _ => some (21, plainForm 21)
  | .acknowledgeAlarm _ _ _ => some (22, plainForm 22)
  | .planRequest _ _ target => some (23, planForm target)
  | .planResume _ => some (24, plainForm 24)
  | .planAbandon _ => some (25, plainForm 25)
  | .readPlan _ => some (26, plainForm 26)
  | .visitOpen r => some (27, visitForm r)
  | .visitClose _ => some (28, plainForm 28)
  | .visitForceClose _ => some (29, plainForm 29)
  | .visitCancel _ => some (30, plainForm 30)
  | .readVisit _ => some (31, plainForm 31)
  | .readPortCounters clear => some (32, .flag clear)
  | .resetTraffic kind => if kind = 2 then none else some (33, .exactly [kind])
  | .resetFull => some (33, .exactly [2])
  | _ => none

/-! Several commands one after the other. -/

/-- The outcome of several commands one after the other, each on the state the one before it left. -/
def runs : List Instr → State → Host.Outcome State Fault Refusal
  | [], s => .next s
  | i :: rest, s =>
    match exec i s with
    | .next t => runs rest t
    | .fault f => .fault f
    | .refused r => .refused r

/-! Frames lost, sound frames and frames on the line (R167, R168, R174, R177). -/

/-- The state after an error-counted frame at a port: the receiver waits for idle with its idle count at `idle`, `count`
gains 1, the error score gains 1 up to 255, and at the raise level LINK_ERRORS is raised, at a score that stands at 255
already too (R167, R173, R174; log entry 45). -/
def frameLost (p : Port) (idle : Nat) (count : Counters → Counters) (s : State) : State :=
  let x := s.port p
  let score := min 255 (x.score + 1)
  let u := s.withPort p
    { x with rx := ⟨.waitIdle, [], idle, 0, x.settings⟩, counters := count x.counters, score := score }
  if x.settings.raiseLevel ≤ score then raise codeLinkErrors (.port p) (some (BitVec.ofNat 32 score)) u else u

/-- The state after a sound frame that is not counted under OVERRUN, whose taking left the port as `x`: the
sound-frame count gains 1, every 32nd takes 1 from the score, and LINK_ERRORS is cleared as the score reaches 0
(R174). -/
def frameSound (p : Port) (x : PortState) (s : State) : State :=
  if x.sound = 31 then
    let u := s.withPort p { x with sound := 0, score := x.score - 1 }
    if x.score = 1 then clear codeLinkErrors (.port p) u else u
  else s.withPort p { x with sound := x.sound + 1 }

/-- The bytes of a frame on the line: header, payload, CRC (R177). -/
def lineBytes (dest src : Byte) (k : FrameKind) (seq : Byte) (payload : List Byte) : List Byte :=
  let front := headerBytes dest src k seq payload.length ++ payload
  front ++ bytes16 (crc16 front).toNat

/-- The bytes of a cabinet report as R179 lays them out; the temperature in two's complement. -/
def cabReportBytes (r : CabReport) : List Byte :=
  [1, byteOf r.mode.toCode] ++ bytes16 r.load ++ bytes16 r.echo ++ bytes16 r.inV ++ bytes16 r.outV ++
    bytes16 (BitVec.ofInt 16 r.temp).toNat ++ [byteOf r.bypass.toCode, byteOf r.door.toCode] ++ bytes16 r.fault ++
    [if r.testRunning then 1 else 0]

/-- The bytes of a string report as R179 lays them out. -/
def strReportBytes (r : StrReport) : List Byte :=
  [2, byteOf r.blocks, byteOf r.temps.length, byteOf r.resistances.length] ++ bytes32 r.serial ++
    bytes16 (BitVec.ofInt 16 r.current).toNat ++
    r.temps.flatMap (fun t => bytes16 (BitVec.ofInt 16 t).toNat) ++ r.volts.flatMap bytes16 ++
    r.resistances.flatMap (fun x => byteOf x.1 :: bytes32 (BitVec.ofNat 32 x.2))

/-- A number that 16 bits in two's complement hold. -/
abbrev isSigned16 (i : Int) : Prop := -32768 ≤ i ∧ i ≤ 32767

/-- The parity bit that a sender gives a character: it makes the number of ones even (R165). -/
def evenParity (b : Byte) : Bool := onesCount b % 2 == 1

/-- A flag by its code (R178). -/
def flagCode (b : Bool) : Nat := if b then 1 else 0

/-- The codes of the enumerated fields and flags of an ageing record, in the order of R14. -/
def Ageing.codes (a : Ageing) : List Nat :=
  [a.base.toCode, a.activity.toCode, flagCode a.eventIsTest, a.baselineState.toCode, a.limiting.toCode, a.grade.toCode,
    flagCode a.unrestored, flagCode a.frozen, flagCode a.lastTeff.isSome]

/-- The codes of the enumerated fields and flags that a MANAGE-REPLY carries in one byte each (R178), in the order in which
the rules of its request name the fields; an absent optional field has none. -/
def Result.codes : Result → List Nat
  | .none => []
  | .identity _ _ mode _ _ _ _ _ _ => [mode.toCode]
  | .nodeEntry .none => []
  | .nodeEntry (some e) => match e.role with
    | .cabinet n => [1, flagCode n.lead]
    | .stringMonitor _ => [2]
  | .params _ equal => [flagCode equal]
  | .cabinet r _ _ => [modeCode r.reported, r.bypass.toCode, r.door.toCode, flagCode r.testRunning, r.liveness.toCode,
      modeCode r.expected, flagCode r.testFlag, flagCode r.lead]
  | .string _ _ _ _ _ liveness a _ => liveness.toCode :: a.codes
  | .blocks _ => []
  | .ageingRecord a _ => a.codes
  | .ageingLists _ => []
  | .alarmList _ _ _ => []
  | .planId _ => []
  | .plan .none _ _ _ => []
  | .plan (some p) _ _ _ => [p.kind.toCode, p.state.toCode] ++ (p.stage.map Stage.toCode).toList ++
      (p.order.map (fun o => o.kind.toCode)).toList ++ (p.haltCause.map HaltCause.toCode).toList ++
      [flagCode p.lateSinceHalt, flagCode p.lateFlag]
  | .visitState st => [st.toCode]
  | .visitSummary vs => vs.map (fun x => x.2.toCode)
  | .visit v _ _ _ _ => [v.depth.toCode, v.state.toCode, flagCode v.overstay, flagCode v.closeLimitPassed]
  | .portCounters _ _ _ _ _ _ => []

/-! Taking a request. -/

/-- A request can be taken now: the loop bridge is open, no Reset FULL is under way, the reply queue has a free place, and
`f` is the frame at the Port S inbound head, a MANAGE to 240 with this request code and, behind it, bytes of the form of
the command's fields (R169, R182, R184). That the fields are operands is log entry 3. -/
abbrev Takes (code : Nat) (form : FieldForm) (f : Frame) (s : State) : Prop :=
  s.bridge = .opened ∧ s.fullReset = .idle ∧ s.replyQ.length < replyPlaces ∧ manageHead? s = some f ∧
    requestCode f = some code ∧ form.fits (requestFieldBytes f) = true

/-- The state after a taken request: `t` with the MANAGE-REPLY at the tail of its reply queue. -/
def answered (f : Frame) (r : ManageReply) (t : State) : State := enqueueReply (manageReplyFrame f.seq r) t

/-- A frame stands at the head of a port's inbound queue, and the Classifier may take frames: the bridge is open and no
Reset FULL is under way (R169, R175, R190). -/
abbrev Heads (p : Port) (f : Frame) (s : State) : Prop :=
  s.bridge = .opened ∧ s.fullReset = .idle ∧ (s.port p).inq.head? = some f

/-- A report stands at the Port F inbound head and the Inspector may take it: SUPERVISING, with a free place in the Port S
forward queue (R22, R169). -/
abbrev ReportAtHead (f : Frame) (s : State) : Prop :=
  Heads .f f s ∧ s.resp.mode = .supervising ∧ f.kind = .report ∧ s.portS.fwd.length < forwardPlaces

/-- `t` with a frame taken from the Port F inbound queue of `s` and placed in the Port S forward queue (R22, R118). -/
def passedUp (f : Frame) (s t : State) : State :=
  { t with
    portF := { s.portF with inq := s.portF.inq.tail }
    portS := { s.portS with fwd := s.portS.fwd ++ [f] } }

/-- The state after the frame at the head of the Port S inbound queue was answered by the Order Gate (R108). -/
def gateAnswered (f : Frame) (answer cause : Nat) (s : State) : State :=
  { s with
    portS := { s.portS with inq := s.portS.inq.tail }
    replyQ := s.replyQ ++ [builtFrame 0 .reply f.seq
      [byteOf answer, f.payload.headD (Config.absentOrderKind f.dest f.seq), f.dest, byteOf cause]] }

/-- The state after the frame at the head of the Port S inbound queue went to the Port F forward queue as `g` (R107). -/
def gateForwarded (g : Frame) (s : State) : State :=
  { s with
    portS := { s.portS with inq := s.portS.inq.tail }
    portF := { s.portF with fwd := s.portF.fwd ++ [g] } }

/-- A site order stands at the Port S inbound head and the Gate may take it (R106, R169). -/
abbrev OrderAtHead (f : Frame) (s : State) : Prop :=
  Heads .s f s ∧ s.resp.mode = .supervising ∧ f.kind = .order ∧ s.portF.fwd.length < forwardPlaces ∧
    s.replyQ.length < replyPlaces

/-- A cabinet's reply stands at the Port F inbound head and the Tracker may take it (R118, R169). -/
abbrev ReplyAtHead (f : Frame) (s : State) : Prop :=
  Heads .f f s ∧ s.resp.mode = .supervising ∧ f.kind = .reply ∧
    (f.dest.toNat = 240 ∨ s.portS.fwd.length < forwardPlaces)

/-- The capacity check of R114 as it reads: over the members reporting ONLINE or ON_BATTERY, 1000 times the sum of load ×
rating is at or below the margin times the sum of rating × share, member `t` taken at share `sh`. -/
def carries (s : State) (g t sh : Nat) : Prop :=
  let inService := (memberRecs s g).filter
    (fun m => decide (m.2.reported = some .online) || decide (m.2.reported = some .onBattery))
  1000 * (inService.map (fun m => m.2.load * m.2.rating)).sum ≤
    (groupParams s g).capacityMargin * (inService.map (fun m => m.2.rating * (if m.1 = t then sh else m.2.share))).sum

/-- A timer's length has passed (00_scope.md, Time base). -/
abbrev RunOut (w : Timer) (s : State) : Prop := w.len ≤ (s.clock.ms - w.start).toNat

/-- The plan of slot `g`, `p` before, halts between `s` and `t` (R140): it is HALTED with the cause and detail and its
timers stopped, its entry is LAPSED without a window, its waiting frame is removed, and PLAN_HALTED is raised and then
announced. Nothing else changes. -/
structure Halts (g : Nat) (p : Plan) (c : HaltCause) (d : Option Nat) (s t : State) : Prop where
  plan : plan? t g = some { p with
    state := .halted, haltCause := some c, haltDetail := d, lateSinceHalt := false, settleTimer := none,
    ramp := p.ramp.map (fun r => { r with timer := none, window := none }) }
  others : ∀ j, j ≠ g → plan? t j = plan? s j
  counters : t.seq.nextPlan = s.seq.nextPlan ∧ t.seq.nextSeq = s.seq.nextSeq ∧ t.seq.groups = s.seq.groups
  orders : t.tracker.orders = s.tracker.orders.map (fun e =>
    if e.origin = .plan ∧ e.slot = some g then { e with state := .lapsed, window := none } else e)
  prio : t.prio = s.prio.filter (fun f => f.slot != g)
  alarm : t.alarm = (queueNotice .planHalted
    (byteOf p.id :: byteOf g :: byteOf c.toCode :: (if d.isSome then 1 else 0) :: bytes16 (d.getD 0))
    (raise codePlanHalted (.group g) (some (BitVec.ofNat 32 c.toCode)) s)).alarm
  frame : Only planFields s t

/-- The plan of slot `g` issues an order between `s` and `t` (R133): it is ISSUED with sends 1 and the settle interval
captured, the order counter moves past the sequence taken, a WAITING plan-origin entry with its reply window running joins
the orders, and the frame takes the slot's one place in the priority queue (log entry 19). Nothing else changes. -/
structure Issues (g : Nat) (p : Plan) (k : OrderKind) (r : CabRec) (v : Option Nat) (settle : Nat) (s t : State) :
    Prop where
  plan : plan? t g = some { p with
    state := .issued, order := some ⟨k, r.addr, takeSeq s r.addr, v⟩, sends := 1, settle := settle }
  others : ∀ j, j ≠ g → plan? t j = plan? s j
  counters : t.seq.nextPlan = s.seq.nextPlan ∧ t.seq.nextSeq = takeSeq s r.addr + 1 ∧ t.seq.groups = s.seq.groups
  orders : t.tracker.orders = s.tracker.orders ++ [⟨.plan, r.addr, takeSeq s r.addr, k, v, s.clock.ms, 1, .waiting,
    some g, some (.reply, ⟨s.clock.ms, (groupParams s (groupOfAddr s r.addr)).replyWindow⟩)⟩]
  prio : t.prio = s.prio.filter (fun f => f.slot != g) ++ [⟨g, builtFrame r.addr .order (takeSeq s r.addr)
    (byteOf k.toCode :: bytes16 (v.getD 0))⟩]
  frame : Only [.seq, .tracker, .prio] s t

/-- A visit, the record `v` of the entry `k`, leaves the register between `s` and `t` (R159): the entry is freed with its
timers, VISIT_CONDITION_LOST is cleared for its cabinets, and when it is CLOSED through its doors VISIT_OVERSTAY for the
first of them and DOOR_LEFT_OPEN for each too, in the order of the scope (log entry 17); its scopes are unshelved, and
VISIT_STATE announces the final state. -/
structure Leaves (k : Nat) (v : Visit) (final : VisitState) (byDoors : Bool) (s t : State) : Prop where
  visits : t.visits = { s.visits with entries := s.visits.entries.setIfInBounds k none }
  alarm : t.alarm = (queueNotice .visitState [byteOf v.id, byteOf final.toCode, if v.overstay then 1 else 0]
    (unshelveScopes v.id v.cabinets v.strings
      (let lost := v.cabinets.foldl (fun x c => clear codeVisitConditionLost (.cabinet c) x) s
      if byDoors then
        v.cabinets.foldl (fun x c => clear codeDoorLeftOpen (.cabinet c) x)
          (clear codeVisitOverstay (.cabinet v.first) lost)
      else lost))).alarm
  frame : Only [.visits, .alarm] s t

/-! Invariants. -/

/-- The Port F priority queue holds at most one frame for each of the four plan slots (R170). -/
def PrioInPlace (s : State) : Prop := (s.prio.map (·.slot)).Nodup ∧ ∀ x ∈ s.prio, x.slot < 4

/-- The keys of the site-origin entries of the Outstanding Order List, oldest first (R116). -/
def siteKeys (s : State) : List OrderKey := (s.tracker.orders.filter (fun e => e.origin == .site)).map (·.key)

/-- Every plan-origin entry of the Outstanding Order List is the one of its slot, whose plan is ISSUED or HALTED (R116,
R133, R141 to R143). -/
structure PlanEntriesInPlace (s : State) : Prop where
  held : ∀ e ∈ s.tracker.orders, e.origin = .plan →
    ∃ g p, e.slot = some g ∧ plan? s g = some p ∧ (p.state = .issued ∨ p.state = .halted)
  distinct : ((s.tracker.orders.filter (fun e => e.origin == .plan)).map (·.slot)).Nodup

/-- The Force Close list names each cabinet at most once, as do the cabinet scopes of the register, and every index named
is that of a cabinet (R147, R160). -/
structure ScopesInRange (s : State) : Prop where
  forceClose : (s.visits.forceClose.map Prod.fst).Nodup ∧ ∀ x ∈ s.visits.forceClose, x.1 < 24
  scopes : ∀ k v, visitEntry? s k = some v → v.cabinets.Nodup ∧ ∀ c ∈ v.cabinets, c < 24

/-- Every queue and list of the part that the spec gives places holds no more than them, the forward run count stays at or
below 4 and the sound-frame counts below 32 (R47, R59, R116, R160, R169 to R171, R174). The hand-off lists are the
model's own and have no bound (log entry 5). -/
structure WithinPlaces (s : State) : Prop where
  inboundS : s.portS.inq.length ≤ inboundPlaces
  inboundF : s.portF.inq.length ≤ inboundPlaces
  forwardS : s.portS.fwd.length ≤ forwardPlaces
  forwardF : s.portF.fwd.length ≤ forwardPlaces
  replies : s.replyQ.length ≤ replyPlaces
  notices : s.alarm.notices.length ≤ noticePlaces
  alarms : s.alarm.list.length ≤ alarmPlaces
  siteEntries : siteOrders s ≤ sitePlaces
  planEntries : s.tracker.orders.countP (fun e => e.origin == .plan) ≤ 4
  planSlots : PlanEntriesInPlace s
  forceClose : s.visits.forceClose.length ≤ 24
  scopes : ScopesInRange s
  prioSlots : PrioInPlace s
  run : s.fwdRun ≤ 4
  sound : ∀ p, (s.port p).sound < 32

/-- No two Alarm List entries share code and subject (R47). -/
def AlarmKeysDistinct (s : State) : Prop := (s.alarm.list.map (fun e => (e.code, e.subject))).Nodup

/-- No two site-origin entries of the Outstanding Order List share target and sequence (R116). -/
def SiteKeysDistinct (s : State) : Prop := (siteKeys s).Nodup

/-- What the part does not hold while UNCONFIGURED: no cabinet or string record, no plan, no visit, no Force Close pair,
no site-origin order, no hand-off (R16, R18, R19). -/
structure FloorEmpty (s : State) : Prop where
  cabs : ∀ c, cab? s c = none
  strs : ∀ i, str? s i = none
  plans : ∀ g, plan? s g = none
  visits : ∀ k, visitEntry? s k = none
  forceClose : s.visits.forceClose = []
  siteEntries : siteOrders s = 0
  hands : s.hand = ⟨[], [], []⟩

/-- While UNCONFIGURED the part holds nothing of the floor (R16). -/
def UnconfiguredHoldsNothing (s : State) : Prop := s.resp.mode = .unconfigured → FloorEmpty s

/-- The visits of the register are PREPARING, ACTIVE or CLOSING, under distinct ids, and no cabinet and no string lies in
the scopes of two of them (R147, R150). -/
structure VisitsDisjoint (s : State) : Prop where
  live : ∀ k v, visitEntry? s k = some v → v.state.covers = true
  ids : ∀ j k v w, visitEntry? s j = some v → visitEntry? s k = some w → v.id = w.id → j = k
  cabinets : ∀ j k v w c, visitEntry? s j = some v → visitEntry? s k = some w → c ∈ v.cabinets → c ∈ w.cabinets → j = k
  strings : ∀ j k v w i, visitEntry? s j = some v → visitEntry? s k = some w → i ∈ v.strings → i ∈ w.strings → j = k

/-- A plan that returns a cabinet to service: a RESTORE of it, or a GROUP_FROM_MAINT of its group (R127, R150). -/
def Returns (s : State) (p : Plan) (c : Nat) : Prop :=
  (p.kind = .restore ∧ p.target = some c) ∨ (p.kind = .groupFromMaint ∧ groupOf? s c = some p.group)

/-- The law of R111 for plan orders and what keeps it: no plan returns a cabinet that lies in the scope of a visit (R127,
R150), each cabinet record's address is that of its directory entry (R5, R7), and the current order of a plan, as each
frame of the priority queue, goes to a loop address and, when it is of the return-to-service set, to a cabinet that its
plan returns (R130, R133, R134). -/
structure PlansClearOfVisits (s : State) : Prop where
  clear : ∀ g p c, plan? s g = some p → Returns s p c → cabCovered s c = false
  entries : ∀ e ∈ dirEntries s.resp.dir, e.addr ≤ 239
  addresses : ∀ c r, cab? s c = some r → cabAt? s r.addr = some c
  orders : ∀ g p o, plan? s g = some p → p.order = some o → o.target ≤ 239 ∧
    (o.kind.returnsToService = true → ∀ c, cabAt? s o.target = some c → Returns s p c)
  frames : ∀ x ∈ s.prio, ∃ p o, plan? s x.slot = some p ∧ x.frame = planOrderFrame o ∧ o.target ≤ 239 ∧
    (o.kind.returnsToService = true → ∀ c, cabAt? s o.target = some c → Returns s p c)

/-- The plan in a slot is the plan of that group, its stage is one of its kind, and a HALTED plan holds a halt cause (R125,
R130, R140). -/
def PlansInPlace (s : State) : Prop :=
  ∀ g p, plan? s g = some p → p.group = g ∧ (∀ st, p.stage = some st → st ∈ p.kind.stages) ∧
    (p.state = .halted → p.haltCause.isSome)

end Sys2Proof.Machine
end

