-- ==== Sys2Proof/Certificates/Slice0/Obligations.lean ====
section
/-! DEFINITION. The statements for the provers, family by family of the commands. -/

open Sys2Proof Sys2Proof.Machine

/-! The queue of commands, the resets and the clock. -/

/-- A step runs the command at the front of the queue on the state with the queue's rest, and on an empty queue it
idles. The queue is the model's own field (log entry 1). -/
def Obligations.StepRunsFrontCommand : Prop :=
  (∀ (c : Instr) (rest : List Instr) (s : State),
    step (s.withPending (c :: rest)) = exec c (s.withPending rest)) ∧
  ∀ s : State, step (s.withPending []) = .next (s.withPending [])

/-- The values the table of R190 gives each block after a full reset, with the clock of R1 and the bridge of R175. -/
def Obligations.ResetHoldsTheTableValues : Prop :=
  let s := State.reset
  (s.clock.ms = 0 ∧ s.clock.sec = 0 ∧ s.bridge = .opened) ∧
  (s.resp.mode = .unconfigured ∧ (∀ i < 56, s.resp.dir[i]? = some none) ∧ ∀ k < 32, s.resp.limits[k]? = some none) ∧
  ((∀ k < 32, s.insp.records[k]? = some []) ∧ s.insp.quiet = none) ∧
  ((∀ c, cab? s c = none) ∧ ∀ i, str? s i = none) ∧
  (s.params.active = defaultAgeing ∧ s.params.staged = defaultAgeing) ∧
  (s.alarm.list = [] ∧ s.alarm.classes = defaultClasses ∧ s.alarm.notices = [] ∧ s.alarm.lost = 0 ∧
    s.alarm.dropped = 0 ∧ s.alarm.number = 0) ∧
  s.gate = defaultGate ∧
  (s.tracker.orders = [] ∧ s.tracker.siteExpiries = 0 ∧ s.tracker.unmatched = 0) ∧
  ((∀ g, plan? s g = none) ∧ s.seq.nextPlan = 1 ∧ s.seq.nextSeq = 0 ∧ ∀ g < 4, s.seq.groups[g]? = some defaultGroup) ∧
  ((∀ k, visitEntry? s k = none) ∧ s.visits.forceClose = []) ∧
  (∀ p, (s.port p).settings = ⟨115200, 1, 8, 16⟩ ∧ (s.port p).rx.phase = .waitIdle ∧ (s.port p).inq = [] ∧
    (s.port p).fwd = [] ∧ (s.port p).counters = ⟨0, 0, 0, 0, 0, 0, 0, 0, 0⟩ ∧ (s.port p).score = 0 ∧
    (s.port p).sound = 0) ∧
  s.prio = [] ∧ s.replyQ = [] ∧ s.fwdRun = 0

/-- Power-on, the release of the reset line and the taking of a Reset FULL bring every state of the part to its reset
value. The waiting commands and the reset line are no state of the part (log entries 1, 11 and 13). Asserting the reset
line holds it and closes the loop bridge. That nothing else moves then, and the values are set at the release, is log
entry 12. While the loop bridge is closed, no command but power-on and the reset line changes anything (R175; log entry
12). -/
def Obligations.ResetsAndTheResetLine : Prop :=
  (∀ s : State,
     exec .powerOn s = .next { State.reset with
       pending := s.pending, resetLine := s.resetLine, bridge := if s.resetLine then .closed else .opened } ∧
     (s.resetLine = true → exec .resetLineReleased s = .next { State.reset with pending := s.pending }) ∧
     (s.bridge = .opened → s.fullReset = .finished →
       exec .fullResetTaken s = .next { State.reset with pending := s.pending, resetLine := s.resetLine })) ∧
  (∀ s : State, exec .resetLineAsserted s = .next { s with resetLine := true, bridge := .closed }) ∧
  (∀ (i : Instr) (s : State), s.bridge = .closed → i ≠ .powerOn → i ≠ .resetLineAsserted → i ≠ .resetLineReleased →
     exec i s = .next s)

/-- From a whole second on, `n` ticks of the Floor Clock add `n` to floor milliseconds and `n / 1000` to floor seconds,
both modulo 2^32, and change nothing else. The tick is one millisecond (log entry 7). -/
def Obligations.TicksCountMillisecondsAndSeconds : Prop :=
  ∀ (n : Nat) (s : State), s.bridge = .opened → s.clock.phase = 0 →
    runs (List.replicate n .floorClockTick) s = .next { s with clock :=
      ⟨s.clock.ms + BitVec.ofNat 32 n, s.clock.sec + BitVec.ofNat 32 (n / 1000), n % 1000⟩ }

/-- Each command changes only the components that the table `touches` names for it: every other component of State, the
waiting commands among them, is as before. -/
def Obligations.EveryCommandKeepsItsFrame : Prop :=
  ∀ (i : Instr) (s t : State), exec i s = .next t → Only (touches i) s t

/-! The ports. -/

/-- What a receiver does with a character (R166, R167): the start bit after idle begins a frame, a character of a frame
is taken or refused, and a character before 4 CT of idle is neither. The character after the end of a frame is log
entry 9. A waiting receiver counts idle line time and enters IDLE at 4 CT, which is 48 bit times (R165, R167). The
three ends of a frame that is not complete (R166, R167): a gap beyond the character wait limit and a length above 128
count under TRUNCATED, a fifth refusal under ABANDONED_RX; each drops the frame and adds 1 to the error score. That a frame
that finds the score at 255 raises LINK_ERRORS too is log entry 45. -/
def Obligations.ReceiverTakesWaitsAndDrops : Prop :=
  (∀ (p : Port) (b : Byte) (parity stop : Bool) (s : State), s.bridge = .opened →
     let x := s.port p
     let got := exec (.characterReceived p b parity stop) s
     let started : Rx := ⟨.inFrame, [], 0, 0, x.settings⟩
     let counted : Counters := { x.counters with repetitions := min 65535 (x.counters.repetitions + 1) }
     (x.rx.phase = .idle ∨ (x.rx.phase = .waitIdle ∧ 48 ≤ x.rx.idleBits) →
       (charFaulty b parity stop = false →
         got = .next (s.withPort p { x with rx := { started with taken := [b] } })) ∧
       (charFaulty b parity stop = true →
         got = .next (s.withPort p { x with rx := { started with refusals := 1 }, counters := counted }))) ∧
     (x.rx.phase = .inFrame → x.rx.ended = false →
       (charFaulty b parity stop = false →
         got = .next (s.withPort p { x with rx :=
           { x.rx with taken := x.rx.taken ++ [b], idleBits := 0, refusals := 0 } })) ∧
       (charFaulty b parity stop = true →
         got = .next (s.withPort p { x with
           rx := { x.rx with idleBits := 0, refusals := x.rx.refusals + 1 }, counters := counted }))) ∧
     (x.rx.phase = .waitIdle → x.rx.idleBits < 48 →
       got = .next (s.withPort p { x with rx := { x.rx with idleBits := 0 } }))) ∧
  (∀ (p : Port) (bits : Nat) (s : State), s.bridge = .opened → (s.port p).rx.phase = .waitIdle →
     let x := s.port p
     let n := x.rx.idleBits + bits
     exec (.idleDetected p bits) s = .next (s.withPort p { x with rx :=
       { x.rx with idleBits := n, phase := if 48 ≤ n then .idle else .waitIdle } })) ∧
  (∀ (p : Port) (s : State), s.bridge = .opened → (s.port p).rx.phase = .inFrame →
     let r := (s.port p).rx
     let truncated := fun c : Counters => { c with truncated := min 65535 (c.truncated + 1) }
     let abandoned := fun c : Counters => { c with abandonedRx := min 65535 (c.abandonedRx + 1) }
     (∀ bits, r.ended = false → 12 * r.settings.waitLimit < r.idleBits + bits →
       exec (.characterWaitExpiry p bits) s = .next (frameLost p (r.idleBits + bits) truncated s)) ∧
     (5 ≤ r.taken.length → 128 < byteAt r.taken 4 → r.refusals < 5 →
       exec (.payloadLengthTooLong p) s = .next (frameLost p r.idleBits truncated s)) ∧
     (5 ≤ r.refusals → exec (.abandonedRx p) s = .next (frameLost p r.idleBits abandoned s)))

/-- The checks of a complete frame in their order, the first that fails dropping it under its counter; a frame that
passes them all enters the inbound queue at its tail (R168, R173, R174). The sound-frame count stands below 32, as every
step keeps it (R174). That the idle count goes on is log entry 9, and that a frame dropped at a score of 255 raises
LINK_ERRORS too is log entry 45. -/
def Obligations.CompleteFrameIsCheckedInOrder : Prop :=
  ∀ (p : Port) (s : State), s.bridge = .opened → (s.port p).rx.phase = .inFrame → (s.port p).rx.complete = true →
    (s.port p).rx.refusals < 5 → (s.port p).sound < 32 →
    let x := s.port p
    let got := exec (.frameComplete p) s
    let waiting : PortState := { x with rx := ⟨.waitIdle, [], x.rx.idleBits, 0, x.settings⟩ }
    let n := byteAt x.rx.taken 4
    let front := x.rx.taken.take (5 + n)
    let crcGood := BitVec.ofNat 16 (be16 x.rx.taken (5 + n)) = crc16 front
    (¬crcGood →
      got = .next (frameLost p x.rx.idleBits (fun c => { c with crcError := min 65535 (c.crcError + 1) }) s)) ∧
    (crcGood → FrameKind.ofCode (byteAt x.rx.taken 2) = none →
      got = .next (frameLost p x.rx.idleBits (fun c => { c with truncated := min 65535 (c.truncated + 1) }) s)) ∧
    ∀ k, crcGood → FrameKind.ofCode (byteAt x.rx.taken 2) = some k →
      let dest := byteAt x.rx.taken 0
      let misaddressed := (241 ≤ dest ∧ dest ≤ 254) ∨ (p = .f ∧ k = .manage ∧ dest = 240)
      (misaddressed → got = .next (frameSound p { waiting with counters :=
        { x.counters with droppedAddress := min 65535 (x.counters.droppedAddress + 1) } } s)) ∧
      (¬misaddressed → 8 ≤ x.inq.length →
        got = .next (frameLost p x.rx.idleBits (fun c => { c with overrun := min 65535 (c.overrun + 1) }) s)) ∧
      (¬misaddressed → x.inq.length < 8 →
        got = .next (frameSound p { waiting with
          inq := x.inq ++ [⟨x.rx.taken.getD 0 0, x.rx.taken.getD 1 0, k, x.rx.taken.getD 3 0,
            .wire (front.drop 5) (crc16 front)⟩]
          counters := { x.counters with framesIn := min 65535 (x.counters.framesIn + 1) } } s))

/-- Every frame as the layout of R177 lays it on the line, its characters sent with even parity to an IDLE receiver, is
read back whole: each field stands in the frame that enters the inbound queue. A MANAGE-REPLY is sent with that layout too:
destination 0, source 240, at most 128 payload bytes, and without result fields the payload is the request code, the
status, the refusal cause or 0, and the refusal detail, one byte, where there is one (R183, R188). The enumerated fields and
the flags of the result stand in it, each in the one byte of its code, in the order in which the rules name them (R178);
what the other bytes are is log entry 4. -/
def Obligations.FrameSentOnTheLineIsReadBack : Prop :=
  (∀ (p : Port) (dest src seq : Byte) (k : FrameKind) (payload : List Byte) (s : State),
     payload.length ≤ 128 → s.bridge = .opened → (s.port p).rx.phase = .idle → (s.port p).inq.length < 8 →
     ¬(241 ≤ dest.toNat ∧ dest.toNat ≤ 254) → ¬(p = .f ∧ k = .manage ∧ dest.toNat = 240) →
     ∃ t, runs ((lineBytes dest src k seq payload).map (fun b => .characterReceived p b (evenParity b) true) ++
         [.frameComplete p]) s = .next t ∧
       (t.port p).inq = (s.port p).inq ++ [wireFrame dest src k seq payload] ∧
       (t.port p).rx.phase = .waitIdle ∧
       (t.port p).counters = { (s.port p).counters with framesIn := min 65535 ((s.port p).counters.framesIn + 1) } ∧
       (t.port p).fwd = (s.port p).fwd ∧ (t.port p).tx = (s.port p).tx ∧ (t.port p).settings = (s.port p).settings ∧
       Only [portField p, .alarm] s t) ∧
  ∀ (seq : Byte) (r : ManageReply),
    let f := manageReplyFrame seq r
    let front : List Byte := [byteOf r.code, byteOf r.status.toCode, byteOf ((r.cause.map Cause.toCode).getD 0)] ++
      (match r.detail with
        | some d => [byteOf d]
        | none => [])
    f.bytes = lineBytes 0 240 .manageReply seq f.payload ∧ f.payload.length ≤ 128 ∧ front <+: f.payload ∧
      (r.result = .none → f.payload = front) ∧
      (∀ st, r.result = .visitState st → f.payload = front ++ [byteOf st.toCode]) ∧
      (r.result.codes.length ≤ 124 → List.Sublist (r.result.codes.map byteOf) (f.payload.drop front.length))

/-- The Classifier forwards a head frame that no block takes, when the other port's forward queue has a free place: it
leaves its inbound queue and joins that queue with every byte as it came (R16, R169). -/
def Obligations.OtherFramesAreForwardedUnchanged : Prop :=
  ∀ (f : Frame) (s : State),
    (Heads .f f s → s.portS.fwd.length < 8 →
      (s.resp.mode = .supervising → f.kind ≠ .report ∧ f.kind ≠ .reply) →
      exec (.frameForward .f) s = .next { s with
        portF := { s.portF with inq := s.portF.inq.tail }, portS := { s.portS with fwd := s.portS.fwd ++ [f] } }) ∧
    (Heads .s f s → s.portF.fwd.length < 8 → ¬(f.kind = .manage ∧ f.dest.toNat = 240) →
      (s.resp.mode = .supervising → f.kind ≠ .order) →
      exec (.frameForward .s) s = .next { s with
        portS := { s.portS with inq := s.portS.inq.tail }, portF := { s.portF with fwd := s.portF.fwd ++ [f] } })

/-- The Port S arbitration: the reply queue first, then a notice when four forwarded frames have gone before it or no
frame waits to be forwarded, otherwise a forwarded frame (R171); from a Reset FULL on the reply queue alone (R190). A
notice at the head of the Notice Queue goes out after at most four forwarded frames, while the reply queue stays empty
(R171). -/
def Obligations.PortSArbitrationSendsNoticesInTime : Prop :=
  (∀ s : State, s.bridge = .opened → s.portS.tx = none →
     let sent := fun f : Frame => some (⟨f, s.portS.settings, 0, 0⟩ : Tx)
     let noticeGoes := fun (n : Frame) (ns : List Frame) => Host.Outcome.next (ρ := Refusal) (φ := Fault)
       { s with alarm := { s.alarm with notices := ns }, fwdRun := 0, portS := { s.portS with tx := sent n } }
     let forwardGoes := fun (f : Frame) (fs : List Frame) => Host.Outcome.next (ρ := Refusal) (φ := Fault)
       { s with fwdRun := min 4 (s.fwdRun + 1), portS := { s.portS with fwd := fs, tx := sent f } }
     (∀ f rest, s.replyQ = f :: rest → s.fullReset = .idle →
       exec (.transmitTake .s) s = .next { s with replyQ := rest, portS := { s.portS with tx := sent f } }) ∧
     (∀ n ns f fs, s.replyQ = [] → s.fullReset = .idle → s.alarm.notices = n :: ns → s.portS.fwd = f :: fs →
       (s.fwdRun = 4 → exec (.transmitTake .s) s = noticeGoes n ns) ∧
       (s.fwdRun ≠ 4 → exec (.transmitTake .s) s = forwardGoes f fs)) ∧
     (∀ n ns, s.replyQ = [] → s.fullReset = .idle → s.alarm.notices = n :: ns → s.portS.fwd = [] →
       exec (.transmitTake .s) s = noticeGoes n ns) ∧
     (∀ f fs, s.replyQ = [] → s.fullReset = .idle → s.alarm.notices = [] → s.portS.fwd = f :: fs →
       exec (.transmitTake .s) s = forwardGoes f fs) ∧
     (s.replyQ = [] → s.fullReset ≠ .idle → exec (.transmitTake .s) s = .next s)) ∧
  (∀ (s : State) (n : Frame) (ns : List Frame), s.bridge = .opened → s.fullReset = .idle → s.portS.tx = none →
     s.replyQ = [] → s.fwdRun ≤ 4 → s.alarm.notices = n :: ns →
     ∃ k ≤ 4, ∃ t, runs ((List.replicate k [Instr.transmitTake .s, Instr.frameSent .s]).flatten ++ [.transmitTake .s]) s =
         .next t ∧
       t.portS.tx.map (·.frame) = some n ∧ t.alarm.notices = ns ∧ t.portS.fwd = s.portS.fwd.drop k)

/-- The Port F arbitration: the priority queue first, then the forward head; a site order whose visit guard fails at
sending is withheld and answered REFUSED with cause VISIT when the reply queue has a place, and stays otherwise (R112,
R171). The guard fails for an order of the return-to-service set to a cabinet in the scope of a visit, for MAINT_OPEN also
when another member of its group is in such a scope, and for a broadcast while any visit stands (R109, R111). That the kind
is read from the first byte alone is log entry 20, and that the entry is found by target and sequence alone is log entry
38. The ends of a frame being sent and the repetition of a refused character (R166, R172, R173): FRAMES_OUT, or
ABANDONED_TX with the error score at the fifth refusal of one character, or REPETITIONS for each of the first four of the
present character or of a later one. The position of the character is an operand (log entry 10), and LINK_ERRORS is raised
at a score of 255 too (log entry 45). While a Reset FULL waits or is sent, every frame ends so and is counted so, and the
frame that Port S sends as its reply brings the full reset on when it ends (R190). Whatever the command, an order of
the return-to-service set that the Port F transmitter takes, forwarded or issued by a plan, names no cabinet in the scope
of a visit (R111, over the plans and frames of an invariant; log entry 41). -/
def Obligations.PortFArbitrationAndSendingEnds : Prop :=
  (∀ s : State, s.bridge = .opened → s.portF.tx = none →
     let sent := fun f : Frame => some (⟨f, s.portF.settings, 0, 0⟩ : Tx)
     let inScope := fun c : Nat => ∃ j v, visitEntry? s j = some v ∧
       (v.state = .preparing ∨ v.state = .active ∨ v.state = .closing) ∧ c ∈ v.cabinets
     let fails := fun f : Frame => f.kind = .order ∧ ∃ k, OrderKind.ofCode (byteAt f.payload 0) = some k ∧
       k ∈ [.outputClose, .deisolate, .goInverter, .maintOpen, .batteryTestStart] ∧
       ((f.dest.toNat = 255 ∧ ∃ j v, visitEntry? s j = some v ∧
           (v.state = .preparing ∨ v.state = .active ∨ v.state = .closing)) ∨
         (f.dest.toNat ≠ 255 ∧ ∃ c, cabAt? s f.dest.toNat = some c ∧ (inScope c ∨
           (k = .maintOpen ∧ ∃ r m x, cab? s c = some r ∧ cab? s m = some x ∧ x.group = r.group ∧ inScope m))))
     (∀ x rest, s.prio = x :: rest →
       exec (.transmitTake .f) s = .next { s with prio := rest, portF := { s.portF with tx := sent x.frame } }) ∧
     ∀ f rest, s.prio = [] → s.portF.fwd = f :: rest →
       (¬fails f →
         exec (.transmitTake .f) s = .next { s with portF := { s.portF with fwd := rest, tx := sent f } }) ∧
       (fails f → s.replyQ.length < 4 →
         exec (.transmitTake .f) s = .next { s with
           portF := { s.portF with fwd := rest }
           replyQ := s.replyQ ++ [builtFrame 0 .reply f.seq
             [5, f.payload.headD (Config.absentOrderKind f.dest f.seq), f.dest, 6]]
           tracker := { s.tracker with
             orders := s.tracker.orders.filter (fun e => !(e.key == ⟨.site, f.dest.toNat, f.seq⟩)) } }) ∧
       (fails f → 4 ≤ s.replyQ.length → exec (.transmitTake .f) s = .next s)) ∧
  (∀ (p : Port) (s : State) (x : Tx), s.bridge = .opened → (s.port p).tx = some x →
     let y := s.port p
     let ended : State := { s with fullReset := if p = .s ∧ s.fullReset = .sending then .finished else s.fullReset }
     let counted : Counters := { y.counters with repetitions := min 65535 (y.counters.repetitions + 1) }
     exec (.frameSent p) s = .next (ended.withPort p { y with
       tx := none, counters := { y.counters with framesOut := min 65535 (y.counters.framesOut + 1) } }) ∧
     (x.refusals = 4 →
       let score := min 255 (y.score + 1)
       let u := ended.withPort p { y with
         tx := none, score := score
         counters := { y.counters with abandonedTx := min 65535 (y.counters.abandonedTx + 1) } }
       exec (.abandonedTx p) s = .next (if y.settings.raiseLevel ≤ score then
         raise codeLinkErrors (.port p) (some (BitVec.ofNat 32 score)) u else u)) ∧
     (x.refusals < 4 →
       exec (.characterRepeated p x.char) s = .next (s.withPort p { y with
         tx := some { x with refusals := x.refusals + 1 }, counters := counted })) ∧
     ∀ char, x.char < char → char < 7 + x.frame.payload.length →
       exec (.characterRepeated p char) s = .next (s.withPort p { y with
         tx := some { x with char := char, refusals := 1 }, counters := counted })) ∧
  ∀ (i : Instr) (s t : State) (x : Tx), PlansClearOfVisits s → exec i s = .next t → s.portF.tx = none →
    t.portF.tx = some x → x.frame.kind = .order → ∀ k, OrderKind.ofCode (byteAt x.frame.payload 0) = some k →
    k ∈ [.outputClose, .deisolate, .goInverter, .maintOpen, .batteryTestStart] →
    ∀ j v, visitEntry? s j = some v → v.state = .preparing ∨ v.state = .active ∨ v.state = .closing →
      x.frame.dest.toNat ≠ 255 ∧ ∀ c, cabAt? s x.frame.dest.toNat = some c → c ∉ v.cabinets

/-! The Report Inspector. -/

/-- The report layouts of R179 lose nothing: every cabinet report, and every string report with one to four sensors
whose fields fit their bytes, is read back from its bytes as it was. Which payloads fail the form tests (R23): at a cabinet
address all but 17 bytes that say CABINET with a mode, bypass source status and door of their lists; at a string-monitor
address one that does not say STRING, with cause FORM and block count 0, one that lacks bytes 0 to 3 or whose length is not
that of its declared counts, with cause LENGTH and the declared block count, 0 when it holds no byte 1, and one with a
sensor count outside 1 to 4, with either cause (R23, R25; log entry 15). Every other payload is read, and its fields give
its bytes back, a test running flag above 1 as 1 (R178). -/
def Obligations.ReportLayoutsReadBack : Prop :=
  (∀ r : CabReport, r.load < 65536 → r.echo < 65536 → r.inV < 65536 → r.outV < 65536 → isSigned16 r.temp →
    r.fault < 65536 → parseCabReport (cabReportBytes r) = some r) ∧
  (∀ r : StrReport, r.blocks = r.volts.length → r.blocks < 256 → 1 ≤ r.temps.length → r.temps.length ≤ 4 →
    r.resistances.length < 256 → isSigned16 r.current → (∀ t ∈ r.temps, isSigned16 t) → (∀ v ∈ r.volts, v < 65536) →
    (∀ x ∈ r.resistances, x.1 < 256 ∧ x.2 < 2 ^ 32) →
    parseStrReport (strReportBytes r) = .ok r) ∧
  (∀ p : List Byte,
     let formed := p.length = 17 ∧ byteAt p 0 = 1 ∧ (1 ≤ byteAt p 1 ∧ byteAt p 1 ≤ 7) ∧
       (1 ≤ byteAt p 12 ∧ byteAt p 12 ≤ 3) ∧ byteAt p 13 ≤ 1
     (¬formed → parseCabReport p = none) ∧
     (formed → ∃ r, parseCabReport p = some r ∧
       cabReportBytes r = p.take 16 ++ [if byteAt p 16 = 0 then 0 else 1])) ∧
  ∀ p : List Byte,
    let n := byteAt p 1
    let sensors := byteAt p 2
    let declared := 10 + 2 * sensors + 2 * n + 5 * byteAt p 3
    (byteAt p 0 ≠ 2 → parseStrReport p = .error (.form, 0)) ∧
    (byteAt p 0 = 2 →
      (p.length = 1 → parseStrReport p = .error (.length, 0)) ∧
      (2 ≤ p.length → p.length < 4 → parseStrReport p = .error (.length, n)) ∧
      (4 ≤ p.length →
        (sensors < 1 ∨ 4 < sensors → parseStrReport p = .error (.form, 0) ∨ parseStrReport p = .error (.length, n)) ∧
        (1 ≤ sensors → sensors ≤ 4 →
          (p.length ≠ declared → parseStrReport p = .error (.length, n)) ∧
          (p.length = declared → ∃ r, parseStrReport p = .ok r ∧ strReportBytes r = p))))

/-- An accepted cabinet report: the live fields of R29, the watch and LIVE of R26 and R28, the mismatch count of R40,
the expected mode and test flag of R41, the hand-offs of R42, and the report passed to the Port S forward queue
unchanged (R22). Nothing else but the limit records, as the judgement of R33 leaves them, and the alarms changes. The
place at the tail of the hand-off lists is log entry 5. What an accepted cabinet report tells the
Alarm Unit, in the order the rules name it (R28, R33, R37 to R40): silence ends, the limits, CABINET_FAULT, ON_BATTERY,
BYPASS_SOURCE_POOR, MODE_MISMATCH. The order of the acts of one report is log entry 17, the expected mode of R41
settled before they are judged is log entry 18. -/
def Obligations.AcceptedCabinetReportActs : Prop :=
  (∀ (f : Frame) (e : DirEntry) (n : CabNode) (r : CabRec) (p : CabReport) (s : State),
     ReportAtHead f s → nodeAt? s f.src.toNat = some e → e.role = .cabinet n → cab? s n.index = some r →
     parseCabReport f.payload = some p →
     let gp := groupParams s r.group
     let expected := r.expected.getD p.mode
     let exempt := p.mode = .fault ∨ (p.mode = .onBattery ∧ expected = .online ∧ r.testFlag = false)
     let modeAgrees := p.mode = expected ∨ (p.mode = .onBattery ∧ expected = .online ∧ r.testFlag = true)
     let echo := min p.echo 1000
     let shareAgrees := echo ≤ r.share + gp.matchTolerance ∧ r.share ≤ echo + gp.matchTolerance
     ∃ t, exec .reportInspection s = .next t ∧
       cab? t n.index = some { r with
         reported := some p.mode, load := min p.load 1500, shareEcho := echo, inV := min p.inV 999,
         outV := min p.outV 999, temp := if -400 ≤ p.temp ∧ p.temp ≤ 850 then p.temp else -32768,
         bypass := p.bypass, door := p.door, testRunning := p.testRunning,
         faultCode := if p.mode = .fault ∧ p.fault ≠ 0 then some p.fault else none,
         liveness := .live, watch := some ⟨s.clock.ms, e.interval * e.missLimit⟩, expected := some expected,
         mismatch := if exempt then r.mismatch else if modeAgrees ∧ shareAgrees then 0 else min 15 (r.mismatch + 1),
         testFlag := if p.mode = .online ∧ p.testRunning = false then false else r.testFlag } ∧
       (∀ c, c ≠ n.index → cab? t c = cab? s c) ∧
       t.hand = { s.hand with
         visit := s.hand.visit ++ [⟨n.index, p.mode, p.door⟩]
         ramp := if (plan? s r.group).isSome then s.hand.ramp ++ [n.index] else s.hand.ramp } ∧
       t.portF = { s.portF with inq := s.portF.inq.tail } ∧ t.portS = { s.portS with fwd := s.portS.fwd ++ [f] } ∧
       Only [.cabs, .insp, .alarm, .hand, .portS, .portF] s t) ∧
  (∀ (f : Frame) (e : DirEntry) (n : CabNode) (r : CabRec) (p : CabReport) (s : State),
     ReportAtHead f s → nodeAt? s f.src.toNat = some e → e.role = .cabinet n → cab? s n.index = some r →
     parseCabReport f.payload = some p →
     let me : Subject := .cabinet n.index
     let gp := groupParams s r.group
     let expected := r.expected.getD p.mode
     let fell := p.mode = .onBattery ∧ expected = .online ∧ r.testFlag = false
     let modeAgrees := p.mode = expected ∨ (p.mode = .onBattery ∧ expected = .online ∧ r.testFlag = true)
     let echo := min p.echo 1000
     let shareAgrees := echo ≤ r.share + gp.matchTolerance ∧ r.share ≤ echo + gp.matchTolerance
     let a0 := if r.liveness = .silent then clear codeCabinetSilent me s else s
     let stored : CabRec := { r with
       load := min p.load 1500, inV := min p.inV 999, outV := min p.outV 999
       temp := if -400 ≤ p.temp ∧ p.temp ≤ 850 then p.temp else -32768 }
     let a1 := judgeLimits me stored.measured a0
     let a2 := if p.mode = .fault then raise codeCabinetFault me (some (BitVec.ofNat 32 p.fault)) a1
       else clear codeCabinetFault me a1
     let a3 := if p.mode = .onBattery then
         (if fell then raise codeOnBattery me (some (BitVec.ofNat 32 (min p.load 1500))) a2 else a2)
       else clear codeOnBattery me a2
     let a4 := if p.bypass = .good then clear codeBypassSourcePoor me a3
       else raise codeBypassSourcePoor me (some (BitVec.ofNat 32 p.bypass.toCode)) a3
     let a5 := if p.mode = .fault ∨ fell then a4
       else if modeAgrees ∧ shareAgrees then clear codeModeMismatch me a4
       else if gp.mismatchAllowance ≤ min 15 (r.mismatch + 1) then
         raise codeModeMismatch me
           (some (BitVec.ofNat 32 (p.mode.toCode * 2 ^ 24 + expected.toCode * 2 ^ 16 + echo))) a4
       else a4
     ∃ t, exec .reportInspection s = .next t ∧ t.alarm = a5.alarm ∧ t.insp = a1.insp ∧ t.insp.quiet = s.insp.quiet)

/-- An accepted string report: block voltages, current and temperatures as R30 stores them, the watch and LIVE, the
recorded serial and the ageing record as they were, the clears of MONITOR_SILENT and STRING_CONFIG_MISMATCH with the
limits after them (log entry 17), and the hand-over to the Ageing Engine, at the tail of its list (log entry 5), with the
cleaned resistance list (R25, R26, R28, R30, R33, R43). The quiet timer stays. -/
def Obligations.AcceptedStringReportActs : Prop :=
  ∀ (f : Frame) (e : DirEntry) (n : StrNode) (r : StrRec) (p : StrReport) (s : State),
    ReportAtHead f s → nodeAt? s f.src.toNat = some e → e.role = .stringMonitor n → str? s n.index = some r →
    parseStrReport f.payload = .ok p → p.blocks = n.blocks →
    let me : Subject := .string n.index
    let temps := p.temps.map (fun x => if -400 ≤ x ∧ x ≤ 850 then x else -32768)
    ∃ t, exec .reportInspection s = .next t ∧
      str? t n.index = some { r with
        volts := p.volts, current := p.current, temps := temps, liveness := .live,
        watch := some ⟨s.clock.ms, e.interval * e.missLimit⟩ } ∧
      (∀ i, i ≠ n.index → str? t i = str? s i) ∧
      t.hand.visit = s.hand.visit ∧ t.hand.ramp = s.hand.ramp ∧
      (∃ rs, t.hand.ageing = s.hand.ageing ++ [⟨n.index, s.clock.ms, p.current, temps, p.serial, rs⟩] ∧
        rs.Pairwise (fun x y => x.1 < y.1) ∧
        ∀ x : Nat × Nat, x ∈ rs ↔ 1 ≤ x.1 ∧ x.1 ≤ n.blocks ∧
          (p.resistances.filter (fun y => y.1 == x.1)).getLast? = some x) ∧
      let stored : StrRec := { r with volts := p.volts, temps := temps }
      let judged := judgeLimits me stored.measured (clear codeStringConfigMismatch me
        (if r.liveness = .silent then clear codeMonitorSilent me s else s))
      t.alarm = judged.alarm ∧ t.insp = judged.insp ∧ t.insp.quiet = s.insp.quiet ∧
      t.portF = { s.portF with inq := s.portF.inq.tail } ∧ t.portS = { s.portS with fwd := s.portS.fwd ++ [f] } ∧
      Only [.strs, .insp, .alarm, .hand, .portS, .portF] s t

/-- A report that fails a test (R23 to R25): from an address without an entry or in a form a cabinet does not use it
raises UNEXPECTED_NODE and restarts the quiet timer; from a string monitor, in form or block count, it raises
STRING_CONFIG_MISMATCH. It is passed on unchanged, and no record, watch or hand-off is touched. When a node's watch
expires, LIVE or NEVER_SEEN becomes SILENT, the watch stops, and CABINET_SILENT or MONITOR_SILENT is raised without a
detail; a string's VALID time base becomes BROKEN. Every live field stays (R27, R69). When the quiet timer expires it
stops and UNEXPECTED_NODE is cleared (R24). -/
def Obligations.FailingReportsAndInspectorTimers : Prop :=
  (∀ (f : Frame) (s : State), ReportAtHead f s →
     let quiet := s.withInsp { s.insp with quiet := some ⟨s.clock.ms, 300000⟩ }
     let unexpected := raise codeUnexpectedNode .supervisor (some (BitVec.ofNat 32 f.src.toNat)) quiet
     let mismatch := fun (i cause blocks : Nat) =>
       raise codeStringConfigMismatch (.string i) (some (BitVec.ofNat 32 (cause * 2 ^ 24 + blocks))) s
     let got := exec .reportInspection s
     (nodeAt? s f.src.toNat = none → got = .next (passedUp f s unexpected)) ∧
     (∀ e n, nodeAt? s f.src.toNat = some e → e.role = .cabinet n → parseCabReport f.payload = none →
       got = .next (passedUp f s unexpected)) ∧
     (∀ e n cause blocks, nodeAt? s f.src.toNat = some e → e.role = .stringMonitor n →
       parseStrReport f.payload = .error (cause, blocks) →
       got = .next (passedUp f s (mismatch n.index cause.toCode blocks))) ∧
     (∀ e n p, nodeAt? s f.src.toNat = some e → e.role = .stringMonitor n → parseStrReport f.payload = .ok p →
       p.blocks ≠ n.blocks → got = .next (passedUp f s (mismatch n.index 3 p.blocks)))) ∧
  (∀ s : State, s.bridge = .opened →
     (∀ c r w, cab? s c = some r → r.watch = some w → w.len ≤ (s.clock.ms - w.start).toNat →
       exec (.watchExpiry (.cabinet c)) s = .next (raise codeCabinetSilent (.cabinet c) none
         { s with cabs := s.cabs.setIfInBounds c (some { r with liveness := .silent, watch := none }) })) ∧
     ∀ i r w, str? s i = some r → r.watch = some w → w.len ≤ (s.clock.ms - w.start).toNat →
       exec (.watchExpiry (.string i)) s = .next (raise codeMonitorSilent (.string i) none
         { s with strs := s.strs.setIfInBounds i (some { r with
           liveness := .silent
           watch := none
           ageing := { r.ageing with base := if r.ageing.base = .valid then .broken else r.ageing.base } }) })) ∧
  (∀ (s : State) (w : Timer), s.bridge = .opened → s.insp.quiet = some w → w.len ≤ (s.clock.ms - w.start).toNat →
     exec .quietTimerExpiry s =
       .next (clear codeUnexpectedNode .supervisor { s with insp := { s.insp with quiet := none } }))

/-- Persistence counts consecutive reports beyond trip: `n` of them from a fresh record trip it exactly when `n`
reaches the persistence; a value that is not beyond trip sets the count of an untripped record to 0; a tripped record
stays as it is until a value on the clear side makes it fresh again (R34, R35). One limit record judged on a measured
value: a trip raises the entry's code with the value as detail, a trip's end clears it unless another enabled entry
with the code holds a tripped record for the subject, and no other value says anything to the Alarm Unit; a value not
measured leaves the record (R33 to R35). The records of other entries and subjects stay. A free or disabled entry, or one
that does not cover the subject, judges nothing; the entries are judged by ascending index (log entry 17). Beyond trip and
the clear side by the entry's direction (R34, R35). The values judged, from the fields the report stored (R33): load and
voltages of a cabinet, its temperature unless it is invalid; of a string the least and the greatest block voltage other
than 65535 and their difference, and the greatest valid sensor clamped to −200 to 700, or not measured when no block and
no sensor is left. -/
def Obligations.LimitsTripAndReachTheAlarmUnit : Prop :=
  (∀ (e : LimitEntry) (v : Int),
     (e.beyondTrip v = true ↔ (e.direction = .high ∧ e.trip ≤ v) ∨ (e.direction = .low ∧ v ≤ e.trip)) ∧
     (e.onClearSide v = true ↔ (e.direction = .high ∧ v ≤ e.clear) ∨ (e.direction = .low ∧ e.clear ≤ v))) ∧
  (∀ e : LimitEntry, 1 ≤ e.persistence → e.persistence ≤ 15 →
     (∀ vs : List Int, (∀ v ∈ vs, e.beyondTrip v = true) → (∀ v ∈ vs, e.onClearSide v = false) →
       vs.foldl (fun r v => e.judge v r) ⟨0, false⟩ =
         ⟨min vs.length e.persistence, decide (e.persistence ≤ vs.length)⟩) ∧
     (∀ v r, r.tripped = false → e.beyondTrip v = false → e.judge v r = ⟨0, false⟩) ∧
     (∀ v r, r.tripped = true → e.onClearSide v = false → e.judge v r = r) ∧
     ∀ v r, r.tripped = true → e.onClearSide v = true → e.judge v r = ⟨0, false⟩) ∧
  (∀ (s : State) (k : Nat) (e : LimitEntry) (sub : Subject) (r : LimitRec) (value : Measurement → Option Int),
     limit? s k = some e → e.enabled = true → limitRec? s k e sub = some r →
     (value e.measurement = none → judgeLimit sub value k s = s) ∧
     ∀ v, value e.measurement = some v →
       let u := judgeLimit sub value k s
       let held := ∃ j x y, j ≠ k ∧ limit? s j = some x ∧ x.enabled = true ∧ x.code = e.code ∧
         limitRec? s j x sub = some y ∧ y.tripped = true
       limitRec? u k e sub = some (e.judge v r) ∧ Only [.insp, .alarm] s u ∧ u.insp.quiet = s.insp.quiet ∧
       (∀ k' e' sub', limit? s k' = some e' → (k', sub') ≠ (k, sub) →
         limitRec? u k' e' sub' = limitRec? s k' e' sub') ∧
       (r.tripped = false → (e.judge v r).tripped = true →
         u.alarm = (raise e.code sub (some (BitVec.ofInt 32 v)) s).alarm) ∧
       (r.tripped = true → (e.judge v r).tripped = false →
         (held → u.alarm = s.alarm) ∧ (¬held → u.alarm = (clear e.code sub s).alarm)) ∧
       (r.tripped = (e.judge v r).tripped → u.alarm = s.alarm)) ∧
  (∀ (s : State) (k : Nat) (sub : Subject) (value : Measurement → Option Int),
     ((∀ e, limit? s k = some e → e.enabled = false ∨ limitRec? s k e sub = none) → judgeLimit sub value k s = s) ∧
     judgeLimits sub value s = (List.range 32).foldl (fun x j => judgeLimit sub value j x) s) ∧
  (∀ (r : CabRec) (m : Measurement),
     r.measured .cabLoad = some r.load ∧ r.measured .cabInV = some r.inV ∧ r.measured .cabOutV = some r.outV ∧
     (r.temp ≠ -32768 → r.measured .cabTemp = some r.temp) ∧ (r.temp = -32768 → r.measured .cabTemp = none) ∧
     (m ∈ [.blockVMin, .blockVMax, .blockVSpread, .stringTemp] → r.measured m = none)) ∧
  ∀ (r : StrRec) (m : Measurement),
    let read := fun v : Nat => v ∈ r.volts ∧ v ≠ 65535
    let valid := fun t : Int => t ∈ r.temps ∧ t ≠ -32768
    (∀ least greatest : Nat, read least → (∀ v, read v → least ≤ v) → read greatest → (∀ v, read v → v ≤ greatest) →
      r.measured .blockVMin = some least ∧ r.measured .blockVMax = some greatest ∧
      r.measured .blockVSpread = some ((greatest : Int) - least)) ∧
    ((∀ v, ¬read v) → m ∈ [.blockVMin, .blockVMax, .blockVSpread] → r.measured m = none) ∧
    (∀ t, valid t → (∀ x, valid x → x ≤ t) → r.measured .stringTemp = some (max (-200) (min 700 t))) ∧
    ((∀ t, ¬valid t) → r.measured .stringTemp = none) ∧
    (m ∈ [.cabLoad, .cabInV, .cabOutV, .cabTemp] → r.measured m = none)

/-! The Alarm Unit. -/

/-- A raise by the entry it finds (R48 to R50). A standing entry counts it and moves last-raised; a CLEARED entry is
revived with its level and detail afresh; no entry and a free place create one. A revived or created entry is SHELVED,
and said to nobody, when the shelving test holds, otherwise ACTIVE with an ALARM_RAISED notice. Other entries are as
before. The three conditions of the shelving test (R50). -/
def Obligations.RaiseActsByTheEntryItFinds : Prop :=
  (∀ (c : Nat) (sub : Subject) (d : Option Word32) (s : State),
     let t := raise c sub d s
     let sec := s.clock.sec
     let level := (s.alarm.classOf c).level
     let shelved := shelvingTest s c sub
     let announced := fun e : AlarmEntry => s.alarm.notice sec .alarmRaised e.raisedBody
     Only [.alarm] s t ∧
     (∀ e, s.alarm.find? c sub = some e → e.state ≠ .cleared →
       t.alarm.find? c sub = some { e with lastRaised := sec, count := min 255 (e.count + 1) } ∧
       t.alarm.notices = s.alarm.notices ∧ t.alarm.list.length = s.alarm.list.length) ∧
     (∀ e, s.alarm.find? c sub = some e → e.state = .cleared →
       let e' : AlarmEntry := { e with
         level := (s.alarm.classOf e.code).level, state := if shelved then .shelved else .active, lastRaised := sec,
         count := min 255 (e.count + 1), detail := d }
       t.alarm.find? c sub = some e' ∧ t.alarm.list.length = s.alarm.list.length ∧
       t.alarm.notices = if shelved then s.alarm.notices else (announced e').notices) ∧
     (s.alarm.find? c sub = none → s.alarm.list.length < 64 →
       let e' : AlarmEntry := ⟨c, sub, level, if shelved then .shelved else .active, sec, sec, 1, d⟩
       t.alarm.list = s.alarm.list ++ [e'] ∧
       t.alarm.notices = if shelved then s.alarm.notices else (announced e').notices) ∧
     (s.alarm.list.length < 64 ∨ (s.alarm.find? c sub).isSome →
       ∀ c' sub', (c', sub') ≠ (c, sub) → t.alarm.find? c' sub' = s.alarm.find? c' sub')) ∧
  (∀ (s : State) (c : Nat) (sub : Subject), shelvingTest s c sub = true ↔
     (∃ k v, visitEntry? s k = some v ∧ (v.state = .active ∨ v.state = .closing) ∧
       ((∃ x, sub = .cabinet x ∧ x ∈ v.cabinets) ∨ ∃ x, sub = .string x ∧ x ∈ v.strings)) ∧
     (s.alarm.classOf c).shelvable = true ∧ c ≠ 9 ∧ c ≠ 10 ∧ c ≠ 11)

/-- A raise that needs a new entry in a full list (R51): the oldest CLEARED entry gives way; else, of the ACKNOWLEDGED
entries below the new level, the oldest of the lowest level; else the same of the ACTIVE entries; with no candidate the
raise is lost and counted. The list is in creation order. -/
def Obligations.FullListGivesUpTheRightEntry : Prop :=
  ∀ (c : Nat) (sub : Subject) (d : Option Word32) (s : State), AlarmKeysDistinct s → s.alarm.list.length = 64 →
    s.alarm.find? c sub = none →
    let t := raise c sub d s
    let level := (s.alarm.classOf c).level
    let new : AlarmEntry :=
      ⟨c, sub, level, if shelvingTest s c sub then .shelved else .active, s.clock.sec, s.clock.sec, 1, d⟩
    let gone := fun i : Nat => t.alarm.list = s.alarm.list.eraseIdx i ++ [new] ∧ t.alarm.lost = s.alarm.lost ∧
      t.alarm.notices = if shelvingTest s c sub then s.alarm.notices
        else (s.alarm.notice s.clock.sec .alarmRaised new.raisedBody).notices
    let lower := fun (st : AlarmState) (e : AlarmEntry) => e.state = st ∧ e.level < level
    let lowestOldest := fun (st : AlarmState) (i : Nat) (e : AlarmEntry) =>
      s.alarm.list[i]? = some e ∧ lower st e ∧
        (∀ x ∈ s.alarm.list, lower st x → e.level ≤ x.level) ∧
        ∀ j x, j < i → s.alarm.list[j]? = some x → lower st x → e.level < x.level
    let none' := fun p : AlarmEntry → Prop => ∀ x ∈ s.alarm.list, ¬p x
    (∀ i e, s.alarm.list[i]? = some e → e.state = .cleared →
      (∀ j x, j < i → s.alarm.list[j]? = some x → x.state ≠ .cleared) → gone i) ∧
    (none' (fun x => x.state = .cleared) → ∀ i e, lowestOldest .acknowledged i e → gone i) ∧
    (none' (fun x => x.state = .cleared) → none' (lower .acknowledged) → ∀ i e, lowestOldest .active i e → gone i) ∧
    (none' (fun x => x.state = .cleared) → none' (lower .acknowledged) → none' (lower .active) →
      t = { s with alarm := { s.alarm with lost := min 65535 (s.alarm.lost + 1) } })

/-- A clear acts on the entry for its code and subject by the entry's state, with the notice of the table of R52. -/
def Obligations.ClearActsByTheStateOfTheEntry : Prop :=
  ∀ (c : Nat) (sub : Subject) (s : State),
    let t := clear c sub s
    let told := fun o : Byte => (s.alarm.notice s.clock.sec .alarmCleared (byteOf c :: (sub.bytes ++ [o]))).notices
    Only [.alarm] s t ∧
    (∀ c' sub', (c', sub') ≠ (c, sub) → t.alarm.find? c' sub' = s.alarm.find? c' sub') ∧
    (∀ e, s.alarm.find? c sub = some e →
      (e.state = .active → (s.alarm.classOf c).latching = true →
        t.alarm.find? c sub = some { e with state := .cleared } ∧ t.alarm.notices = told 1) ∧
      (e.state = .active → (s.alarm.classOf c).latching = false →
        t.alarm.find? c sub = none ∧ t.alarm.notices = told 2) ∧
      (e.state = .acknowledged → t.alarm.find? c sub = none ∧ t.alarm.notices = told 2) ∧
      (e.state = .shelved → t.alarm.find? c sub = none ∧ t.alarm.notices = s.alarm.notices) ∧
      (e.state = .cleared → t = s)) ∧
    (s.alarm.find? c sub = none → t = s)

/-- Acknowledge Alarm by the state of the entry, and its refusals (R53). At a visit's end every SHELVED entry of its
scopes becomes ACTIVE, its other fields kept, and every other entry is as it was; their ALARM_UNSHELVED notices go to
the Notice Queue in read order (R54). -/
def Obligations.AcknowledgeAndUnshelveActByTheState : Prop :=
  (∀ (c kind index : Nat) (f : Frame) (s : State), Takes 22 (plainForm 22) f s →
     let u := dropHead .s s
     let got := exec (.acknowledgeAlarm c kind index) s
     let refused := fun x : Cause => Host.Outcome.next (ρ := Refusal) (φ := Fault)
       (answered f ⟨22, .refused, some x, none, .none⟩ u)
     (s.resp.mode = .unconfigured → got = refused .mode) ∧
     (s.resp.mode = .supervising → (classIndex c = none ∨ subjectOfFields kind index = none) → got = refused .badValue) ∧
     ∀ sub, s.resp.mode = .supervising → classIndex c ≠ none → subjectOfFields kind index = some sub →
       (s.alarm.find? c sub = none → got = refused .notFound) ∧
       ∀ e, s.alarm.find? c sub = some e →
         (e.state = .shelved → got = refused .state) ∧
         (e.state ≠ .shelved → ∃ t, got = .next (answered f ⟨22, .ok, none, none, .none⟩ t) ∧ Only [.alarm] u t ∧
           (∀ c' sub', (c', sub') ≠ (c, sub) → t.alarm.find? c' sub' = s.alarm.find? c' sub') ∧
           t.alarm.notices = s.alarm.notices ∧ t.alarm.lost = s.alarm.lost ∧ t.alarm.classes = s.alarm.classes ∧
           t.alarm.find? c sub = match e.state with
             | .active => some { e with state := .acknowledged }
             | .acknowledged => some e
             | _ => none)) ∧
  (∀ (id : Nat) (cs is : List Nat) (s : State),
     let t := unshelveScopes id cs is s
     let waits := fun e : AlarmEntry => e.state == .shelved && e.inScopes cs is
     Only [.alarm] s t ∧
     t.alarm.list = s.alarm.list.map (fun e => if waits e then { e with state := .active } else e) ∧
     t.alarm.notices = ((readOrder (s.alarm.list.filter waits)).foldl
       (fun u e => queueNotice .alarmUnshelved (e.raisedBody ++ [byteOf id]) u) s).alarm.notices)

/-- A notice enters a queue of fewer than 16 at its tail with the notice number and the header of R60, which takes the
dropped-notice count and sets it to 0; a full queue drops it and counts it (R59, R60). -/
def Obligations.NoticeEntersOrIsDropped : Prop :=
  ∀ (k : NoticeKind) (body : List Byte) (s : State),
    let a := s.alarm
    (a.notices.length < 16 → queueNotice k body s = { s with alarm := { a with
      notices := a.notices ++ [wireFrame 0 240 .notice a.number
        (byteOf k.toCode :: (bytes32 s.clock.sec ++ bytes16 a.lost ++ [byteOf a.dropped] ++ body))]
      number := a.number + 1
      dropped := 0 } }) ∧
    (16 ≤ a.notices.length →
      queueNotice k body s = { s with alarm := { a with dropped := min 255 (a.dropped + 1) } })

/-- Read Alarm List answers with up to 8 entries from its starting position on in read order, the number of entries and
the lost-alarm count, which it then sets to 0 (R56, R57, R188). Read order is an order of the same entries by level
descending, code ascending, subject ascending. In the payload up to 8 entries stand packed as R188 gives them, in their
order, behind code, status, cause 0 and the bytes of the two numbers, whose width is a free value of at most 5 bytes (log
entry 4): none of an entry is cut. -/
def Obligations.ReadAlarmListPagesInReadOrder : Prop :=
  (∀ (start : Nat) (f : Frame) (s : State), Takes 21 (plainForm 21) f s →
    let u := dropHead .s s
    exec (.readAlarmList start) s = .next (answered f
      ⟨21, .ok, none, none, .alarmList s.alarm.list.length s.alarm.lost
        ((((readOrder s.alarm.list).drop start).take 8).map AlarmEntry.packed)⟩
      { u with alarm := { u.alarm with lost := 0 } })) ∧
  (∀ l : List AlarmEntry, (readOrder l).Perm l ∧
    ((∀ e ∈ l, e.level ≤ 3 ∧ e.code < 64 ∧ e.subject.number < 64) → (readOrder l).Pairwise (fun x y =>
      y.level < x.level ∨ (x.level = y.level ∧
        (x.code < y.code ∨ (x.code = y.code ∧ x.subject.number ≤ y.subject.number)))))) ∧
  ∀ count lost : Nat, ∃ numbers : List Byte, numbers.length ≤ 5 ∧ ∀ (seq : Byte) (es : List AlarmEntry), es.length ≤ 8 →
    let pack := fun e : AlarmEntry =>
      [BitVec.ofNat 8 (4 * e.code + e.level), BitVec.ofNat 8 (4 * e.subject.number + e.state.toCode), BitVec.ofNat 8 e.count] ++
        bytes32 e.firstRaised ++ bytes32 e.lastRaised ++ (match e.detail with
          | some d => bytes32 d
          | none => [])
    (manageReplyFrame seq ⟨21, .ok, none, none, .alarmList count lost (es.map AlarmEntry.packed)⟩).payload =
      [21, 1, 0] ++ numbers ++ (es.map pack).flatten

/-! The tables that the site writes. -/

/-- Write Alarm Class stores the class of its code with the level clamped to 3, and refuses a code outside 1 to 20 and
32 to 63 and a flag that is neither YES nor NO (R46). Write Gate Entry gives a kind its class, or refuses a kind or
class outside its list; orders already tracked are as they were (R105). Write Group Parameters stores the carried
fields clamped and refuses a group, an empty list or a ramp step outside its set (R123, R124). The later of two values
for one field stands (log entry 24). Write Port Settings stores the carried settings of its port, guard, wait limit and
raise level clamped, and refuses a port, an empty list or a rate outside the four (R187). The later of two values for
one setting stands (log entry 24). -/
def Obligations.TableWritesStoreTheirFields : Prop :=
  (∀ (c level : Nat) (la sh : FlagField) (f : Frame) (s : State), Takes 9 (plainForm 9) f s →
     let u := dropHead .s s
     let got := exec (.writeAlarmClass c level la sh) s
     let coded := (1 ≤ c ∧ c ≤ 20) ∨ (32 ≤ c ∧ c ≤ 63)
     (¬coded ∨ la = .neither ∨ sh = .neither →
       got = .next (answered f ⟨9, .refused, some .badValue, none, .none⟩ u)) ∧
     (coded → la ≠ .neither → sh ≠ .neither →
       ∃ t, got = .next (answered f ⟨9, if 3 < level then .okClamped else .ok, none, none, .none⟩ t) ∧ Only [.alarm] u t ∧
         t.alarm.classOf c = ⟨min 3 level, decide (la = .yes), decide (sh = .yes)⟩ ∧
         (∀ c', c' ≠ c → t.alarm.classOf c' = s.alarm.classOf c') ∧
         t.alarm.list = s.alarm.list ∧ t.alarm.notices = s.alarm.notices ∧ t.alarm.lost = s.alarm.lost)) ∧
  (∀ (kind cls : Nat) (f : Frame) (s : State), Takes 10 (.exactly [kind, cls]) f s →
     let u := dropHead .s s
     let got := exec (.writeGateEntry kind cls) s
     ((¬(1 ≤ kind ∧ kind ≤ 13) ∨ ¬(1 ≤ cls ∧ cls ≤ 3)) →
       got = .next (answered f ⟨10, .refused, some .badValue, none, .none⟩ u)) ∧
     ∀ (k : OrderKind) (c : GateClass), k.toCode = kind → c.toCode = cls →
       ∃ t, got = .next (answered f ⟨10, .ok, none, none, .none⟩ t) ∧ t.gate[k.index] = c ∧
         (∀ k' : OrderKind, k' ≠ k → t.gate[k'.index] = s.gate[k'.index]) ∧ Only [.gate] u t) ∧
  (∀ (g : Nat) (fs : List (GroupField × Nat)) (f : Frame) (s : State), Takes 7 (groupForm fs) f s →
     let u := dropHead .s s
     let bad := 4 ≤ g ∨ fs = [] ∨ ∃ v, (.rampStep, v) ∈ fs ∧ v ≠ 10 ∧ v ≠ 20 ∧ v ≠ 40 ∧ v ≠ 80
     (bad → exec (.writeGroupParameters g fs) s =
       .next (answered f ⟨7, .refused, some .badValue, none, .none⟩ u)) ∧
     let outside := fun (x : GroupField) (least most : Nat) => ∃ v, (x, v) ∈ fs ∧ (v < least ∨ most < v)
     let cut := outside .minInService 1 7 ∨ outside .capacityMargin 500 1000 ∨ outside .reserveThreshold 0 1000 ∨
       outside .rampInterval 200 10000 ∨ outside .matchTolerance 5 100 ∨ outside .matchWindow 1000 60000 ∨
       outside .replyWindow 100 5000 ∨ outside .completionWindow 1000 120000 ∨ outside .settleBypass 0 60000 ∨
       outside .settleMaint 0 60000 ∨ outside .settleOutput 0 60000 ∨ outside .settleIsolate 0 60000 ∨
       outside .mismatchAllowance 1 15
     let stored := fun x : GroupParams => fs.foldl (fun x a => match a with
       | (.minInService, v) => { x with minInService := max 1 (min 7 v) }
       | (.capacityMargin, v) => { x with capacityMargin := max 500 (min 1000 v) }
       | (.reserveThreshold, v) => { x with reserveThreshold := min 1000 v }
       | (.rampStep, v) => { x with rampStep := v }
       | (.rampInterval, v) => { x with rampInterval := max 200 (min 10000 v) }
       | (.matchTolerance, v) => { x with matchTolerance := max 5 (min 100 v) }
       | (.matchWindow, v) => { x with matchWindow := max 1000 (min 60000 v) }
       | (.replyWindow, v) => { x with replyWindow := max 100 (min 5000 v) }
       | (.completionWindow, v) => { x with completionWindow := max 1000 (min 120000 v) }
       | (.settleBypass, v) => { x with settleBypass := min 60000 v }
       | (.settleMaint, v) => { x with settleMaint := min 60000 v }
       | (.settleOutput, v) => { x with settleOutput := min 60000 v }
       | (.settleIsolate, v) => { x with settleIsolate := min 60000 v }
       | (.mismatchAllowance, v) => { x with mismatchAllowance := max 1 (min 15 v) }) x
     (¬bad → ∃ t st, exec (.writeGroupParameters g fs) s = .next (answered f ⟨7, st, none, none, .none⟩ t) ∧
       (cut → st = .okClamped) ∧ (¬cut → st = .ok) ∧ groupParams t g = stored (groupParams s g) ∧
       (∀ j, j ≠ g → groupParams t j = groupParams s j) ∧ t.seq.plans = s.seq.plans ∧ t.seq.nextPlan = s.seq.nextPlan ∧
       t.seq.nextSeq = s.seq.nextSeq ∧ Only [.seq] u t)) ∧
  (∀ (port : Nat) (fs : List (PortField × Nat)) (f : Frame) (s : State), Takes 11 (portForm fs) f s →
     let u := dropHead .s s
     let got := exec (.writePortSettings port fs) s
     let bad := fs = [] ∨ ∃ v, (.bitRate, v) ∈ fs ∧ v ≠ 19200 ∧ v ≠ 57600 ∧ v ≠ 115200 ∧ v ≠ 460800
     let stored := fun x : LineSettings => fs.foldl (fun x a => match a with
       | (.bitRate, v) => { x with bitRate := v }
       | (.guard, v) => { x with guard := min 15 v }
       | (.waitLimit, v) => { x with waitLimit := max 2 (min 255 v) }
       | (.raiseLevel, v) => { x with raiseLevel := max 1 (min 255 v) }) x
     let cut := ∃ v, ((.guard, v) ∈ fs ∧ 15 < v) ∨ ((.waitLimit, v) ∈ fs ∧ (v < 2 ∨ 255 < v)) ∨
       ((.raiseLevel, v) ∈ fs ∧ (v < 1 ∨ 255 < v))
     (2 ≤ port ∨ bad → got = .next (answered f ⟨11, .refused, some .badValue, none, .none⟩ u)) ∧
     ∀ p : Port, portCode p = port → ¬bad →
       let t := u.withPort p { u.port p with settings := stored (s.port p).settings }
       (cut → got = .next (answered f ⟨11, .okClamped, none, none, .none⟩ t)) ∧
       (¬cut → got = .next (answered f ⟨11, .ok, none, none, .none⟩ t)))

/-! The Ageing Engine. -/

/-- Calendar wear (R75): with X = Δt × F + R_cal, W_cal gains X div 256 up to its stop and R_cal becomes X mod 256. So
no fraction is lost over any run of updates: while W_cal is below its stop, 256 × W_cal + R_cal grows by exactly the
sum of Δt × F. The temperature factor (R74): F[9] at 700 alone, otherwise the straight line between the two
neighbouring table points, cut toward the lower index, between them, and at least 1 over a table of factors of at least
1. -/
def Obligations.WearAndTemperatureFactorAreExact : Prop :=
  ((∀ (dt factor : Nat) (a : Ageing), calendarWear a dt factor = { a with
     wCal := min (2 ^ 40 - 1) (a.wCal + (dt * factor + a.rCal) / 256), rCal := (dt * factor + a.rCal) % 256 }) ∧
   ∀ (l : List (Nat × Nat)) (a : Ageing), a.rCal < 256 →
     256 * a.wCal + a.rCal + (l.map (fun x => x.1 * x.2)).sum < 256 * 2 ^ 40 →
     let b := l.foldl (fun a x => calendarWear a x.1 x.2) a
     256 * b.wCal + b.rCal = 256 * a.wCal + a.rCal + (l.map (fun x => x.1 * x.2)).sum ∧ b.rCal < 256 ∧
       b = { a with wCal := b.wCal, rCal := b.rCal }) ∧
  (∀ (fs : Vector Nat 10) (teff : Int), -200 ≤ teff →
     (teff = 700 → temperatureFactor fs teff = fs[9]) ∧
     ∀ (i : Nat) (h : i < 9) (frac : Nat), frac < 100 → teff + 200 = 100 * i + frac →
       (temperatureFactor fs teff : Int) = fs[i] + (((fs[i + 1] : Int) - fs[i]) * frac).tdiv 100 ∧
       min fs[i] fs[i + 1] ≤ temperatureFactor fs teff ∧ temperatureFactor fs teff ≤ max fs[i] fs[i + 1] ∧
       ((∀ k : Fin 10, 1 ≤ fs[k]) → 1 ≤ temperatureFactor fs teff))

/-- Step 1 of an update by the time base: the credited seconds, the new last update ms, and whether it is a gap (R70, R71).
Step 2 (R73): the greatest valid sensor, clamped to −200 to 700, is T_eff and the last T_eff; without a valid sensor T_eff
is the last T_eff, or 200 when that is invalid, and the last T_eff stays. Learning moves a measured block's baseline to its
first measurement, then toward each measurement by at most the trim step (R92); a rise is measured against the learned
baseline and stops at 2000 (R78). The activity step's table (R87): the state, the confirmation count and the current
against D_th decide the move. Through a discharge event the state of charge is that at the event's start less the depth of
the charge so far, or 0 (R88, R89), whatever the products of its updates. What each move does to the record (R87 to R91):
an event begins from a charge of 0 with its test flag, its update's product is added, and the recovery timer stops; an
event that ends is binned by its depth, and the count of its bin alone gains 1 and stops at 65535; FLOAT starts the
recovery timer. A resistance list that reaches learning adds 1 to the learn count, which stops at 15, and makes the
baseline LEARNED at the learning cycles (R92, R93); it leaves every rise and the worst rise at 0 (R78, R79), also those a
String Restore left above 0 (log entry 36). A list of a LEARNED string gives each listed block its rise, and the worst rise is the greatest of the string (R78, R79). -/
def Obligations.UpdateStepsFollowTheirRules : Prop :=
  (∀ (p : AgeingParams) (a : Ageing) (now : Word32),
     let seconds := (now - a.lastMs).toNat / 1000
     (a.base = .fresh → timeStep p a now = ⟨0, now, false⟩) ∧
     (a.base = .broken → timeStep p a now = ⟨p.dtLimit, now, true⟩) ∧
     (a.base = .valid → seconds ≤ p.dtLimit →
       timeStep p a now = ⟨seconds, a.lastMs + BitVec.ofNat 32 (1000 * seconds), false⟩) ∧
     (a.base = .valid → p.dtLimit < seconds → timeStep p a now = ⟨p.dtLimit, now, true⟩)) ∧
  (∀ (last : Option Int) (temps : List Int),
     let valid := fun t : Int => t ∈ temps ∧ t ≠ -32768
     (∀ t, valid t → (∀ x, valid x → x ≤ t) →
       effectiveTemp last temps = (max (-200) (min 700 t), some (max (-200) (min 700 t)))) ∧
     ((∀ t, ¬valid t) → (∀ t, last = some t → effectiveTemp last temps = (t, some t)) ∧
       (last = none → effectiveTemp last temps = (200, none)))) ∧
  (∀ trim base m : Nat,
     (m ≠ 0 → trimBaseline trim 0 m = m) ∧ trimBaseline trim base 0 = base ∧
     (base ≠ 0 → m ≠ 0 →
       (base ≤ m → trimBaseline trim base m = min m (base + trim)) ∧
       (m ≤ base → trimBaseline trim base m = max m (base - trim))) ∧
     riseOf 0 m = 0 ∧ (base ≠ 0 → riseOf base m = min 2000 ((m - base) * 1000 / base))) ∧
  (∀ (p : AgeingParams) (a : Ageing) (i : Int),
     let dTh : Int := p.dTh
     (a.activity = .float → i ≤ dTh → activityMove p a i = .stay 0) ∧
     (a.activity ≠ .discharge → dTh < i → a.confirm = 0 → activityMove p a i = .stay 1) ∧
     (a.activity ≠ .discharge → dTh < i → 1 ≤ a.confirm → activityMove p a i = .beginEvent) ∧
     (a.activity = .discharge → dTh < i → activityMove p a i = .stay 0) ∧
     (a.activity = .discharge → i ≤ dTh → a.confirm = 0 → activityMove p a i = .stay 1) ∧
     (a.activity = .discharge → i ≤ dTh → 1 ≤ a.confirm → activityMove p a i = .endEvent) ∧
     (a.activity = .recharge → i < -dTh → activityMove p a i = .stay 0) ∧
     (a.activity = .recharge → -dTh ≤ i → i ≤ dTh → activityMove p a i = .toFloat)) ∧
  (∀ (capacity : Nat) (products : List Nat) (a : Ageing), 1 ≤ capacity → a.charge = 0 →
     let b := products.foldl (fun a p => addCharge capacity p a) a
     b.charge = min (2 ^ 32 - 1) products.sum ∧ b.soc = a.soc - b.charge * 1000 / (capacity * 36000)) ∧
  (∀ (p : AgeingParams) (capacity : Nat) (test : Bool) (timer : Timer) (i : Int) (product : Nat) (a : Ageing),
     let b := activityStep p capacity test timer i product a
     let depth := fun charge : Nat => charge * 1000 / (capacity * 36000)
     let charged := fun x : Ageing =>
       let c := min (2 ^ 32 - 1) (x.charge + product)
       { x with charge := c, soc := x.soc - (depth c - depth x.charge) }
     let bin := fun (k : Fin 4) (d : Nat) => (k = 0 ∧ d < 100) ∨ (k = 1 ∧ 100 ≤ d ∧ d < 300) ∨
       (k = 2 ∧ 300 ≤ d ∧ d < 600) ∨ (k = 3 ∧ 600 ≤ d)
     (∀ n, activityMove p a i = .stay n → a.activity ≠ .discharge → b = { a with confirm := n }) ∧
     (∀ n, activityMove p a i = .stay n → a.activity = .discharge → b = charged { a with confirm := n }) ∧
     (activityMove p a i = .beginEvent → b = charged
       { a with activity := .discharge, confirm := 0, charge := 0, eventIsTest := test, recovery := none }) ∧
     (activityMove p a i = .endEvent → ∀ k, bin k (min 1000 (depth a.charge)) →
       b = { a with activity := .recharge, confirm := 0, bins := b.bins } ∧
         b.bins[k] = min 65535 (a.bins[k] + 1) ∧ ∀ j, j ≠ k → b.bins[j] = a.bins[j]) ∧
     (activityMove p a i = .toFloat → b = { a with activity := .float, confirm := 0, recovery := some timer })) ∧
  ∀ (p : AgeingParams) (rs : List (Nat × Nat)) (a : Ageing),
    let named := fun j : Nat => rs.find? (fun x => x.1 == j + 1)
    let b := learn p rs a
    let c := takeRises rs a
    (b = { a with
        baseline := b.baseline, learnCount := min 15 (a.learnCount + 1),
        baselineState := if p.learningCycles ≤ min 15 (a.learnCount + 1) then .learned else .learning,
        rises := List.replicate a.rises.length 0, worstRise := 0 } ∧
      b.baseline.length = a.baseline.length ∧
      ∀ j x, a.baseline[j]? = some x →
        (named j = none → b.baseline[j]? = some x) ∧
        ∀ m, named j = some m → b.baseline[j]? = some (trimBaseline p.trimStep x m.2)) ∧
    (c = { a with rises := c.rises, worstRise := c.worstRise } ∧ c.rises.length = a.rises.length ∧
      (∀ j x y, a.rises[j]? = some x → a.baseline[j]? = some y →
        (named j = none → c.rises[j]? = some x) ∧ ∀ m, named j = some m → c.rises[j]? = some (riseOf y m.2)) ∧
      (∀ x ∈ c.rises, x ≤ c.worstRise) ∧ (c.rises ≠ [] → c.worstRise ∈ c.rises))

/-- The fractions, L, limiting factor, grade and reserve of a record (R80 to R84), and their bounds: L is at most 1000
and the reserve at most 1000 − L for a SoC of at most 1000. -/
def Obligations.LifeGradeAndReserveFollowTheFractions : Prop :=
  ∀ (p : AgeingParams) (a : Ageing),
    let b := withLife p a
    let s := a.bins[0] * p.weights[0] + a.bins[1] * p.weights[1] + a.bins[2] * p.weights[2] + a.bins[3] * p.weights[3]
    b.cFrac = min 1000 (a.wCal * 1000 / (p.designLife * 86400)) ∧ b.yFrac = min 1000 (s / 1000) ∧
    b.rFrac = min 1000 (a.worstRise * 1000 / p.rEol) ∧
    (b.cFrac ≤ b.life ∧ b.yFrac ≤ b.life ∧ b.rFrac ≤ b.life) ∧ b.life ≤ 1000 ∧
    (b.limiting = .calendar ↔ b.life = b.cFrac) ∧ (b.limiting = .cycles ↔ b.life = b.yFrac ∧ b.life ≠ b.cFrac) ∧
    (b.limiting = .resistance ↔ b.life = b.rFrac ∧ b.life ≠ b.cFrac ∧ b.life ≠ b.yFrac) ∧
    (p.t1 < p.t2 → p.t2 < p.t3 →
      (b.grade = .good ↔ b.life < p.t1) ∧ (b.grade = .fair ↔ p.t1 ≤ b.life ∧ b.life < p.t2) ∧
      (b.grade = .poor ↔ p.t2 ≤ b.life ∧ b.life < p.t3) ∧ (b.grade = .replace ↔ p.t3 ≤ b.life)) ∧
    b.reserve = (1000 - b.life) * a.soc / 1000 ∧ (a.soc ≤ 1000 → b.reserve ≤ 1000 - b.life)

/-- An ageing update (R67, R68): the oldest hand-over is taken (log entry 5), swap detection is taken on its serial first,
and a string that is FROZEN then takes no step. Otherwise the steps run under the ACTIVE copy as it stands on the record
that swap detection leaves, and only that string's record and alarms change; AGEING_GAP is raised with the gap count by a
gap update and cleared by another (R70 to R72), and step 7 works the life figures out afresh with the acts of R83 to R85.
That the recovery timer starts at the present floor milliseconds is log entry 27. -/
def Obligations.AgeingUpdateRunsItsSteps : Prop :=
  ∀ (h : AgeingHand) (rest : List AgeingHand) (r : StrRec) (s : State), s.bridge = .opened →
    s.hand.ageing = h :: rest →
    let u := swapDetection h.string h.serial { s with hand := { s.hand with ageing := rest } }
    str? u h.string = some r →
    (r.ageing.frozen = true → exec .ageingUpdate s = .next u) ∧
    ∀ n, r.ageing.frozen = false → strNode? s h.string = some n →
      let p := s.params.active
      let step := timeStep p r.ageing h.now
      let teff := effectiveTemp r.ageing.lastTeff h.temps
      let product := h.current.toNat * step.dt
      let a1 : Ageing := { r.ageing with
        base := .valid, lastMs := step.last, lastTeff := teff.2,
        gaps := if step.gap then min 65535 (r.ageing.gaps + 1) else r.ageing.gaps }
      let a2 := calendarWear a1 step.dt (temperatureFactor p.factors teff.1)
      let a3 := activityStep p n.capacity ((cab? s n.owner).any (·.testFlag)) ⟨s.clock.ms, p.recoveryTime * 60000⟩
        h.current product a2
      let a4 : Ageing :=
        if a3.activity = .discharge then { a3 with qThr := min (2 ^ 40 - 1) (a3.qThr + product) } else a3
      let a5 := if h.resistances = [] then a4
        else if a4.baselineState = .learning then learn p h.resistances a4 else takeRises h.resistances a4
      let aged : State := { u with strs := u.strs.setIfInBounds h.string (some { r with ageing := a5 }) }
      let judged := if step.gap then
          raise codeAgeingGap (.string h.string) (some (BitVec.ofNat 32 a1.gaps)) aged
        else clear codeAgeingGap (.string h.string) aged
      ∃ t, exec .ageingUpdate s = .next t ∧
        str? t h.string = some { r with ageing := withLife p a5 } ∧ (∀ i, i ≠ h.string → str? t i = str? s i) ∧
        t.hand = { s.hand with ageing := rest } ∧ t.alarm = (recompute p h.string judged).alarm ∧
        Only [.hand, .strs, .alarm] s t

/-- When a string's recovery timer expires, SoC becomes 1000, the timer stops, and life, grade and reserve are
recomputed on that record, with the acts of R83 where the grade changes; when the grade stays, RESERVE_LOW of the owner is
judged and nothing else is said (R83 to R85, R91). A
recomputation that changes a string's grade clears the old grade's alarm, raises the new grade's with L as detail, and
queues STRING_GRADE; then it judges RESERVE_LOW for the owner (R83, R85). -/
def Obligations.RecoveryExpiryAndGradeChange : Prop :=
  (∀ (i : Nat) (r : StrRec) (n : StrNode) (w : Timer) (s : State), s.bridge = .opened → str? s i = some r →
     strNode? s i = some n → r.ageing.recovery = some w → w.len ≤ (s.clock.ms - w.start).toNat →
     let a := withLife s.params.active { r.ageing with soc := 1000, recovery := none }
     ∃ t, exec (.recoveryTimerExpiry i) s = .next t ∧ str? t i = some { r with ageing := a } ∧
       (∀ j, j ≠ i → str? t j = str? s j) ∧ Only [.strs, .alarm] s t ∧
       t.alarm = (recompute s.params.active i { s with strs := s.strs.setIfInBounds i (some { r with
         ageing := { r.ageing with soc := 1000, recovery := none } }) }).alarm ∧
       (a.grade = r.ageing.grade →
         let reserve := cabReserve t n.owner
         let low := reserve < (groupParams s ((groupOf? s n.owner).getD 0)).reserveThreshold
         t.alarm = (if low then raise codeReserveLow (.cabinet n.owner) (some (BitVec.ofNat 32 reserve)) s
           else clear codeReserveLow (.cabinet n.owner) s).alarm)) ∧
  (∀ (p : AgeingParams) (i : Nat) (r : StrRec) (n : StrNode) (s : State), str? s i = some r → strNode? s i = some n →
     let a := withLife p r.ageing
     let t := recompute p i s
     let codeOf : Grade → Option Nat
       | .good => none
       | .fair => some 14
       | .poor => some 15
       | .replace => some 16
     let cleared := match codeOf r.ageing.grade with
       | some c => clear c (.string i) s
       | none => s
     let raised := match codeOf a.grade with
       | some c => raise c (.string i) (some (BitVec.ofNat 32 a.life)) cleared
       | none => cleared
     let told := queueNotice .stringGrade (byteOf i :: byteOf r.ageing.grade.toCode :: byteOf a.grade.toCode ::
       (bytes16 a.life ++ [byteOf a.limiting.toCode])) raised
     let reserve := cabReserve t n.owner
     let judged := fun x : State =>
       if reserve < (groupParams s ((groupOf? s n.owner).getD 0)).reserveThreshold then
         raise codeReserveLow (.cabinet n.owner) (some (BitVec.ofNat 32 reserve)) x
       else clear codeReserveLow (.cabinet n.owner) x
     str? t i = some { r with ageing := a } ∧ Only [.strs, .alarm] s t ∧
     t.alarm = (judged (if a.grade = r.ageing.grade then s else told)).alarm)

/-- Swap detection on a report's serial (R94 to R97): 0 and the recorded serial say nothing, the first serial is recorded;
another replaces the string in the scope of an ACTIVE visit, and elsewhere freezes it and raises STRING_SWAP_UNSCOPED
before its notice. While the string is FROZEN, 0 and the pending serial say nothing, and another becomes the pending serial
with a further raise and notice. A replacement gives the record a fresh history under the new serial, queues
STRING_REPLACED, and recomputes life with the acts of R83 to R85. Accept Replacement on a FROZEN string (R98, R99): NEW is a
replacement under the pending serial; SAME keeps the history under it with a BROKEN time base; both then clear
STRING_SWAP_UNSCOPED. While SUPERVISING both are refused, changing nothing, with BAD_VALUE for an index of 32 or more or a
choice that is neither NEW nor SAME, with NOT_FOUND without a record and with STATE for a string that is not FROZEN (R98,
R99). That the number of last update ms stays is log entry 35; that the choice SAME is a command of its own is log entry
25. -/
def Obligations.SwapsFreezeUntilAccepted : Prop :=
  let fresh := fun a : Ageing =>
    let blocks := a.baseline.length
    { a with
      wCal := 0, rCal := 0, qThr := 0, bins := #v[0, 0, 0, 0], activity := .float, confirm := 0, charge := 0,
      eventIsTest := false, soc := 1000, recovery := none, baseline := List.replicate blocks 0,
      baselineState := .learning, learnCount := 0, rises := List.replicate blocks 0, worstRise := 0, gaps := 0,
      base := .fresh, lastTeff := none, unrestored := false, frozen := false, pendingSerial := none }
  let replaced := fun (i : Nat) (r : StrRec) (serial : Word32) (s t : State) =>
    str? t i = some { r with serial := serial, ageing := withLife s.params.active (fresh r.ageing) } ∧
    (∀ j, j ≠ i → str? t j = str? s j) ∧ Only [.strs, .alarm] s t ∧
    t.alarm = (recompute s.params.active i (queueNotice .stringReplaced (byteOf i :: bytes32 serial)
      { s with strs := s.strs.setIfInBounds i (some { r with serial := serial, ageing := fresh r.ageing }) })).alarm
  (∀ (i : Nat) (serial : Word32) (r : StrRec) (s : State), str? s i = some r →
     let inVisit := ∃ k v, visitEntry? s k = some v ∧ v.state = .active ∧ i ∈ v.strings
     let swap := serial ≠ 0 ∧ r.serial ≠ 0 ∧ serial ≠ r.serial
     let told := fun a : Ageing => queueNotice .stringSwapPending (byteOf i :: (bytes32 r.serial ++ bytes32 serial))
       (raise codeStringSwapUnscoped (.string i) (some serial)
         { s with strs := s.strs.setIfInBounds i (some { r with ageing := a }) })
     (r.ageing.frozen = false →
       (serial = 0 ∨ (r.serial ≠ 0 ∧ serial = r.serial) → swapDetection i serial s = s) ∧
       (serial ≠ 0 → r.serial = 0 → swapDetection i serial s =
         { s with strs := s.strs.setIfInBounds i (some { r with serial := serial }) }) ∧
       (swap → ¬inVisit → swapDetection i serial s =
         told { r.ageing with frozen := true, pendingSerial := some serial }) ∧
       (swap → inVisit → replaced i r serial s (swapDetection i serial s))) ∧
     (r.ageing.frozen = true →
       (serial = 0 ∨ r.ageing.pendingSerial = some serial → swapDetection i serial s = s) ∧
       (serial ≠ 0 → r.ageing.pendingSerial ≠ some serial → swapDetection i serial s =
         told { r.ageing with pendingSerial := some serial }))) ∧
  (∀ (i : Nat) (r : StrRec) (pending : Word32) (f : Frame) (s : State), Takes 20 (plainForm 20) f s →
     s.resp.mode = .supervising → i < 32 → str? s i = some r → r.ageing.frozen = true →
     r.ageing.pendingSerial = some pending →
     let u := dropHead .s s
     exec (.acceptReplacementSame i) s = .next (answered f ⟨20, .ok, none, none, .none⟩
       (clear codeStringSwapUnscoped (.string i) { u with strs := s.strs.setIfInBounds i (some { r with
         serial := pending
         ageing := { r.ageing with frozen := false, pendingSerial := none, base := .broken } }) })) ∧
     ∃ t, exec (.acceptReplacementNew i 1) s = .next (answered f ⟨20, .ok, none, none, .none⟩
         (clear codeStringSwapUnscoped (.string i) t)) ∧ replaced i r pending u t) ∧
  ∀ (i choice : Nat) (f : Frame) (s : State), Takes 20 (plainForm 20) f s → s.resp.mode = .supervising →
    let refused := fun (c : Cause) (x : Instr) => exec x s =
      .next (answered f ⟨20, .refused, some c, none, .none⟩ (dropHead .s s))
    (choice ≠ 1 → choice ≠ 2 → refused .badValue (.acceptReplacementNew i choice)) ∧
    (32 ≤ i → refused .badValue (.acceptReplacementNew i 1) ∧ refused .badValue (.acceptReplacementSame i)) ∧
    (i < 32 → str? s i = none →
      refused .notFound (.acceptReplacementNew i 1) ∧ refused .notFound (.acceptReplacementSame i)) ∧
    ∀ r, str? s i = some r → r.ageing.frozen = false →
      refused .state (.acceptReplacementNew i 1) ∧ refused .state (.acceptReplacementSame i)

/-- Stage Ageing Parameters writes the STAGED copy alone: no field, an index or a trim step outside its set, or
thresholds not in ascending order refuse it; otherwise the carried fields are stored, each clamped to its range, one after
the other (R63, R64; log entry 24). -/
def Obligations.StageWritesTheStagedCopy : Prop :=
  (∀ (fs : List AgeingField) (f : Frame) (s : State), Takes 12 (stageForm fs) f s →
     let u := dropHead .s s
     let stored := storeAgeingFields s.params.staged fs
     let bad := fs = [] ∨ (∃ i v, .factor i v ∈ fs ∧ 10 ≤ i) ∨ (∃ i v, .weight i v ∈ fs ∧ 4 ≤ i) ∨
       (∃ v, .trimStep v ∈ fs ∧ v ≠ 10 ∧ v ≠ 20 ∧ v ≠ 40 ∧ v ≠ 80) ∨
       ¬(stored.1.t1 < stored.1.t2 ∧ stored.1.t2 < stored.1.t3)
     (bad → exec (.stageAgeingParameters fs) s =
       .next (answered f ⟨12, .refused, some .badValue, none, .none⟩ u)) ∧
     (¬bad → exec (.stageAgeingParameters fs) s =
       .next (answered f ⟨12, if stored.2 then .okClamped else .ok, none, none, .none⟩
         { u with params := { s.params with staged := stored.1 } }))) ∧
  ∀ (p : AgeingParams) (fs : List AgeingField),
    storeAgeingFields p [] = (p, false) ∧
    (∀ x, storeAgeingFields p (fs ++ [x]) =
      ((storeAgeingField (storeAgeingFields p fs).1 x).1,
        (storeAgeingFields p fs).2 || (storeAgeingField (storeAgeingFields p fs).1 x).2)) ∧
    (∀ i v, storeAgeingField p (.factor i v) =
      ({ p with factors := p.factors.setIfInBounds i (min 8192 v) }, decide (8192 < v))) ∧
    (∀ i v, storeAgeingField p (.weight i v) =
      ({ p with weights := p.weights.setIfInBounds i (min 65535 v) }, decide (65535 < v))) ∧
    (∀ vs, storeAgeingField p (.factorTable vs) =
      ({ p with factors := vs.map (min 8192) }, decide (∃ i : Fin 10, 8192 < vs[i]))) ∧
    (∀ vs, storeAgeingField p (.weightTable vs) =
      ({ p with weights := vs.map (min 65535) }, decide (∃ i : Fin 4, 65535 < vs[i]))) ∧
    ∀ v : Nat,
      storeAgeingField p (.rEol v) = ({ p with rEol := max 50 (min 2000 v) }, decide (v < 50 ∨ 2000 < v)) ∧
      storeAgeingField p (.designLife v) = ({ p with designLife := max 365 (min 7300 v) }, decide (v < 365 ∨ 7300 < v)) ∧
      storeAgeingField p (.dischargeThreshold v) = ({ p with dTh := max 1 (min 1000 v) }, decide (v < 1 ∨ 1000 < v)) ∧
      storeAgeingField p (.dtLimit v) = ({ p with dtLimit := max 10 (min 3600 v) }, decide (v < 10 ∨ 3600 < v)) ∧
      storeAgeingField p (.learningCycles v) = ({ p with learningCycles := max 1 (min 15 v) }, decide (v < 1 ∨ 15 < v)) ∧
      storeAgeingField p (.recoveryTime v) = ({ p with recoveryTime := max 10 (min 1440 v) }, decide (v < 10 ∨ 1440 < v)) ∧
      storeAgeingField p (.trimStep v) = ({ p with trimStep := v }, false) ∧
      storeAgeingField p (.t1 v) = ({ p with t1 := min 1000 v }, decide (1000 < v)) ∧
      storeAgeingField p (.t2 v) = ({ p with t2 := min 1000 v }, decide (1000 < v)) ∧
      storeAgeingField p (.t3 v) = ({ p with t3 := min 1000 v }, decide (1000 < v))

/-- Commit Ageing Parameters: the lowest zero factor of STAGED refuses it with its index, otherwise every field of
STAGED is copied into ACTIVE; no record of a string is recomputed. Read Ageing Parameters answers with the named copy
and whether the two copies are equal, and changes nothing else. -/
def Obligations.CommitAndReadTheParameterCopies : Prop :=
  (∀ (f : Frame) (s : State), Takes 13 (.exactly []) f s →
     let u := dropHead .s s
     (∀ i : Fin 10, s.params.staged.factors[i] = 0 → (∀ j : Fin 10, j < i → s.params.staged.factors[j] ≠ 0) →
       exec .commitAgeingParameters s = .next (answered f ⟨13, .refused, some .badValue, some i, .none⟩ u)) ∧
     ((∀ i : Fin 10, s.params.staged.factors[i] ≠ 0) →
       exec .commitAgeingParameters s = .next (answered f ⟨13, .ok, none, none, .none⟩
         { u with params := ⟨s.params.staged, s.params.staged⟩ }))) ∧
  (∀ (copy : Nat) (f : Frame) (s : State), Takes 14 (.exactly [copy]) f s →
     let u := dropHead .s s
     let equal := decide (s.params.active = s.params.staged)
     exec (.readAgeingParameters copy) s = .next (answered f (
       if copy = 1 then ⟨14, .ok, none, none, .params s.params.active equal⟩
       else if copy = 2 then ⟨14, .ok, none, none, .params s.params.staged equal⟩
       else ⟨14, .refused, some .badValue, none, .none⟩) u))

/-- String Restore adds the carried history to the record of an UNRESTORED string that is not FROZEN, in the order of R103,
clears UNRESTORED, and recomputes life with the acts of R83 to R85; the carried values above their ranges are cut (R102,
R103). An index or a baseline state outside its range, a string that is not configured, a baseline list of another length,
a FROZEN string and one that is not UNRESTORED refuse it in this order (R102). That a carried bin count above 65535 is no
cut value, so that the reply is then OK, is the model's choice (log entry 37), and so are the notice of its RESERVE_LOW
judgement (log entry 44) and the resistance fraction worked out afresh with the other two (log entry 42). -/
def Obligations.StringRestoreAddsTheHistory : Prop :=
  ∀ (i : Nat) (h : RestoreReq) (f : Frame) (s : State), Takes 19 (restoreForm h) f s → s.resp.mode = .supervising →
    let u := dropHead .s s
    let got := exec (.stringRestore i h) s
    let refused := fun c : Cause =>
      Host.Outcome.next (ρ := Refusal) (φ := Fault) (answered f ⟨19, .refused, some c, none, .none⟩ u)
    (32 ≤ i ∨ BaselineState.ofCode h.baselineState = none → got = refused .badValue) ∧
    (i < 32 → BaselineState.ofCode h.baselineState ≠ none → str? s i = none → got = refused .notFound) ∧
    ∀ (r : StrRec) (n : StrNode) (st : BaselineState), str? s i = some r → strNode? s i = some n →
      BaselineState.ofCode h.baselineState = some st →
      (h.baseline.length ≠ n.blocks → got = refused .badValue) ∧
      (h.baseline.length = n.blocks →
        let top := 2 ^ 40 - 1
        let rem := r.ageing.rCal + min 255 h.rCal
        let a : Ageing := { r.ageing with
          wCal := min top (r.ageing.wCal + min top h.wCal + rem / 256), rCal := rem % 256,
          qThr := min top (r.ageing.qThr + min top h.qThr),
          bins := Vector.zipWith (fun x y => min 65535 (x + y)) r.ageing.bins h.bins,
          baseline := h.baseline, baselineState := st, learnCount := min 15 h.learnCount,
          base := if r.ageing.base = .fresh then .broken else r.ageing.base, unrestored := false }
        let cut := top < h.wCal ∨ 255 < h.rCal ∨ top < h.qThr ∨ 15 < h.learnCount
        (r.ageing.frozen = true ∨ r.ageing.unrestored = false → got = refused .state) ∧
        (r.ageing.frozen = false → r.ageing.unrestored = true →
          ∃ t, got = .next (answered f ⟨19, if cut then .okClamped else .ok, none, none, .none⟩ t) ∧
            str? t i = some { r with ageing := withLife s.params.active a } ∧ (∀ j, j ≠ i → str? t j = str? s j) ∧
            t.alarm = (recompute s.params.active i
              { s with strs := s.strs.setIfInBounds i (some { r with ageing := a }) }).alarm ∧
            Only [.strs, .alarm] u t))

/-! The Order Gate and the Order Tracker. -/

/-- The judgement of a site order that repeats no standing entry, step by step (R107, R109, R111, R113): each is either
forwarded or answered by one supervisor REPLY, and one forwarded as INTERLOCKED is tracked. The interlock checks of an
INTERLOCKED order in their order, the first that fails giving the cause (R113 to R115). -/
def Obligations.SiteOrderIsForwardedOrAnswered : Prop :=
  (∀ (f : Frame) (s : State), OrderAtHead f s →
     let got := exec .siteOrderJudgement s
     let refused := fun c => Host.Outcome.next (ρ := Refusal) (φ := Fault) (gateAnswered f 5 c s)
     let dest := f.dest.toNat
     (parseOrder f.payload = none → got = refused 1) ∧
     ∀ k v, parseOrder f.payload = some (k, v) →
       let cls := s.gate[k.index]
       let sent := if k = .setShare ∧ 1000 < v then
           wireFrame f.dest f.src .order f.seq [9, 3, 232] else f
       (dest = 255 →
         (cls ≠ .forward → got = refused 2) ∧
         (cls = .forward → k.returnsToService = true → anyVisit s = true → got = refused 6) ∧
         (cls = .forward → (k.returnsToService = false ∨ anyVisit s = false) → got = .next (gateForwarded sent s))) ∧
       (dest ≠ 255 → cabAt? s dest = none → got = refused 3) ∧
       ∀ c r, dest ≠ 255 → cabAt? s dest = some c → cab? s c = some r → order? s ⟨.site, dest, f.seq⟩ = none →
         let guarded := k.returnsToService = true ∧
           (cabCovered s c = true ∨ (k = .maintOpen ∧ ∃ m ∈ members s r.group, cabCovered s m = true))
         let entry : OrderEntry := ⟨.site, dest, f.seq, k, if k = .setShare then some (min v 1000) else none, s.clock.ms, 1,
           .waiting, none, some (.reply, ⟨s.clock.ms, (groupParams s r.group).replyWindow⟩)⟩
         (cls = .supervisorOnly → got = refused 5) ∧
         (cls ≠ .supervisorOnly → guarded → got = refused 6) ∧
         (cls = .forward → ¬guarded → got = .next (gateForwarded sent s)) ∧
         (cls = .interlocked → ¬guarded → ∀ cause, interlockCause s k v c r = some cause →
           got = .next (gateAnswered f 4 cause.toCode s)) ∧
         (cls = .interlocked → ¬guarded → interlockCause s k v c r = none →
           got = .next { gateForwarded sent s with tracker := { s.tracker with orders := s.tracker.orders ++ [entry] } })) ∧
  (∀ (s : State) (k : OrderKind) (v c : Nat) (r : CabRec),
     let got := interlockCause s k v c r
     let busy := (plan? s r.group).isSome = true
     let silent := ∃ m ∈ memberRecs s r.group, m.2.liveness = .silent
     let lowers := k = .setShare ∧ min v 1000 < r.share ∧ ¬carries s r.group c (min v 1000)
     let test := k = .batteryTestStart
     let tested := ∃ m ∈ memberRecs s r.group, (m.1 ≠ c ∧ m.2.reported = some .onBattery) ∨ m.2.testFlag = true
     let low := cabReserve s c < (groupParams s r.group).reserveThreshold
     let wrongMode := (k = .outputClose ∧ r.reported ≠ some .standby) ∨ (test ∧ r.reported ≠ some .online)
     (busy → got = some .planBusy) ∧
     (¬busy → silent → got = some .silent) ∧
     (¬busy → ¬silent → lowers → got = some .capacity) ∧
     (¬busy → ¬silent → ¬lowers → wrongMode → got = some .state) ∧
     (¬busy → ¬silent → ¬wrongMode → test → tested → got = some .busy) ∧
     (¬busy → ¬silent → ¬wrongMode → test → ¬tested → r.bypass ≠ .good → got = some .bypass) ∧
     (¬busy → ¬silent → ¬wrongMode → test → ¬tested → r.bypass = .good → low → got = some .reserve) ∧
     (¬busy → ¬silent → ¬lowers → ¬wrongMode → (test → ¬tested ∧ r.bypass = .good ∧ ¬low) →
       got = if 12 ≤ siteOrders s then some .trackingFull else none))

/-- A site repeat of a standing entry (R110): it is refused for another kind or value and under the visit guard, held
after four sends, and otherwise forwarded with its sends counted; a WAITING entry takes the present ms and a fresh
window. -/
def Obligations.SiteRepeatsAreLimitedToFourSends : Prop :=
  ∀ (f : Frame) (k : OrderKind) (v c : Nat) (r : CabRec) (e : OrderEntry) (s : State), OrderAtHead f s →
    parseOrder f.payload = some (k, v) → f.dest.toNat ≠ 255 → cabAt? s f.dest.toNat = some c → cab? s c = some r →
    order? s ⟨.site, f.dest.toNat, f.seq⟩ = some e →
    let got := exec .siteOrderJudgement s
    let sent := if k = .setShare ∧ 1000 < v then wireFrame f.dest f.src .order f.seq [9, 3, 232] else f
    let other := e.kind ≠ k ∨ (k = .setShare ∧ e.value ≠ some (min v 1000))
    let guarded := k.returnsToService = true ∧
      (cabCovered s c = true ∨ (k = .maintOpen ∧ ∃ m ∈ members s r.group, cabCovered s m = true))
    (other → got = .next (gateAnswered f 5 4 s)) ∧
    (¬other → guarded → got = .next (gateAnswered f 5 6 s)) ∧
    (¬other → ¬guarded → e.sends = 4 → got = .next (gateAnswered f 4 7 s)) ∧
    (¬other → ¬guarded → e.sends ≠ 4 → ∃ t, got = .next t ∧
      order? t ⟨.site, f.dest.toNat, f.seq⟩ = some (if e.state = .waiting then { e with
          sends := e.sends + 1, sentMs := s.clock.ms,
          window := some (.reply, ⟨s.clock.ms, (groupParams s r.group).replyWindow⟩) }
        else { e with sends := e.sends + 1 }) ∧
      (∀ key, key ≠ ⟨.site, f.dest.toNat, f.seq⟩ → order? t key = order? s key) ∧
      t.portS = { s.portS with inq := s.portS.inq.tail } ∧ t.portF = { s.portF with fwd := s.portF.fwd ++ [sent] } ∧
      Only [.portS, .portF, .tracker] s t)

/-- A cabinet's reply to the site (R118, R119): it is passed up unchanged; ACCEPTED turns a WAITING entry ACCEPTED with
its completion window, DONE removes the entry and updates the record, REJECTED removes it, and with no entry nothing
else happens. A reply to another address than the site's and the supervisor's is passed up unchanged and matched to no
entry. What a DONE writes in the Cabinet Table by the order's kind (R11, R12): the expected mode of the target,
of the members for the two maintenance bypass orders, the commanded share, or the test flag; every other field stays.
That a maintenance bypass order to another member than the lead walks the group and includes the lead is log entry 34. -/
def Obligations.RepliesToTheSiteActOnTheirEntry : Prop :=
  (∀ (f : Frame) (s : State), ReplyAtHead f s → f.dest.toNat = 0 →
     let key : OrderKey := ⟨.site, f.src.toNat, f.seq⟩
     let got := exec .replyMatch s
     let rest := s.tracker.orders.filter (fun x => !(x.key == key))
     let removed : State := { s with tracker := { s.tracker with orders := rest } }
     (parseReply f.payload = none ∨ order? s key = none → got = .next (passedUp f s s)) ∧
     ∀ k reason e, parseReply f.payload = some (k, reason) → order? s key = some e → e.state ≠ .lapsed →
       (k = .rejected → got = .next (passedUp f s removed)) ∧
       (k = .done → ∀ c r, cabAt? s e.target = some c → cab? s c = some r →
         got = .next (passedUp f s { removed with cabs := (doneUpdate e.kind e.value c r s).cabs })) ∧
       (k = .accepted → e.state = .accepted → got = .next (passedUp f s s)) ∧
       (k = .accepted → e.state = .waiting → ∃ t, got = .next t ∧
         order? t key = some { e with
           state := .accepted
           window := some (.completion, ⟨s.clock.ms, (groupParams s (groupOfAddr s e.target)).completionWindow⟩) } ∧
         (∀ key', key' ≠ key → order? t key' = order? s key') ∧
         t.portF = { s.portF with inq := s.portF.inq.tail } ∧ t.portS = { s.portS with fwd := s.portS.fwd ++ [f] } ∧
         Only [.portF, .portS, .tracker] s t)) ∧
  (∀ (f : Frame) (s : State), ReplyAtHead f s → f.dest.toNat ≠ 0 → f.dest.toNat ≠ 240 →
     exec .replyMatch s = .next (passedUp f s s)) ∧
  (∀ (v : Option Nat) (c : Nat) (r : CabRec) (s : State), cab? s c = some r →
     let leadBypassed := ∃ m, lead? s r.group = some m ∧ m.2.reported = some .maintBypass
     let sets := fun (k : OrderKind) (x : CabRec) =>
       doneUpdate k v c r s = { s with cabs := s.cabs.setIfInBounds c (some x) }
     sets .deisolate { r with expected := some .standby } ∧
     sets .isolate { r with expected := some .isolated } ∧
     (leadBypassed → sets .outputClose { r with expected := some .maintBypass }) ∧
     (¬leadBypassed → sets .outputClose { r with expected := some .online }) ∧
     sets .outputOpen { r with expected := some .standby } ∧
     sets .goBypass { r with expected := some .staticBypass } ∧
     sets .goInverter { r with expected := some .online } ∧
     sets .setShare { r with share := v.getD 0 } ∧
     sets .batteryTestStart { r with testFlag := true } ∧
     sets .batteryTestStop { r with testFlag := false } ∧
     doneUpdate .alarmSilence v c r s = s ∧ doneUpdate .readDetail v c r s = s ∧
     (∀ j x, cab? s j = some x → cab? (doneUpdate .maintClose v c r s) j = some (
       if x.group = r.group ∧ (x.lead = true ∨ x.reported = some .staticBypass ∨ x.reported = some .maintBypass) then
         { x with expected := some .maintBypass } else x)) ∧
     (∀ j x, cab? s j = some x → cab? (doneUpdate .maintOpen v c r s) j = some (
       if x.group = r.group ∧ (x.lead = true ∨ x.reported = some .maintBypass) then
         { x with expected := some .staticBypass } else x)) ∧
     Only [.cabs] s (doneUpdate .maintClose v c r s) ∧ Only [.cabs] s (doneUpdate .maintOpen v c r s))

/-- A reply addressed to the supervisor is consumed (R118 to R121, R134, R135, R137). With no plan-origin entry it is
counted. ACCEPTED turns a WAITING entry ACCEPTED with its completion window, and the plan stays. DONE of an ISSUED plan's
current order removes the entry and updates the record; the plan settles, or is CHECKING at once when the settle is 0; in
a ramp stage the limit takes the order's value, the match window starts afresh, and the ramp step is judged. REJECTED
removes the entry and halts the plan with the reason. On a LAPSED entry ACCEPTED and REJECTED change nothing, and a late
DONE updates the record and sets the two late-DONE marks of a HALTED plan, the entry staying. -/
def Obligations.RepliesToThePlanMoveIt : Prop :=
  ∀ (f : Frame) (s : State), ReplyAtHead f s → f.dest.toNat = 240 →
    let key : OrderKey := ⟨.plan, f.src.toNat, f.seq⟩
    let got := exec .replyMatch s
    let taken : State := { s with portF := { s.portF with inq := s.portF.inq.tail } }
    let rest := s.tracker.orders.filter (fun x => !(x.key == key))
    let removed : State := { taken with tracker := { s.tracker with orders := rest } }
    (parseReply f.payload = none ∨ order? s key = none →
      got = .next { taken with tracker := { s.tracker with unmatched := min 65535 (s.tracker.unmatched + 1) } }) ∧
    ∀ k reason e, parseReply f.payload = some (k, reason) → order? s key = some e →
      (e.state = .lapsed → k ≠ .done → got = .next taken) ∧
      (k = .accepted → e.state = .accepted → got = .next taken) ∧
      (k = .accepted → e.state = .waiting → ∃ t, got = .next t ∧
        order? t key = some { e with
          state := .accepted
          window := some (.completion, ⟨s.clock.ms, (groupParams s (groupOfAddr s e.target)).completionWindow⟩) } ∧
        (∀ key', key' ≠ key → order? t key' = order? s key') ∧ t.portF = taken.portF ∧ Only [.portF, .tracker] s t) ∧
      ∀ g p, e.slot = some g → plan? s g = some p →
        (k = .rejected → e.state ≠ .lapsed → p.state = .issued →
          ∃ t, got = .next t ∧ Halts g p .rejected (some reason) removed t) ∧
        ∀ c r, k = .done → cabAt? s e.target = some c → cab? s c = some r →
          let updated := fun (x : State) (q : Plan) => ({ x with
            cabs := (doneUpdate e.kind e.value c r s).cabs
            seq := { s.seq with plans := s.seq.plans.setIfInBounds g (some q) } } : State)
          let inRamp := p.stage = some .rampDown ∨ p.stage = some .rampUp
          (e.state = .lapsed → p.state = .halted →
            got = .next (updated taken { p with lateSinceHalt := true, lateFlag := true })) ∧
          (e.state ≠ .lapsed → p.state = .issued → ¬inRamp → got = .next (updated removed
            (if p.settle = 0 then { p with state := .checking, stepDone := true }
            else { p with state := .settling, stepDone := true, settleTimer := some ⟨s.clock.ms, p.settle⟩ }))) ∧
          ∀ ra, e.state ≠ .lapsed → p.state = .issued → inRamp → p.ramp = some ra →
            got = .next (judgeRamp g (updated removed { p with
              state := .ramping
              ramp := some { ra with
                limit := (p.order.bind (·.value)).getD 0
                window := some ⟨s.clock.ms, (groupParams s g).matchWindow⟩ } }))

/-- The expiry of a site order's window, of either kind, removes its entry and counts a site expiry (R117). The expiry
of a plan's window (R117, R134): a reply window of an order sent fewer than four times re-sends it under the same
sequence, otherwise the plan halts with NO_REPLY; a completion window halts it with NO_COMPLETION; the detail is the
cabinet's index. A frame that still waits to be sent keeps its place (log entry 19). -/
def Obligations.WindowExpiryRemovesResendsOrHalts : Prop :=
  (∀ (key : OrderKey) (e : OrderEntry) (w : Timer) (s : State), s.bridge = .opened → order? s key = some e →
     key.origin = .site → RunOut w s →
     let rest := s.tracker.orders.filter (fun x => !(x.key == key))
     let gone : State := { s with tracker := ⟨rest, min 65535 (s.tracker.siteExpiries + 1), s.tracker.unmatched⟩ }
     (e.window = some (.reply, w) → exec (.replyWindowExpiry key) s = .next gone) ∧
     (e.window = some (.completion, w) → exec (.completionWindowExpiry key) s = .next gone)) ∧
  (∀ (g : Nat) (p : Plan) (o : PlanOrder) (e : OrderEntry) (c : Nat) (w : Timer) (s : State), s.bridge = .opened →
     plan? s g = some p → p.state = .issued → p.order = some o →
     let key : OrderKey := ⟨.plan, o.target, o.seq⟩
     order? s key = some e → e.slot = some g → cabAt? s o.target = some c → RunOut w s →
     (e.window = some (.reply, w) → p.sends < 4 → ∃ t, exec (.replyWindowExpiry key) s = .next t ∧
       plan? t g = some { p with sends := p.sends + 1 } ∧ (∀ j, j ≠ g → plan? t j = plan? s j) ∧
       order? t key = some { e with
         sends := e.sends + 1
         sentMs := s.clock.ms
         window := some (.reply, ⟨s.clock.ms, (groupParams s (groupOfAddr s o.target)).replyWindow⟩) } ∧
       (∀ key', key' ≠ key → order? t key' = order? s key') ∧
       t.prio = (if ∃ x ∈ s.prio, x.slot = g then s.prio else s.prio ++ [⟨g, planOrderFrame o⟩]) ∧
       Only [.seq, .tracker, .prio] s t) ∧
     (e.window = some (.reply, w) → 4 ≤ p.sends →
       ∃ t, exec (.replyWindowExpiry key) s = .next t ∧ Halts g p .noReply (some c) s t) ∧
     (e.window = some (.completion, w) →
       ∃ t, exec (.completionWindowExpiry key) s = .next t ∧ Halts g p .noCompletion (some c) s t))

/-! The Transfer Sequencer. -/

/-- Plan Request: its checks in their order (R127, R128), and the record an accepted one fills in the group's slot,
with the plan id as its answer (R126, R129): the counter's value, or the next in turn that no slot holds, 255 followed by 1.
The step flag and the zeros before a first order are log entry 23. -/
def Obligations.PlanRequestFillsTheSlot : Prop :=
  ∀ (kind g : Nat) (target : Option Nat) (f : Frame) (s : State), Takes 23 (planForm target) f s →
    let u := dropHead .s s
    let got := exec (.planRequest kind g target) s
    let refused := fun c : Cause => Host.Outcome.next (ρ := Refusal) (φ := Fault)
      (answered f ⟨23, .refused, some c, none, .none⟩ u)
    (s.resp.mode = .unconfigured → got = refused .mode) ∧
    (s.resp.mode = .supervising → PlanKind.ofCode kind = none → got = refused .badValue) ∧
    ∀ k, s.resp.mode = .supervising → PlanKind.ofCode kind = some k →
      let named := match target with
        | some c => (k = .withdraw ∨ k = .restore) ∧ c < 24
        | none => k = .groupToMaint ∨ k = .groupFromMaint
      let found := members s g ≠ [] ∧ ∀ c, target = some c → groupOf? s c = some g
      let free := plan? s g = none
      let covered := match k, target with
        | .restore, some c => cabCovered s c = true
        | .groupFromMaint, _ => ∃ m ∈ members s g, cabCovered s m = true
        | _, _ => False
      (¬(g < 4 ∧ named) → got = refused .badValue) ∧
      (g < 4 → named → ¬found → got = refused .notFound) ∧
      (g < 4 → named → found → ¬free → got = refused .busy) ∧
      (g < 4 → named → found → free → covered → got = refused .visit) ∧
      (g < 4 → named → found → free → ¬covered → startingCondition s k g target = false → got = refused .state) ∧
      (g < 4 → named → found → free → ¬covered → startingCondition s k g target = true →
        ∃ t id, got = .next (answered f ⟨23, .ok, none, none, .planId id⟩ t) ∧
          plan? t g = some ⟨id, k, g, target, .checking, none, 0, false, none, 0, 0, none, none, none, none, false, false⟩ ∧
          (∀ j, j ≠ g → plan? t j = plan? s j) ∧ t.seq.nextPlan = (if id = 255 then 1 else id + 1) ∧
          t.seq.nextSeq = s.seq.nextSeq ∧ t.seq.groups = s.seq.groups ∧ Only [.seq] u t ∧
          (1 ≤ s.seq.nextPlan → s.seq.nextPlan ≤ 255 →
            let inTurn := fun n : Nat => (s.seq.nextPlan - 1 + n) % 255 + 1
            let held := fun n : Nat => ∃ j p, plan? s j = some p ∧ p.id = n
            1 ≤ id ∧ id ≤ 255 ∧ ¬held id ∧ (¬held s.seq.nextPlan → id = s.seq.nextPlan) ∧
            ∃ n, id = inTurn n ∧ ∀ m < n, held (inTurn m)))

/-- The starting condition of each kind on the reported modes (R128). -/
def Obligations.StartingConditionsReadTheReportedModes : Prop :=
  ∀ (s : State) (g c : Nat) (r : CabRec), cab? s c = some r →
    let ms := (memberRecs s g).map Prod.snd
    let is := fun (x : CabRec) (l : List Mode) => ∃ m ∈ l, x.reported = some m
    (startingCondition s .withdraw g (some c) = true ↔ is r [.online] ∧
      (groupParams s g).minInService ≤ ms.countP (fun x => decide (x.reported = some .online)) - 1) ∧
    (startingCondition s .restore g (some c) = true ↔ is r [.isolated, .standby]) ∧
    (startingCondition s .groupToMaint g none = true ↔ ∀ x ∈ ms, is x [.online, .staticBypass]) ∧
    (startingCondition s .groupFromMaint g none = true ↔ (∀ x ∈ ms, is x [.isolated, .standby, .maintBypass]) ∧
      ∃ m, lead? s g = some m ∧ is m.2 [.maintBypass, .isolated])

/-- A step trigger at an order step that is not done (R130 to R133): a step that is not skipped and passes the
re-checks is issued, with its kind, target and captured settle; a failing re-check halts the plan, its step left as it
stood. The place of the order in the priority queue is log entry 19. How a trigger walks on (R131, R136): a skipped step
counts as done; from a step that is done it moves to the next step of the stage, and from the last one enters the next
stage of the kind, step 0, with a PLAN_STAGE notice; a first trigger enters the first stage, and a CHECK or ramp stage that
is not done is entered afresh. A CHECK stage that passes is done, and one that fails halts the plan there; a ramp stage
takes the plan into RAMPING with a new ramp record from the commanded share and judges the ramp step (log entry 39). The
step flag is log entry 23. A step trigger that finds the last step of the last stage done completes the plan: PLAN_DONE is
queued, the slot is freed (R131, R143), and a frame of the plan that still waits leaves the queue (log entry 41). The
re-checks in their order with the lowest offending cabinet or the share (R132), and the table of the steps: order kind,
cabinet, skip test, captured settle, and how many steps a stage has (R130). -/
def Obligations.StepTriggerIssuesHaltsOrCompletes : Prop :=
  (∀ (g : Nat) (p : Plan) (st : Stage) (c : Nat) (r : CabRec) (s : State), s.bridge = .opened → plan? s g = some p →
     p.group = g → p.state = .checking → p.stage = some st → p.stepDone = false →
     st ∉ [.check, .rampDown, .rampUp] → p.step < stageSteps s g st → stepCabinet s p st p.step = some c →
     cab? s c = some r → stepSkipped st p.step r = false →
     let k := stepKind st p.step
     (recheck s p st = none → ∃ t, exec (.stepTrigger g) s = .next t ∧
       Issues g p k r (if k = .setShare then some 0 else none) (stepSettle (groupParams s g) k) s t) ∧
     (∀ cause d, recheck s p st = some (cause, d) →
       ∃ t, exec (.stepTrigger g) s = .next t ∧ Halts g p cause (some d) s t)) ∧
  (∀ (g : Nat) (p : Plan) (s : State), s.bridge = .opened → plan? s g = some p → p.group = g → p.state = .checking →
     let stages : List Stage := match p.kind with
       | .withdraw => [.check, .rampDown, .openOut, .isolate]
       | .restore => [.deisolate, .close, .rampUp]
       | .groupToMaint => [.check, .toStatic, .maintClose, .openAll, .isolateAll]
       | .groupFromMaint => [.deisolateAll, .closeAll, .maintOpen, .toInverter]
     let whole := fun st : Stage => st = .check ∨ st = .rampDown ∨ st = .rampUp
     let holds := fun (x : State) (q : Plan) =>
       ({ x with seq := { x.seq with plans := x.seq.plans.setIfInBounds g (some q) } } : State)
     let got := exec (.stepTrigger g) s
     let goesOn := fun x : State => got = exec (.stepTrigger g) x
     (∀ st c r, p.stage = some st → ¬whole st → p.stepDone = false → p.step < stageSteps s g st →
       stepCabinet s p st p.step = some c → cab? s c = some r → stepSkipped st p.step r = true →
       goesOn (holds s { p with stepDone := true })) ∧
     (∀ st, p.stage = some st → ¬whole st → p.stepDone = true → p.step + 1 < stageSteps s g st →
       goesOn (holds s { p with step := p.step + 1, stepDone := false })) ∧
     ∀ st, (p.stage = none ∧ stages.head? = some st) ∨ (p.stage = some st ∧ whole st ∧ p.stepDone = false) ∨
         (∃ old j, p.stage = some old ∧ p.stepDone = true ∧ (whole old ∨ stageSteps s g old ≤ p.step + 1) ∧
           stages[j]? = some old ∧ stages[j + 1]? = some st) →
       let q : Plan := { p with stage := some st, step := 0, stepDone := false, ramp := none }
       let entered := queueNotice .planStage [byteOf p.id, byteOf g, byteOf p.kind.toCode, byteOf st.toCode] (holds s q)
       (¬whole st → goesOn entered) ∧
       (st = .check → recheck s p .check = none → goesOn (holds entered { q with stepDone := true })) ∧
       (st = .check → ∀ cause d, recheck s p .check = some (cause, d) →
         ∃ t, got = .next t ∧ Halts g q cause (some d) entered t) ∧
       ∀ tgt r, st = .rampDown ∨ st = .rampUp → p.target = some tgt → cab? s tgt = some r →
         got = .next (judgeRamp g (holds entered { q with
           state := .ramping
           ramp := some ⟨r.share, 0, 0, none, none, some ⟨s.clock.ms, (groupParams s g).matchWindow⟩⟩ }))) ∧
  (∀ (g : Nat) (p : Plan) (s : State), s.bridge = .opened → plan? s g = some p → p.group = g → p.state = .checking →
     p.stepDone = true →
     ((p.kind = .withdraw ∧ p.stage = some .isolate ∧ p.step = 0) ∨ (p.kind = .restore ∧ p.stage = some .rampUp) ∨
       (p.kind = .groupToMaint ∧ p.stage = some .isolateAll ∧ p.step + 1 = (members s g).length) ∨
       (p.kind = .groupFromMaint ∧ p.stage = some .toInverter ∧ p.step + 1 = (members s g).length)) →
     exec (.stepTrigger g) s = .next (queueNotice .planDone
       [byteOf p.id, byteOf g, byteOf p.kind.toCode, if p.lateFlag then 1 else 0]
       { s with
         seq := { s.seq with plans := s.seq.plans.setIfInBounds g none }
         prio := s.prio.filter (fun x => x.slot != g) })) ∧
  (∀ (s : State) (p : Plan) (st : Stage),
     let silent := fun m => ∃ r, cab? s m = some r ∧ r.group = p.group ∧ r.liveness = .silent
     let poor := fun m => p.kind = .groupToMaint ∧ (st = .check ∨ st = .toStatic ∨ st = .maintClose) ∧
       ∃ r, cab? s m = some r ∧ r.group = p.group ∧ r.bypass ≠ .good
     let heavy := p.kind = .withdraw ∧ (st = .check ∨ st = .openOut) ∧
       ∃ t, p.target = some t ∧ ¬carries s p.group t 0
     let least := fun (q : Nat → Prop) (m : Nat) => q m ∧ ∀ j < m, ¬q j
     (∀ m, least silent m → recheck s p st = some (.silent, m)) ∧
     ((∀ m, ¬silent m) →
       (∀ m, least poor m → recheck s p st = some (.bypass, m)) ∧
       (heavy → recheck s p st = some (.capacity, 0)) ∧
       ((∀ m, ¬poor m) → ¬heavy → recheck s p st = none))) ∧
  ∀ (s : State) (p : Plan) (r : CabRec),
    let gp := groupParams s p.group
    let is := fun l : List Mode => ∃ m ∈ l, r.reported = some m
    let row := fun (st : Stage) (n i : Nat) (k : OrderKind) (cab : Option Nat) (skip : Prop) (settle : Nat) =>
      stageSteps s p.group st = n ∧ stepKind st i = k ∧ stepCabinet s p st i = cab ∧
        (stepSkipped st i r = true ↔ skip) ∧ stepSettle gp k = settle
    let each := fun (st : Stage) (k : OrderKind) (skip : Prop) (settle : Nat) =>
      ∀ i, row st (members s p.group).length i k (members s p.group)[i]? skip settle
    let lead := (lead? s p.group).map Prod.fst
    row .openOut 1 0 .outputOpen p.target (is [.standby, .isolated]) gp.settleOutput ∧
    row .isolate 1 0 .isolate p.target (is [.isolated]) gp.settleIsolate ∧
    row .deisolate 1 0 .deisolate p.target (is [.standby]) gp.settleIsolate ∧
    row .close 2 0 .setShare p.target (r.share = 0) 0 ∧
    row .close 2 1 .outputClose p.target (is [.online, .maintBypass]) gp.settleOutput ∧
    each .toStatic .goBypass (is [.staticBypass, .maintBypass]) gp.settleBypass ∧
    row .maintClose 1 0 .maintClose lead (is [.maintBypass]) gp.settleMaint ∧
    each .openAll .outputOpen (is [.standby, .isolated]) gp.settleOutput ∧
    each .isolateAll .isolate (is [.isolated]) gp.settleIsolate ∧
    each .deisolateAll .deisolate (is [.standby, .maintBypass, .staticBypass, .online]) gp.settleIsolate ∧
    each .closeAll .outputClose (is [.maintBypass, .staticBypass, .online]) gp.settleOutput ∧
    row .maintOpen 1 0 .maintOpen lead (is [.staticBypass, .online]) gp.settleMaint ∧
    each .toInverter .goInverter (is [.online]) gp.settleBypass

/-- When a ramp step is judged beside a stage's entry and the DONE of a ramp order (R137): at a hand-off, the oldest first
(log entry 5), and at the expiry of the interval timer, which stops it; a plan that is not RAMPING is left alone. The
judgement of a RAMP_DOWN stage (R137): with no match, or the interval running, the plan stays; at limit 0 the stage ends;
otherwise the lower value is issued when no member is SILENT and the capacity check of R114 holds, and the plan halts when a
check fails. The judgement of a RAMP_UP stage (R138): the match reads the lesser of the limit and the fair share; at the
restore limit the stage ends (log entry 40), below it the raised value is issued without a capacity check. That an order
issued takes the place of a re-send of its slot that still waits in the priority queue is log entry 19. The expiry of a
settle timer takes the plan to CHECKING (R135). The expiry of the match window halts a RAMPING plan with NO_MATCH and the
target's output load (R139). -/
def Obligations.RampsAndPlanTimers : Prop :=
  (∀ (c : Nat) (rest : List Nat) (s : State), s.bridge = .opened → s.hand.ramp = c :: rest →
     let taken : State := { s with hand := { s.hand with ramp := rest } }
     (groupOf? s c = none → exec .rampStepJudgement s = .next taken) ∧
     ∀ g, groupOf? s c = some g → exec .rampStepJudgement s = .next (judgeRamp g taken)) ∧
  (∀ (g : Nat) (p : Plan) (ra : Ramp) (w : Timer) (s : State), s.bridge = .opened → plan? s g = some p →
     p.ramp = some ra → ra.timer = some w → RunOut w s →
     exec (.rampIntervalExpiry g) s = .next (judgeRamp g { s with seq := { s.seq with
       plans := s.seq.plans.setIfInBounds g (some { p with ramp := some { ra with timer := none } }) } })) ∧
  (∀ (g : Nat) (s : State), (∀ p, plan? s g = some p → p.state ≠ .ramping) → judgeRamp g s = s) ∧
  (∀ (g : Nat) (p : Plan) (ra : Ramp) (tgt : Nat) (r : CabRec) (s : State), plan? s g = some p → p.state = .ramping →
     p.ramp = some ra → p.target = some tgt → cab? s tgt = some r →
     let gp := groupParams s g
     let t := judgeRamp g s
     let silent := fun m => ∃ x, cab? s m = some x ∧ x.group = g ∧ x.liveness = .silent
     let online := (memberRecs s g).filter (fun m => decide (m.2.reported = some .online))
     let inService := (memberRecs s g).filter
       (fun m => decide (m.2.reported = some .online) || decide (m.2.reported = some .onBattery))
     let fair := (inService.map (fun m => m.2.load * m.2.rating)).sum /
       ((online.map (fun m => m.2.rating)).sum + if r.reported = some .online then 0 else r.rating)
     let done : Plan := { p with state := .checking, stepDone := true, ramp := some { ra with window := none } }
     let ended : State := { s with seq := { s.seq with plans := s.seq.plans.setIfInBounds g (some done) } }
     let issued : Ramp :=
       ⟨ra.limit, gp.rampStep, gp.rampInterval, some s.clock.ms, some ⟨s.clock.ms, gp.rampInterval⟩, none⟩
     let issues := fun v : Nat => Issues g { p with ramp := some issued } .setShare r (some v) 0 s t
     let halts := fun (cause : HaltCause) (d : Nat) => Halts g p cause (some d) s t
     let judged := fun (v : Nat) (passes : Prop) =>
       ((∀ m, ¬silent m) → passes → issues v) ∧ ((∀ m, ¬silent m) → ¬passes → halts .capacity v) ∧
         ∀ m, silent m → (∀ j < m, ¬silent j) → halts .silent m
     (p.stage = some .rampDown →
       let matched := r.load ≤ ra.limit + gp.matchTolerance
       (¬matched → t = s) ∧ (matched → ra.limit = 0 → t = ended) ∧
       (matched → 0 < ra.limit → ra.timer.isSome = true → t = s) ∧
       (matched → 0 < ra.limit → ra.timer = none →
         judged (ra.limit - gp.rampStep) (carries s g tgt (ra.limit - gp.rampStep)))) ∧
     (p.stage = some .rampUp →
       let matched := min ra.limit fair ≤ r.load + gp.matchTolerance
       (¬matched → t = s) ∧ (matched → r.restoreLimit ≤ ra.limit → t = ended) ∧
       (matched → ra.limit < r.restoreLimit → ra.timer.isSome = true → t = s) ∧
       (matched → ra.limit < r.restoreLimit → ra.timer = none →
         judged (min r.restoreLimit (ra.limit + gp.rampStep)) True))) ∧
  (∀ (g : Nat) (p : Plan) (w : Timer) (s : State), s.bridge = .opened → plan? s g = some p → p.state = .settling →
     p.settleTimer = some w → RunOut w s →
     exec (.settleExpiry g) s = .next { s with seq := { s.seq with
       plans := s.seq.plans.setIfInBounds g (some { p with state := .checking, settleTimer := none }) } }) ∧
  (∀ (g : Nat) (p : Plan) (ra : Ramp) (w : Timer) (tgt : Nat) (r : CabRec) (s : State), s.bridge = .opened →
     plan? s g = some p → p.state = .ramping → p.ramp = some ra → ra.window = some w → RunOut w s →
     p.target = some tgt → cab? s tgt = some r →
     ∃ t, exec (.matchWindowExpiry g) s = .next t ∧ Halts g p .noMatch (some r.load) s t)

/-- Plan Resume of a HALTED plan (R141): the slot's entry leaves the orders, PLAN_HALTED is cleared, the halt cause and
detail go, and the plan is CHECKING with its step not done, or settles when a late DONE came outside a ramp stage. Plan
Abandon in every plan state: the slot's entry and waiting frame are removed, PLAN_HALTED is cleared for a HALTED plan,
and the slot is freed with every timer it held (R142). -/
def Obligations.ResumeAndAbandonActOnThePlan : Prop :=
  (∀ (id g : Nat) (p : Plan) (f : Frame) (s : State), Takes 24 (plainForm 24) f s → s.resp.mode = .supervising →
     planById s id = some (g, p) →
     let u := dropHead .s s
     let q : Plan := { p with haltCause := none, haltDetail := none, lateSinceHalt := false }
     let inRamp := p.stage = some .rampDown ∨ p.stage = some .rampUp
     let next : Plan := if p.lateSinceHalt = true ∧ ¬inRamp then
         (if p.settle = 0 then { q with state := .checking, stepDone := true }
         else { q with state := .settling, stepDone := true, settleTimer := some ⟨s.clock.ms, p.settle⟩ })
       else { q with state := .checking, stepDone := false }
     let kept := s.tracker.orders.filter (fun e => !(e.origin == .plan && e.slot == some g))
     (p.state ≠ .halted →
       exec (.planResume id) s = .next (answered f ⟨24, .refused, some .state, none, .none⟩ u)) ∧
     (p.state = .halted → exec (.planResume id) s = .next (answered f ⟨24, .ok, none, none, .none⟩
       (clear codePlanHalted (.group g) { u with
         seq := { s.seq with plans := s.seq.plans.setIfInBounds g (some next) }
         tracker := { s.tracker with orders := kept } })))) ∧
  (∀ (id g : Nat) (p : Plan) (f : Frame) (s : State), Takes 25 (plainForm 25) f s → s.resp.mode = .supervising →
     planById s id = some (g, p) →
     let kept := s.tracker.orders.filter (fun e => !(e.origin == .plan && e.slot == some g))
     let freed : State := { dropHead .s s with
       seq := { s.seq with plans := s.seq.plans.setIfInBounds g none }
       tracker := { s.tracker with orders := kept }
       prio := s.prio.filter (fun x => x.slot != g) }
     exec (.planAbandon id) s = .next (answered f ⟨25, .ok, none, none, .none⟩
       (if p.state = .halted then clear codePlanHalted (.group g) freed else freed)))

/-! The Visit Register. -/

/-- Visit Open: its checks in their order with the lowest offending index (R149, R150), and what an accepted one does
(R151, R153): the lowest free entry is filled, a scoped cabinet leaves the Force Close list with its alarms, and the
visit is PREPARING, or ACTIVE at once when every scoped cabinet meets the depth (R148), with its notices and its reply.
That the scoped cabinets leave the list by ascending index is log entry 17. -/
def Obligations.VisitOpenIsCheckedThenPrepares : Prop :=
  ∀ (r : VisitReq) (f : Frame) (s : State), Takes 27 (visitForm r) f s →
    let u := dropHead .s s
    let got := exec (.visitOpen r) s
    let refused := fun (c : Cause) (d : Option Nat) => Host.Outcome.next (ρ := Refusal) (φ := Fault)
      (answered f ⟨27, .refused, some c, d, .none⟩ u)
    let formed := (1 ≤ r.id ∧ r.id ≤ 255) ∧ r.cabinets ≠ [] ∧ (∀ c ∈ r.cabinets, c < 24) ∧ (∀ i ∈ r.strings, i < 32) ∧
      1 ≤ r.depth ∧ r.depth ≤ 3
    let room := ∃ k < 8, visitEntry? s k = none
    let fresh := ∀ k v, visitEntry? s k = some v → v.id ≠ r.id
    let passes := fun cab str : Nat → Prop => (∀ c ∈ r.cabinets, ¬cab c) ∧ ∀ i ∈ r.strings, ¬str i
    let lowest := fun (cab str : Nat → Prop) (d : Nat) =>
      (d ∈ r.cabinets ∧ cab d ∧ ∀ c ∈ r.cabinets, cab c → d ≤ c) ∨
        ((∀ c ∈ r.cabinets, ¬cab c) ∧ d ∈ r.strings ∧ str d ∧ ∀ i ∈ r.strings, str i → d ≤ i)
    let unknownCab := fun c => cab? s c = none
    let unknownStr := fun i => str? s i = none ∨ ¬∃ n, strNode? s i = some n ∧ n.owner ∈ r.cabinets
    let takenCab := fun c => ∃ k v, visitEntry? s k = some v ∧ v.state.covers = true ∧ c ∈ v.cabinets
    let takenStr := fun i => ∃ k v, visitEntry? s k = some v ∧ v.state.covers = true ∧ i ∈ v.strings
    let planned := fun c => ∃ g p, plan? s g = some p ∧ ((p.kind = .restore ∧ p.target = some c) ∨
      (p.kind = .groupFromMaint ∧ groupOf? s c = some p.group))
    (s.resp.mode = .unconfigured → got = refused .mode none) ∧
    (s.resp.mode = .supervising →
      (¬formed → got = refused .badValue none) ∧
      (formed → ¬room → got = refused .full none) ∧
      (formed → room → ¬fresh → got = refused .id none) ∧
      (formed → room → fresh →
        (∀ d, lowest unknownCab unknownStr d → got = refused .scope (some d)) ∧
        (passes unknownCab unknownStr →
          (∀ d, lowest takenCab takenStr d → got = refused .overlap (some d)) ∧
          (passes takenCab takenStr →
            (∀ d, lowest planned (fun _ => False) d → got = refused .planConflict (some d)))))) ∧
    ∀ (k : Nat) (d : Depth), s.resp.mode = .supervising → formed → fresh → passes unknownCab unknownStr →
      passes takenCab takenStr → passes planned (fun _ => False) → d.toCode = r.depth → k < 8 → visitEntry? s k = none →
      (∀ j < k, visitEntry? s j ≠ none) →
      let lasts := max 1 (min 720 r.duration)
      let limit := max 1 (min 120 r.prepareLimit)
      let met := ∀ c ∈ r.cabinets, d = .doorOnly ∨ ∃ x m, cab? s c = some x ∧ x.reported = some m ∧
        (m = .isolated ∨ (d = .bypass ∧ (m = .maintBypass ∨ m = .standby)))
      let v : Visit := ⟨r.id, (List.range 24).filter r.cabinets.contains, (List.range 32).filter r.strings.contains, d,
        lasts, limit, .preparing, s.clock.sec, none, none, false, false, some ⟨s.clock.ms, limit * 60000⟩, none, none⟩
      let w : Visit := { v with
        state := .active, activeFrom := some s.clock.sec, prepareTimer := none,
        durationTimer := some ⟨s.clock.ms, lasts * 60000⟩ }
      let freed := (v.cabinets.filter (fun c => s.visits.forceClose.any (fun p => p.1 == c))).foldl
        (fun x c => clear codeDoorLeftOpen (.cabinet c) (clear codeVisitOverstay (.cabinet c) x)) s
      let prepares := queueNotice .visitState [byteOf r.id, 1, 0] freed
      let status : Status := if lasts ≠ r.duration ∨ limit ≠ r.prepareLimit then .okClamped else .ok
      let opens := fun (x : Visit) (a : AlarmUnit) => ∃ t, got = .next (answered f ⟨27, status, none, none, .visitState x.state⟩ t) ∧
        t.visits = ⟨s.visits.entries.setIfInBounds k (some x),
          s.visits.forceClose.filter (fun p => !r.cabinets.contains p.1)⟩ ∧
        t.alarm = a ∧ Only [.visits, .alarm] u t
      (met → opens w (queueNotice .visitState [byteOf r.id, 2, 0] prepares).alarm) ∧
      (¬met → opens v prepares.alarm)

/-- Visit Close, Force Close and Cancel of a visit of the register (R156 to R159): each is refused with STATE outside
its states; Close reads every scoped door and leaves at once when all are CLOSED, otherwise it is CLOSING with its
close timer; Force Close raises the open doors, lists the scope and leaves; Cancel leaves as CANCELLED. The three
timers of a visit (R153, R154, R156): the prepare timer cancels it, the duration timer sets the overstay flag and
raises VISIT_OVERSTAY for the first scoped cabinet, the close timer sets its flag and raises DOOR_LEFT_OPEN for each
open door by ascending index. That the clears of a visit that leaves go by ascending index is log entry 17. -/
def Obligations.VisitEndsByRequestOrTimer : Prop :=
  (∀ (id k : Nat) (v : Visit) (f : Frame) (s : State), s.resp.mode = .supervising → visitById s id = some (k, v) →
     let u := dropHead .s s
     let tells := fun (code : Nat) (r : Result) (t : State) => Host.Outcome.next (ρ := Refusal) (φ := Fault)
       (answered f ⟨code, .ok, none, none, r⟩ t)
     let refused := fun code : Nat => Host.Outcome.next (ρ := Refusal) (φ := Fault)
       (answered f ⟨code, .refused, some .state, none, .none⟩ u)
     let stands := fun c : Nat => (cab? s c).any (fun r => r.door == .opened)
     let w : Visit := { v with
       state := .closing, closingFrom := some s.clock.sec, closeTimer := some ⟨s.clock.ms, v.prepareLimit * 60000⟩ }
     let closing := queueNotice .visitState [byteOf v.id, 3, if v.overstay then 1 else 0]
       { u with visits := { s.visits with entries := s.visits.entries.setIfInBounds k (some w) } }
     let raised := (v.cabinets.filter stands).foldl
       (fun x c => raise codeDoorLeftOpen (.cabinet c) (some (BitVec.ofNat 32 v.id)) x) u
     let forced : State := { raised with visits := { s.visits with
       forceClose := s.visits.forceClose.filter (fun p => !v.cabinets.contains p.1) ++ v.cabinets.map (fun c => (c, v.id)) } }
     (Takes 28 (plainForm 28) f s →
       (v.state ≠ .active → exec (.visitClose id) s = refused 28) ∧
       (v.state = .active → v.cabinets.any stands = true →
         exec (.visitClose id) s = tells 28 (.visitState .closing) closing) ∧
       (v.state = .active → v.cabinets.any stands = false →
         ∃ t, exec (.visitClose id) s = tells 28 (.visitState .closed) t ∧ Leaves k w .closed true closing t)) ∧
     (Takes 29 (plainForm 29) f s →
       (v.state ≠ .active → v.state ≠ .closing → exec (.visitForceClose id) s = refused 29) ∧
       (v.state = .active ∨ v.state = .closing →
         ∃ t, exec (.visitForceClose id) s = tells 29 .none t ∧ Leaves k v .closed false forced t)) ∧
     (Takes 30 (plainForm 30) f s →
       (v.state ≠ .preparing → exec (.visitCancel id) s = refused 30) ∧
       (v.state = .preparing → ∃ t, exec (.visitCancel id) s = tells 30 .none t ∧ Leaves k v .cancelled false u t))) ∧
  (∀ (id k : Nat) (v : Visit) (w : Timer) (s : State), s.bridge = .opened → visitById s id = some (k, v) → RunOut w s →
     let stored := fun x : Visit =>
       { s with visits := { s.visits with entries := s.visits.entries.setIfInBounds k (some x) } }
     (v.state = .preparing → v.prepareTimer = some w →
       ∃ t, exec (.prepareTimerExpiry id) s = .next t ∧ Leaves k v .cancelled false s t) ∧
     (v.state = .active ∨ v.state = .closing → v.durationTimer = some w →
       exec (.durationTimerExpiry id) s = .next (raise codeVisitOverstay (.cabinet v.first) (some (BitVec.ofNat 32 v.id))
         (stored { v with overstay := true, durationTimer := none }))) ∧
     (v.state = .closing → v.closeTimer = some w →
       exec (.closeTimerExpiry id) s = .next
         ((v.cabinets.filter (fun c => (cab? s c).any (fun r => r.door == .opened))).foldl
           (fun x c => raise codeDoorLeftOpen (.cabinet c) (some (BitVec.ofNat 32 v.id)) x)
           (stored { v with closeLimitPassed := true, closeTimer := none }))))

/-- A hand-off at the Visit Register (R152, R153, R155, R156): the oldest is taken; first the visit whose scope holds the
cabinet does its work by its state, then the door judgement is taken on what that leaves. The oldest first is log entry 5;
the depth is judged on the Cabinet Table and the door on the report handed over, which is log entry 26. The door judgement
by where the cabinet stands (R160): in the scope of an ACTIVE or CLOSING visit, in the Force Close list, or in neither. The order of the clears of a visit that
leaves is log entry 17. -/
def Obligations.VisitHandOffWorksThenJudgesTheDoor : Prop :=
  (∀ (h : VisitHand) (rest : List VisitHand) (s : State), s.bridge = .opened → s.hand.visit = h :: rest →
     let got := exec .visitHandOff s
     let c := h.cabinet
     let u : State := { s with hand := { s.hand with visit := rest } }
     let judged := fun x : State => Host.Outcome.next (ρ := Refusal) (φ := Fault) (doorJudgement c h.door x)
     let meets := fun (v : Visit) (x : Nat) => v.depth = .doorOnly ∨ ∃ r m, cab? s x = some r ∧ r.reported = some m ∧
       (m = .isolated ∨ (v.depth = .bypass ∧ (m = .maintBypass ∨ m = .standby)))
     ((∀ k v, visitEntry? s k = some v → c ∉ v.cabinets) → got = judged u) ∧
     ∀ k v, VisitsDisjoint s → visitEntry? s k = some v → c ∈ v.cabinets →
       let w : Visit := { v with
         state := .active, activeFrom := some s.clock.sec, prepareTimer := none,
         durationTimer := some ⟨s.clock.ms, v.duration * 60000⟩ }
       let active := queueNotice .visitState [byteOf v.id, 2, if v.overstay then 1 else 0]
         { u with visits := { s.visits with entries := s.visits.entries.setIfInBounds k (some w) } }
       let kept := clear codeVisitConditionLost (.cabinet c) u
       let lost := raise codeVisitConditionLost (.cabinet c) (some (BitVec.ofNat 32 v.id)) u
       let shut := fun x : State => clear codeDoorLeftOpen (.cabinet c) x
       let closes := fun x : State =>
         (h.door = .opened → v.closeLimitPassed = false → got = judged x) ∧
         (h.door = .opened → v.closeLimitPassed = true →
           got = judged (raise codeDoorLeftOpen (.cabinet c) (some (BitVec.ofNat 32 v.id)) x)) ∧
         (h.door = .closed → (∃ j ∈ v.cabinets, ∃ r, cab? s j = some r ∧ r.door = .opened) → got = judged (shut x)) ∧
         (h.door = .closed → (∀ j ∈ v.cabinets, ∀ r, cab? s j = some r → r.door ≠ .opened) →
           ∃ t, got = judged t ∧ Leaves k v .closed true (shut x) t)
       (v.state = .preparing → (∀ x ∈ v.cabinets, meets v x) → got = judged active) ∧
       (v.state = .preparing → (∃ x ∈ v.cabinets, ¬meets v x) → got = judged u) ∧
       (v.state = .active → meets v c → got = judged kept) ∧
       (v.state = .active → ¬meets v c → got = judged lost) ∧
       (v.state = .closing → meets v c → closes kept) ∧
       (v.state = .closing → ¬meets v c → closes lost)) ∧
  (∀ (c : Nat) (s : State),
     let open' := doorJudgement c .opened s
     let shut := doorJudgement c .closed s
     let within := ∃ k v, visitEntry? s k = some v ∧ (v.state = .active ∨ v.state = .closing) ∧ c ∈ v.cabinets
     let unscoped := fun x : State => clear codeDoorOpenUnscoped (.cabinet c) x
     (within → open' = s ∧ shut = unscoped s) ∧
     (¬within → ∀ id, s.visits.forceClose.find? (fun p => p.1 == c) = some (c, id) →
       open' = raise codeDoorLeftOpen (.cabinet c) (some (BitVec.ofNat 32 id)) s ∧
       shut = unscoped (clear codeVisitOverstay (.cabinet c) (clear codeDoorLeftOpen (.cabinet c)
         { s with visits := { s.visits with forceClose := s.visits.forceClose.filter (fun p => p.1 != c) } }))) ∧
     (¬within → (∀ id, (c, id) ∉ s.visits.forceClose) →
       open' = raise codeDoorOpenUnscoped (.cabinet c) none s ∧ shut = unscoped s))

/-! The management requests on the directory, the mode, the records, the limits, the ports and the resets. -/

/-- Write Node Entry (R3), and Clear and Read Node Entry (R4): a write is refused with MODE while SUPERVISING, a
structural field out of range refuses the write whole, a numeric field is clamped, a restore share limit left out is
1000; the entry is stored at its index and nothing else changes. -/
def Obligations.NodeEntriesAreWrittenClearedAndRead : Prop :=
  ∀ (index : Nat) (r : NodeReq) (f : Frame) (s : State),
    let u := dropHead .s s
    let held := fun e : Option DirEntry => { u with resp := { s.resp with dir := s.resp.dir.setIfInBounds index e } }
    let gives := fun (code : Nat) (st : Status) (c : Option Cause) (x : Result) (t : State) =>
      Host.Outcome.next (ρ := Refusal) (φ := Fault) (answered f ⟨code, st, c, none, x⟩ t)
    let role : Option (NodeRole × Prop) := match r.role with
      | .cabinet i g lead rating limit => if i < 24 ∧ g < 4 then
          some (.cabinet ⟨i, g, lead, max 10 (min 1000 rating), min 1000 (limit.getD 1000)⟩,
            rating < 10 ∨ 1000 < rating ∨ 1000 < limit.getD 0) else none
      | .stringMonitor i owner blocks capacity => if i < 32 ∧ owner < 24 ∧ 1 ≤ blocks ∧ blocks ≤ 40 then
          some (.stringMonitor ⟨i, owner, blocks, max 1 (min 2000 capacity)⟩, capacity < 1 ∨ 2000 < capacity) else none
      | .otherRole => none
    let inRange := index < 56 ∧ 1 ≤ r.addr ∧ r.addr ≤ 239
    (Takes 2 (nodeForm r) f s → s.resp.mode = .supervising →
      exec (.writeNodeEntry index r) s = gives 2 .refused (some .mode) .none u) ∧
    (Takes 2 (nodeForm r) f s → s.resp.mode = .unconfigured →
      (¬inRange ∨ role = none → exec (.writeNodeEntry index r) s = gives 2 .refused (some .badValue) .none u) ∧
      ∀ x cut, inRange → role = some (x, cut) →
        let clamped := cut ∨ r.interval < 500 ∨ 60000 < r.interval ∨ r.missLimit < 1 ∨ 15 < r.missLimit
        let t := held (some ⟨r.addr, max 500 (min 60000 r.interval), max 1 (min 15 r.missLimit), x⟩)
        (clamped → exec (.writeNodeEntry index r) s = gives 2 .okClamped none .none t) ∧
        (¬clamped → exec (.writeNodeEntry index r) s = gives 2 .ok none .none t)) ∧
    (Takes 3 (plainForm 3) f s → s.resp.mode = .unconfigured →
      (56 ≤ index → exec (.clearNodeEntry index) s = gives 3 .refused (some .badValue) .none u) ∧
      (index < 56 → exec (.clearNodeEntry index) s = gives 3 .ok none .none (held none))) ∧
    (Takes 4 (plainForm 4) f s →
      (56 ≤ index → exec (.readNodeEntry index) s = gives 4 .refused (some .badValue) .none u) ∧
      ∀ e, s.resp.dir[index]? = some e → exec (.readNodeEntry index) s = gives 4 .ok none (.nodeEntry e) u)

/-- While SUPERVISING, no command but the three resets changes the directory, and none but those and Stop Supervision
changes the shape of the two tables: which records stand, and a cabinet's address, group, lead flag, rating and restore
share limit (R2, R4, R7). -/
def Obligations.DirectoryIsFrozenWhileSupervising : Prop :=
  ∀ (i : Instr) (s t : State), s.resp.mode = .supervising → exec i s = .next t → isFullReset i = false →
    t.resp.dir = s.resp.dir ∧
    (i ≠ .stopSupervision →
      t.resp.mode = .supervising ∧ (∀ k, (str? t k).isSome = (str? s k).isSome) ∧
      ∀ c, (cab? t c).map (fun r => (r.addr, r.group, r.lead, r.rating, r.restoreLimit)) =
        (cab? s c).map (fun r => (r.addr, r.group, r.lead, r.rating, r.restoreLimit)))

/-- Start Supervision (R17, R18): the lowest entry that offends refuses it, or 255 for a directory that holds no
cabinet (log entry 21); a directory that passes brings SUPERVISING with the records of R7, R13 and R14, every watch
running, fresh limit records, and the SUPERVISION_STATE notice. That the number of the invalid last update ms is 0 is log
entry 35. The properties of a group that follow from the directory (R6): its members by ascending index, the one lead of a
group that has members, the sum of the members' ratings, and the strings whose owner is a member. -/
def Obligations.StartSupervisionChecksThenBuilds : Prop :=
  ∀ (f : Frame) (s : State), Takes 5 (.exactly []) f s → s.resp.mode = .unconfigured →
    let u := dropHead .s s
    let got := exec .startSupervision s
    let cabAt := fun (i : Nat) (e : DirEntry) (n : CabNode) => s.resp.dir[i]? = some (some e) ∧ e.role = .cabinet n
    let strAt := fun (i : Nat) (e : DirEntry) (n : StrNode) => s.resp.dir[i]? = some (some e) ∧ e.role = .stringMonitor n
    let cabHolds := fun (p : CabNode → Bool) (i : Nat) => (s.resp.dir[i]?).join.any (fun e => e.cab?.any p)
    let strHolds := fun (p : StrNode → Bool) (i : Nat) => (s.resp.dir[i]?).join.any (fun e => e.str?.any p)
    let offends := fun i : Nat =>
      (∃ e, s.resp.dir[i]? = some (some e) ∧ ∃ j x, j < i ∧ s.resp.dir[j]? = some (some x) ∧ x.addr = e.addr) ∨
      (∃ e n, cabAt i e n ∧
        ((∃ j x m, j < i ∧ cabAt j x m ∧ m.index = n.index) ∨
          8 ≤ (List.range i).countP (cabHolds (fun m => m.group == n.group)) ∨
          (n.lead = true ∧ ∃ j x m, j < i ∧ cabAt j x m ∧ m.group = n.group ∧ m.lead = true) ∨
          ((∀ j x m, cabAt j x m → m.group = n.group → m.lead = false) ∧
            ∀ j x m, j < i → cabAt j x m → m.group ≠ n.group))) ∨
      ∃ e n, strAt i e n ∧
        ((∃ j x m, j < i ∧ strAt j x m ∧ m.index = n.index) ∨ (∀ j x m, cabAt j x m → m.index ≠ n.owner) ∨
          4 ≤ (List.range i).countP (strHolds (fun m => m.owner == n.owner)))
    let refused := fun d : Nat => Host.Outcome.next (ρ := Refusal) (φ := Fault)
      (answered f ⟨5, .refused, some .directory, some d, .none⟩ u)
    ((∀ i e n, ¬cabAt i e n) → got = refused 255) ∧
    ((∃ i e n, cabAt i e n) →
      (∀ i, offends i → (∀ j < i, ¬offends j) → got = refused i) ∧
      ((∀ i, ¬offends i) →
        let start := fun e : DirEntry => some (⟨s.clock.ms, e.interval * e.missLimit⟩ : Timer)
        ∃ t, got = .next (answered f ⟨5, .ok, none, none, .none⟩ t) ∧
          t.resp = { s.resp with mode := .supervising } ∧
          (∀ i e n, cabAt i e n → n.index < 24 → cab? t n.index = some ⟨none, 0, 1000, 0, 0, -32768, .absent, .closed,
            none, false, start e, .neverSeen, 0, none, 1000, false, e.addr, n.group, n.lead, n.rating, n.restoreLimit⟩) ∧
          (∀ c, (∀ i e n, cabAt i e n → n.index ≠ c) → cab? t c = none) ∧
          (∀ i e n, strAt i e n → n.index < 32 → str? t n.index = some ⟨List.replicate n.blocks 65535, 0, [], 0, start e,
            .neverSeen, {
              base := .fresh, lastMs := 0, wCal := 0, rCal := 0, qThr := 0, bins := #v[0, 0, 0, 0], activity := .float,
              confirm := 0, charge := 0, eventIsTest := false, soc := 1000, recovery := none,
              baseline := List.replicate n.blocks 0, baselineState := .learning, learnCount := 0,
              rises := List.replicate n.blocks 0, worstRise := 0, cFrac := 0, yFrac := 0, rFrac := 0, life := 0,
              limiting := .calendar, grade := .good, reserve := 1000, gaps := 0, unrestored := true, frozen := false,
              pendingSerial := none, lastTeff := none }⟩) ∧
          (∀ k, (∀ i e n, strAt i e n → n.index ≠ k) → str? t k = none) ∧
          (∀ k e, limit? s k = some e → t.insp.records[k]? = some (List.replicate
            (match e.subject with | .all => e.measurement.indices | .one _ => 1) ⟨0, false⟩)) ∧
          t.insp.quiet = s.insp.quiet ∧ t.alarm = (queueNotice .supervisionState [1] s).alarm ∧
          Only [.resp, .insp, .cabs, .strs, .alarm] u t ∧
          ((∀ i e n, cabAt i e n → n.index < 24) → ∀ g : Nat,
            (members t g).Pairwise (· < ·) ∧ (∀ c, c ∈ members t g ↔ ∃ i e n, cabAt i e n ∧ n.index = c ∧ n.group = g) ∧
            (members t g ≠ [] → ∃ c r, lead? t g = some (c, r) ∧ cab? t c = some r ∧ r.group = g ∧ r.lead = true ∧
              ∀ c' r', cab? t c' = some r' → r'.group = g → r'.lead = true → c' = c) ∧
            groupRating t g = ((members t g).map (fun c => ((cab? t c).map (·.rating)).getD 0)).sum ∧
            ∀ k, k < 32 → (k ∈ stringsOfGroup t g ↔ ∃ i e n, strAt i e n ∧ n.index = k ∧ n.owner ∈ members t g))))

/-- Stop Supervision (R19, R24): BUSY while a plan slot or a visit entry is occupied; otherwise the records, the Force
Close list, the site-origin orders, the quiet timer and every alarm but LINK_ERRORS go, the limit records are fresh,
and the notice is queued. That hand-offs not yet taken go too is log entry 5. -/
def Obligations.StopSupervisionEmptiesTheFloor : Prop :=
  ∀ (f : Frame) (s : State), Takes 6 (.exactly []) f s → s.resp.mode = .supervising →
    let u := dropHead .s s
    let got := exec .stopSupervision s
    let busy := (∃ g p, plan? s g = some p) ∨ ∃ k v, visitEntry? s k = some v
    (busy → got = .next (answered f ⟨6, .refused, some .busy, none, .none⟩ u)) ∧
    (¬busy → ∃ t, got = .next (answered f ⟨6, .ok, none, none, .none⟩ t) ∧
      t.resp = { s.resp with mode := .unconfigured } ∧ (∀ c, cab? t c = none) ∧ (∀ i, str? t i = none) ∧
      t.visits = { s.visits with forceClose := [] } ∧
      t.tracker = { s.tracker with orders := s.tracker.orders.filter (fun e => e.origin != .site) } ∧
      t.insp.quiet = none ∧
      (∀ k e, limit? s k = some e → t.insp.records[k]? = some (List.replicate
        (match e.subject with | .all => e.measurement.indices | .one _ => 1) ⟨0, false⟩)) ∧
      t.alarm = (queueNotice .supervisionState [0] { s with alarm := { s.alarm with
        list := s.alarm.list.filter (fun e => e.code == codeLinkErrors) } }).alarm ∧
      t.hand = ⟨[], [], []⟩ ∧ Only [.resp, .insp, .cabs, .strs, .alarm, .tracker, .visits, .hand] u t)

/-- The four reads of the floor's records (R21, R188): BAD_VALUE outside the indices, NOT_FOUND without a record,
otherwise the record, for a cabinet with its reserve (R15), for a string with its ageing record (R68); nothing but the reply
and the taken frame changes. In the payload of the LISTS part each baseline stands in two bytes (R188), its rise in a free
value of at most 5. That Read String Record names every field, though 128 bytes do not hold them all for a long string, and
that the LISTS part goes block by block, is log entry 4. Read String Blocks carries each baseline as it stands (R21), the
LISTS part reads one above 65535 as 65535 (R188). That a first block above 40 is judged before the record's existence is log
entry 22. -/
def Obligations.RecordReadsAnswerTheRecord : Prop :=
  (∀ (i first part : Nat) (f : Frame) (s : State), s.resp.mode = .supervising →
    let u := dropHead .s s
    let gives := fun (code : Nat) (x : Result) =>
      Host.Outcome.next (ρ := Refusal) (φ := Fault) (answered f ⟨code, .ok, none, none, x⟩ u)
    let refused := fun (code : Nat) (c : Cause) =>
      Host.Outcome.next (ρ := Refusal) (φ := Fault) (answered f ⟨code, .refused, some c, none, .none⟩ u)
    let left := fun w : Timer => w.len - (s.clock.ms - w.start).toNat
    let watchLeft := fun w : Option Timer => (w.map left).getD 0
    let owned := fun (k : Nat) (r : StrRec) => str? s k = some r ∧ ∃ n, strNode? s k = some n ∧ n.owner = i
    let never := first < 1 ∨ 40 < first
    let counts := fun r : StrRec => if r.liveness = .silent ∨ r.ageing.frozen = true then 0 else r.ageing.reserve
    (Takes 15 (plainForm 15) f s →
      (24 ≤ i → exec (.readCabinetRecord i) s = refused 15 .badValue) ∧
      (i < 24 → cab? s i = none → exec (.readCabinetRecord i) s = refused 15 .notFound) ∧
      ∀ r, cab? s i = some r → ∃ reserve, exec (.readCabinetRecord i) s = gives 15 (.cabinet r (watchLeft r.watch) reserve) ∧
        ((∀ k x, ¬owned k x) → reserve = 1000) ∧ (∀ k x, owned k x → reserve ≤ counts x) ∧
        ((∃ k x, owned k x) → ∃ k x, owned k x ∧ reserve = counts x)) ∧
    (Takes 16 (plainForm 16) f s →
      (32 ≤ i → exec (.readStringRecord i) s = refused 16 .badValue) ∧
      (i < 32 → str? s i = none → exec (.readStringRecord i) s = refused 16 .notFound) ∧
      ∀ r, str? s i = some r → exec (.readStringRecord i) s =
        gives 16 (.string r.volts r.current r.temps r.serial (watchLeft r.watch) r.liveness
          r.ageing (r.ageing.recovery.map left))) ∧
    (Takes 17 (plainForm 17) f s →
      (32 ≤ i ∨ never → exec (.readStringBlocks i first) s = refused 17 .badValue) ∧
      (i < 32 → ¬never → str? s i = none → exec (.readStringBlocks i first) s = refused 17 .notFound) ∧
      ∀ r, str? s i = some r →
        (r.volts.length < first → exec (.readStringBlocks i first) s = refused 17 .badValue) ∧
        (¬never → first ≤ r.volts.length → exec (.readStringBlocks i first) s = gives 17
          (.blocks (((r.volts.zip (r.ageing.baseline.zip r.ageing.rises)).drop (first - 1)).take 16)))) ∧
    (Takes 18 (ageingReadForm part) f s →
      (32 ≤ i ∨ (part ≠ 1 ∧ part ≠ 2) ∨ (part = 2 ∧ never) →
        exec (.readStringAgeing i part first) s = refused 18 .badValue) ∧
      (i < 32 → part = 1 ∨ (part = 2 ∧ ¬never) → str? s i = none →
        exec (.readStringAgeing i part first) s = refused 18 .notFound) ∧
      ∀ r, str? s i = some r →
        (part = 1 → exec (.readStringAgeing i part first) s = gives 18
          (.ageingRecord { r.ageing with baseline := [], rises := [] } (r.ageing.recovery.map left))) ∧
        (part = 2 → r.volts.length < first → exec (.readStringAgeing i part first) s = refused 18 .badValue) ∧
        (part = 2 → ¬never → first ≤ r.volts.length → exec (.readStringAgeing i part first) s = gives 18
          (.ageingLists ((((r.ageing.baseline.map (min 65535)).zip r.ageing.rises).drop (first - 1)).take 16))))) ∧
  ∃ rise : Nat → List Byte, (∀ n, (rise n).length ≤ 5) ∧ ∀ (seq : Byte) (bs : List (Nat × Nat)), bs.length ≤ 16 →
    (manageReplyFrame seq ⟨18, .ok, none, none, .ageingLists bs⟩).payload =
      [18, 1, 0] ++ (bs.map (fun b => [BitVec.ofNat 8 (b.1 / 256), BitVec.ofNat 8 b.1] ++ rise b.2)).flatten

/-- Read Identity answers with the part code 4120, the design level 1, the mode, the clock and the four counts, and
changes nothing else (R186). -/
def Obligations.ReadIdentityNamesThePart : Prop :=
  ∀ (f : Frame) (s : State), Takes 1 (.exactly []) f s →
    exec .readIdentity s = .next (answered f ⟨1, .ok, none, none, .identity 4120 1 s.resp.mode s.clock.sec s.clock.ms
      (s.resp.dir.toList.countP Option.isSome) (s.seq.plans.toList.countP Option.isSome)
      (s.visits.entries.toList.countP Option.isSome) s.alarm.list.length⟩ (dropHead .s s))

/-- Read Plan and Read Visit (R145, R162) and Read Port Counters (R173): each answers with what stands, with the time
left on its timers, and changes nothing; only the clear of Read Port Counters sets the nine counters of both ports and
the two Tracker counts to 0, and leaves the error scores. That the Force Close pairs of a visit stand in the order they
entered the list is log entry 43. -/
def Obligations.PlanVisitAndCounterReads : Prop :=
  ∀ (n : Nat) (f : Frame) (s : State),
    let u := dropHead .s s
    let gives := fun (code : Nat) (x : Result) (t : State) =>
      Host.Outcome.next (ρ := Refusal) (φ := Fault) (answered f ⟨code, .ok, none, none, x⟩ t)
    let refused := fun (code : Nat) (c : Cause) =>
      Host.Outcome.next (ρ := Refusal) (φ := Fault) (answered f ⟨code, .refused, some c, none, .none⟩ u)
    let left := fun w : Option Timer => w.map (fun w => w.len - (s.clock.ms - w.start).toNat)
    let zero : Counters := ⟨0, 0, 0, 0, 0, 0, 0, 0, 0⟩
    (Takes 26 (plainForm 26) f s → s.resp.mode = .supervising →
      (4 ≤ n → exec (.readPlan n) s = refused 26 .badValue) ∧
      (n < 4 → plan? s n = none → exec (.readPlan n) s = gives 26 (.plan none none none none) u) ∧
      ∀ p, plan? s n = some p → exec (.readPlan n) s = gives 26 (.plan (some p) (left p.settleTimer)
        (left (p.ramp.bind (·.timer))) (left (p.ramp.bind (·.window)))) u) ∧
    (Takes 31 (plainForm 31) f s → s.resp.mode = .supervising →
      (n = 0 → exec (.readVisit n) s =
        gives 31 (.visitSummary ((s.visits.entries.toList.filterMap id).map (fun v => (v.id, v.state)))) u) ∧
      ∀ k v, n ≠ 0 → visitById s n = some (k, v) → exec (.readVisit n) s = gives 31 (.visit v (left v.prepareTimer)
        (left v.durationTimer) (left v.closeTimer) (s.visits.forceClose.filter (fun p => p.2 == n))) u) ∧
    let read : Result := .portCounters s.portS.counters s.portF.counters s.portS.score s.portF.score
      s.tracker.siteExpiries s.tracker.unmatched
    (Takes 32 (.flag false) f s → exec (.readPortCounters false) s = gives 32 read u) ∧
    (Takes 32 (.flag true) f s → exec (.readPortCounters true) s = gives 32 read { u with
      portS := { u.portS with counters := zero }
      portF := { u.portF with counters := zero }
      tracker := { s.tracker with siteExpiries := 0, unmatched := 0 } })

/-- Write Limit Entry (R31, R33, R36): the structural fields and the order of the values, clamped to the range of the
measurement, refuse it; otherwise the old entry's tripped records end, each with the clear of its alarm unless another
occupied and enabled entry with the code holds a tripped record for the subject, the new entry is stored, and its records
are fresh. That those clears go by ascending index is log entry 17. -/
def Obligations.WriteLimitEntryReplacesTheEntry : Prop :=
  ∀ (k : Nat) (r : LimitReq) (f : Frame) (s : State), Takes 8 (plainForm 8) f s →
    let u := dropHead .s s
    let got := exec (.writeLimitEntry k r) s
    let refused := Host.Outcome.next (ρ := Refusal) (φ := Fault) (answered f ⟨8, .refused, some .badValue, none, .none⟩ u)
    (32 ≤ k ∨ Measurement.ofCode r.measurement = none ∨ Direction.ofCode r.direction = none ∨ r.code < 32 ∨ 63 < r.code →
      got = refused) ∧
    ∀ m d, k < 32 → 32 ≤ r.code → r.code ≤ 63 → Measurement.ofCode r.measurement = some m →
      Direction.ofCode r.direction = some d →
      let ofCabinet := m ∈ [.cabLoad, .cabInV, .cabOutV, .cabTemp]
      let range : Int × Int := match m with
        | .cabLoad => (0, 1500)
        | .cabInV => (0, 999)
        | .cabOutV => (0, 999)
        | .cabTemp => (-400, 850)
        | .blockVMin => (0, 65534)
        | .blockVMax => (0, 65534)
        | .blockVSpread => (0, 65534)
        | .stringTemp => (-200, 700)
      let indices := if ofCabinet then 24 else 32
      let known := r.subject = 255 ∨ r.subject < indices
      let trip := max range.1 (min range.2 r.trip)
      let clearAt := max range.1 (min range.2 r.clear)
      let persistence := max 1 (min 15 r.persistence)
      let ordered := (d = .high ∧ clearAt < trip) ∨ (d = .low ∧ trip < clearAt)
      let e : LimitEntry :=
        ⟨m, if r.subject = 255 then .all else .one r.subject, d, trip, clearAt, persistence, r.code, r.enabled⟩
      let status : Status :=
        if trip ≠ r.trip ∨ clearAt ≠ r.clear ∨ persistence ≠ r.persistence then .okClamped else .ok
      (¬known ∨ ¬ordered → got = refused) ∧
      (known → ordered → ∃ t, got = .next (answered f ⟨8, status, none, none, .none⟩ t) ∧
        t.resp = { s.resp with limits := s.resp.limits.setIfInBounds k (some e) } ∧
        t.insp.quiet = s.insp.quiet ∧ t.insp.records = s.insp.records.setIfInBounds k
          (List.replicate (if r.subject = 255 then indices else 1) ⟨0, false⟩) ∧
        (limit? s k = none → t.alarm = s.alarm) ∧
        (∀ old, limit? s k = some old →
          let cabinetOld := old.measurement ∈ [.cabLoad, .cabInV, .cabOutV, .cabTemp]
          let subject := fun i : Nat => if cabinetOld then Subject.cabinet i else Subject.string i
          let tripped := fun i : Nat => ∃ y, limitRec? s k old (subject i) = some y ∧ y.tripped = true
          let held := fun i : Nat => ∃ j x y, j ≠ k ∧ limit? s j = some x ∧ x.enabled = true ∧ x.code = old.code ∧
            limitRec? s j x (subject i) = some y ∧ y.tripped = true
          ∀ is : List Nat, is.Pairwise (· < ·) →
            (∀ i, i ∈ is ↔ i < (if cabinetOld then 24 else 32) ∧ tripped i ∧ ¬held i) →
            t.alarm = (is.foldl (fun x i => clear old.code (subject i) x) s).alarm) ∧
        Only [.resp, .insp, .alarm] u t)

/-- Reset TRAFFIC (R176, R191): the queues, counters, scores and counts of the ports, the site-origin orders and the
two Tracker counts go; LINK_ERRORS is cleared for both ports; every ISSUED plan halts with cause RESET; all else
stands. Which of two commands takes a Reset frame by its kind is log entry 25, and that the plans halt by ascending slot is
log entry 17. Reset FULL (R190): its OK reply stands behind the waiting answers, the transmitter takes those alone and
counts them (log entry 13), no request of any kind and no frame is taken meanwhile, and when the reply's frame has ended,
sent whole or abandoned and counted as every frame is, the full reset is to be taken. -/
def Obligations.ManagementResetsActInOrder : Prop :=
  (∀ (kind : Nat) (f : Frame) (s : State), Takes 33 (.exactly [kind]) f s → kind ≠ 2 →
     let got := exec (.resetTraffic kind) s
     let emptied := fun x : PortState => { x with
       inq := [], fwd := [], counters := ⟨0, 0, 0, 0, 0, 0, 0, 0, 0⟩, score := 0, sound := 0 }
     let issued := fun g : Nat => (plan? s g).any (fun p => p.state == .issued)
     let quiet : State := { s with alarm := { s.alarm with notices := [] } }
     let halts := fun (x : State) (g : Nat) => match plan? s g with
       | some p => if p.state = .issued then queueNotice .planHalted [byteOf p.id, byteOf g, 8, 0, 0, 0]
           (raise codePlanHalted (.group g) (some 8) x) else x
       | none => x
     (kind ≠ 1 → got = .next (answered f ⟨33, .refused, some .badValue, none, .none⟩ (dropHead .s s))) ∧
     (kind = 1 → ∃ t, got = .next (answered f ⟨33, .ok, none, none, .none⟩ t) ∧
       t.portS = emptied s.portS ∧ t.portF = emptied s.portF ∧ t.prio = [] ∧ t.replyQ = [] ∧ t.fwdRun = 0 ∧
       t.tracker = ⟨(s.tracker.orders.filter (fun e => e.origin != .site)).map (fun e =>
         if ∃ g < 4, e.slot = some g ∧ issued g = true then { e with state := .lapsed, window := none } else e), 0, 0⟩ ∧
       t.alarm = ((List.range 4).foldl halts
         (clear codeLinkErrors (.port .f) (clear codeLinkErrors (.port .s) quiet))).alarm ∧
       (∀ g, plan? t g = (plan? s g).map (fun p => if p.state = .issued then { p with
         state := .halted, haltCause := some .reset, haltDetail := none, lateSinceHalt := false, settleTimer := none,
         ramp := p.ramp.map (fun r => { r with timer := none, window := none }) } else p)) ∧
       t.seq.groups = s.seq.groups ∧ t.seq.nextPlan = s.seq.nextPlan ∧ t.seq.nextSeq = s.seq.nextSeq ∧
       Only [.portS, .portF, .prio, .replyQ, .fwdRun, .alarm, .tracker, .seq] s t)) ∧
  (∀ s : State, s.bridge = .opened →
     (∀ f, Takes 33 (.exactly [2]) f s → exec .resetFull s = .next (answered f ⟨33, .ok, none, none, .none⟩
       { dropHead .s s with fullReset := .waiting (s.replyQ.length + 1) })) ∧
     (∀ n f rest, s.fullReset = .waiting n → s.replyQ = f :: rest → s.portS.tx = none →
       exec (.transmitTake .s) s = .next { s with
         replyQ := rest, portS := { s.portS with tx := some ⟨f, s.portS.settings, 0, 0⟩ }
         fullReset := if n ≤ 1 then .sending else .waiting (n - 1) }) ∧
     (s.fullReset ≠ .idle → exec .reportInspection s = .next s ∧ exec .siteOrderJudgement s = .next s ∧
       exec .replyMatch s = .next s ∧ (∀ p, exec (.frameForward p) s = .next s) ∧
       ∀ i, isRequest i = true → exec i s = .next s) ∧
     ∀ x, s.fullReset = .sending → s.portS.tx = some x →
       let y := s.portS
       let counts := y.counters
       (∃ t, exec (.frameSent .s) s = .next t ∧ t.fullReset = .finished ∧ Only [.portS, .fullReset] s t ∧
         t.portS = { y with tx := none, counters := { counts with framesOut := min 65535 (counts.framesOut + 1) } }) ∧
       (x.refusals = 4 → ∃ t, exec (.abandonedTx .s) s = .next t ∧ t.fullReset = .finished ∧
         t.portS = { y with
           tx := none, score := min 255 (y.score + 1)
           counters := { counts with abandonedTx := min 65535 (counts.abandonedTx + 1) } } ∧
         Only [.portS, .fullReset, .alarm] s t))

/-- A MANAGE frame that does not parse is answered BAD_REQUEST under its first byte, or 0 when it has none, and nothing
else changes (R183, R184). A frame parses when some request command's code and fields fit it, and is then no such frame; so
an unknown code, a payload of length 0, a payload shorter or longer than its code's fields, an unknown field identifier, a
named field without its value and a list whose length differs from its own count are answered BAD_REQUEST. What bytes fit
each form of fields; the widths and the identifiers themselves are free values (log entry 3), and which of two commands
takes a Reset or an Accept Replacement is log entry 25. The requests that R185 marks refused in a mode are answered MODE
there, whatever they carry; a request that names a plan or a visit that nothing holds is answered NOT_FOUND. The refused
request changes nothing. -/
def Obligations.BadAndUntimelyRequestsAreRefused : Prop :=
  (∀ (f : Frame) (s : State), s.bridge = .opened → s.fullReset = .idle → s.replyQ.length < 4 → manageHead? s = some f →
     let parses := ∃ i code form, requestForm i = some (code, form) ∧ requestCode f = some code ∧
       form.fits (requestFieldBytes f) = true
     (¬parses → exec .manageBadRequest s =
       .next (answered f ⟨(requestCode f).getD 0, .badRequest, none, none, .none⟩ (dropHead .s s))) ∧
     (parses → exec .manageBadRequest s = .next s) ∧
     (requestCode f = none ∨ (∃ c, requestCode f = some c ∧ (c = 0 ∨ 33 < c)) → ¬parses)) ∧
  (∀ (p : List Byte) (bs : List Nat) (b : Bool) (n width : Nat) (named : List (Byte × Nat)) (counts : List Nat)
       (behind : Nat),
     ((FieldForm.exactly bs).fits p = true ↔ p.map BitVec.toNat = bs) ∧
     ((FieldForm.flag b).fits p = true ↔ ∃ x, p = [x] ∧ (b = true ↔ x ≠ 0)) ∧
     ((FieldForm.sized n).fits p = true ↔ p.length = n) ∧
     ((FieldForm.named n named).fits p = true ↔ ∃ head values, p = head ++
       (List.zipWith (fun (x : Byte × Nat) v => x.1 :: v) named values).flatten ∧
       head.length = n ∧ values.map List.length = named.map Prod.snd) ∧
     ((FieldForm.lists n width counts behind).fits p = true ↔ ∃ front lists back, p = front ++
       (List.zipWith (fun c l => byteOf c :: l) counts lists).flatten ++ back ∧ front.length = n ∧
       lists.map List.length = counts.map (width * ·) ∧ (∀ c ∈ counts, c < 256) ∧ back.length = behind)) ∧
  (∀ (f : Frame) (s : State),
     let refused := fun (c : Cause) (code : Nat) (form : FieldForm) (i : Instr) => Takes code form f s →
       exec i s = .next (answered f ⟨code, .refused, some c, none, .none⟩ (dropHead .s s))
     (s.resp.mode = .supervising →
       (∀ k, refused .mode 3 (plainForm 3) (.clearNodeEntry k)) ∧
       refused .mode 5 (.exactly []) .startSupervision ∧
       (∀ id, planById s id = none → refused .notFound 24 (plainForm 24) (.planResume id) ∧
         refused .notFound 25 (plainForm 25) (.planAbandon id)) ∧
       ∀ id, visitById s id = none → refused .notFound 28 (plainForm 28) (.visitClose id) ∧
         refused .notFound 29 (plainForm 29) (.visitForceClose id) ∧ refused .notFound 30 (plainForm 30) (.visitCancel id) ∧
         (id ≠ 0 → refused .notFound 31 (plainForm 31) (.readVisit id))) ∧
     (s.resp.mode = .unconfigured →
       refused .mode 6 (.exactly []) .stopSupervision ∧
       (∀ k, refused .mode 15 (plainForm 15) (.readCabinetRecord k) ∧ refused .mode 16 (plainForm 16) (.readStringRecord k)) ∧
       (∀ k n, refused .mode 17 (plainForm 17) (.readStringBlocks k n)) ∧
       (∀ k n p, refused .mode 18 (ageingReadForm n) (.readStringAgeing k n p)) ∧
       (∀ k h, refused .mode 19 (restoreForm h) (.stringRestore k h)) ∧
       (∀ k, refused .mode 20 (plainForm 20) (.acceptReplacementSame k)) ∧
       (∀ k c, c ≠ 2 → refused .mode 20 (plainForm 20) (.acceptReplacementNew k c)) ∧
       (∀ c k n, refused .mode 22 (plainForm 22) (.acknowledgeAlarm c k n)) ∧
       (∀ k g c, refused .mode 23 (planForm c) (.planRequest k g c)) ∧
       (∀ r, refused .mode 27 (visitForm r) (.visitOpen r)) ∧
       ∀ id, refused .mode 24 (plainForm 24) (.planResume id) ∧ refused .mode 25 (plainForm 25) (.planAbandon id) ∧
         refused .mode 26 (plainForm 26) (.readPlan id) ∧ refused .mode 28 (plainForm 28) (.visitClose id) ∧
         refused .mode 29 (plainForm 29) (.visitForceClose id) ∧ refused .mode 30 (plainForm 30) (.visitCancel id) ∧
         refused .mode 31 (plainForm 31) (.readVisit id)))

/-! Invariants that every step keeps, from any state that has them. -/

/-- Every step keeps every queue and list that the spec gives places within them: the inbound, forward, reply and Notice
Queues, the Alarm List, the site-origin entries, the one plan-origin entry and the one waiting frame of each plan slot, the
Force Close list, and the forward run and sound-frame counts (R47, R59, R116, R160, R169 to R171, R174). The hand-off lists
are the model's own and have no bound (log entry 5). -/
def Obligations.EveryStepKeepsWithinPlaces : Prop :=
  ∀ s t : State, WithinPlaces s → step s = .next t → WithinPlaces t

/-- Every step keeps the keys of the Alarm List, and those of the site-origin orders, distinct (R47, R116). -/
def Obligations.EveryStepKeepsKeysDistinct : Prop :=
  ∀ s t : State, step s = .next t →
    (AlarmKeysDistinct s → AlarmKeysDistinct t) ∧ (SiteKeysDistinct s → SiteKeysDistinct t)

/-- Every step keeps the rule that the part holds nothing of the floor while UNCONFIGURED (R16, R18, R19). That no hand-off
stands there, since Stop Supervision empties the hand-off lists, is the model's choice (log entry 5). -/
def Obligations.EveryStepKeepsUnconfiguredEmpty : Prop :=
  ∀ s t : State, UnconfiguredHoldsNothing s → step s = .next t → UnconfiguredHoldsNothing t

/-- Every step keeps the scopes of the visits disjoint (R150), each plan in the slot of its group and in a stage of its
kind (R125, R130), and every plan that returns a cabinet to service, with its orders that wait, clear of the visits (R111,
R127, R150; log entry 41). -/
def Obligations.EveryStepKeepsVisitsAndPlansApart : Prop :=
  ∀ s t : State, step s = .next t →
    (VisitsDisjoint s → VisitsDisjoint t) ∧ (PlansInPlace s → PlansInPlace t) ∧
    (UnconfiguredHoldsNothing s → PlansInPlace s → PlansClearOfVisits s → PlansClearOfVisits t)

/-- The state after reset has the invariants. -/
def Obligations.InvariantsHoldAtReset : Prop :=
  WithinPlaces State.reset ∧ AlarmKeysDistinct State.reset ∧ SiteKeysDistinct State.reset ∧
    UnconfiguredHoldsNothing State.reset ∧ VisitsDisjoint State.reset ∧ PlansInPlace State.reset ∧
    PlansClearOfVisits State.reset
end

