-- ==== Sys2Proof/Laws/State.lean ====
section
/-! SUPPORT. One lemma for each field of State under each named update, true by unfolding, so that no later proof unfolds
a record update; and that two updates of one field are the last one. -/

namespace Sys2Proof.Machine

variable (s : State)

@[simp] theorem State.withPending_pending (x : List Instr) : (s.withPending x).pending = x := rfl
@[simp] theorem State.withPending_resetLine (x : List Instr) : (s.withPending x).resetLine = s.resetLine := rfl
@[simp] theorem State.withPending_bridge (x : List Instr) : (s.withPending x).bridge = s.bridge := rfl
@[simp] theorem State.withPending_fullReset (x : List Instr) : (s.withPending x).fullReset = s.fullReset := rfl
@[simp] theorem State.withPending_clock (x : List Instr) : (s.withPending x).clock = s.clock := rfl
@[simp] theorem State.withPending_resp (x : List Instr) : (s.withPending x).resp = s.resp := rfl
@[simp] theorem State.withPending_insp (x : List Instr) : (s.withPending x).insp = s.insp := rfl
@[simp] theorem State.withPending_cabs (x : List Instr) : (s.withPending x).cabs = s.cabs := rfl
@[simp] theorem State.withPending_strs (x : List Instr) : (s.withPending x).strs = s.strs := rfl
@[simp] theorem State.withPending_params (x : List Instr) : (s.withPending x).params = s.params := rfl
@[simp] theorem State.withPending_alarm (x : List Instr) : (s.withPending x).alarm = s.alarm := rfl
@[simp] theorem State.withPending_gate (x : List Instr) : (s.withPending x).gate = s.gate := rfl
@[simp] theorem State.withPending_tracker (x : List Instr) : (s.withPending x).tracker = s.tracker := rfl
@[simp] theorem State.withPending_seq (x : List Instr) : (s.withPending x).seq = s.seq := rfl
@[simp] theorem State.withPending_visits (x : List Instr) : (s.withPending x).visits = s.visits := rfl
@[simp] theorem State.withPending_portS (x : List Instr) : (s.withPending x).portS = s.portS := rfl
@[simp] theorem State.withPending_portF (x : List Instr) : (s.withPending x).portF = s.portF := rfl
@[simp] theorem State.withPending_prio (x : List Instr) : (s.withPending x).prio = s.prio := rfl
@[simp] theorem State.withPending_replyQ (x : List Instr) : (s.withPending x).replyQ = s.replyQ := rfl
@[simp] theorem State.withPending_fwdRun (x : List Instr) : (s.withPending x).fwdRun = s.fwdRun := rfl
@[simp] theorem State.withPending_hand (x : List Instr) : (s.withPending x).hand = s.hand := rfl
@[simp] theorem State.withPending_twice (x y : List Instr) : (s.withPending x).withPending y = s.withPending y := rfl
@[simp] theorem State.withPending_self : s.withPending s.pending = s := rfl

@[simp] theorem State.withResetLine_pending (x : Bool) : (s.withResetLine x).pending = s.pending := rfl
@[simp] theorem State.withResetLine_resetLine (x : Bool) : (s.withResetLine x).resetLine = x := rfl
@[simp] theorem State.withResetLine_bridge (x : Bool) : (s.withResetLine x).bridge = s.bridge := rfl
@[simp] theorem State.withResetLine_fullReset (x : Bool) : (s.withResetLine x).fullReset = s.fullReset := rfl
@[simp] theorem State.withResetLine_clock (x : Bool) : (s.withResetLine x).clock = s.clock := rfl
@[simp] theorem State.withResetLine_resp (x : Bool) : (s.withResetLine x).resp = s.resp := rfl
@[simp] theorem State.withResetLine_insp (x : Bool) : (s.withResetLine x).insp = s.insp := rfl
@[simp] theorem State.withResetLine_cabs (x : Bool) : (s.withResetLine x).cabs = s.cabs := rfl
@[simp] theorem State.withResetLine_strs (x : Bool) : (s.withResetLine x).strs = s.strs := rfl
@[simp] theorem State.withResetLine_params (x : Bool) : (s.withResetLine x).params = s.params := rfl
@[simp] theorem State.withResetLine_alarm (x : Bool) : (s.withResetLine x).alarm = s.alarm := rfl
@[simp] theorem State.withResetLine_gate (x : Bool) : (s.withResetLine x).gate = s.gate := rfl
@[simp] theorem State.withResetLine_tracker (x : Bool) : (s.withResetLine x).tracker = s.tracker := rfl
@[simp] theorem State.withResetLine_seq (x : Bool) : (s.withResetLine x).seq = s.seq := rfl
@[simp] theorem State.withResetLine_visits (x : Bool) : (s.withResetLine x).visits = s.visits := rfl
@[simp] theorem State.withResetLine_portS (x : Bool) : (s.withResetLine x).portS = s.portS := rfl
@[simp] theorem State.withResetLine_portF (x : Bool) : (s.withResetLine x).portF = s.portF := rfl
@[simp] theorem State.withResetLine_prio (x : Bool) : (s.withResetLine x).prio = s.prio := rfl
@[simp] theorem State.withResetLine_replyQ (x : Bool) : (s.withResetLine x).replyQ = s.replyQ := rfl
@[simp] theorem State.withResetLine_fwdRun (x : Bool) : (s.withResetLine x).fwdRun = s.fwdRun := rfl
@[simp] theorem State.withResetLine_hand (x : Bool) : (s.withResetLine x).hand = s.hand := rfl
@[simp] theorem State.withResetLine_twice (x y : Bool) : (s.withResetLine x).withResetLine y = s.withResetLine y := rfl
@[simp] theorem State.withResetLine_self : s.withResetLine s.resetLine = s := rfl

@[simp] theorem State.withBridge_pending (x : Bridge) : (s.withBridge x).pending = s.pending := rfl
@[simp] theorem State.withBridge_resetLine (x : Bridge) : (s.withBridge x).resetLine = s.resetLine := rfl
@[simp] theorem State.withBridge_bridge (x : Bridge) : (s.withBridge x).bridge = x := rfl
@[simp] theorem State.withBridge_fullReset (x : Bridge) : (s.withBridge x).fullReset = s.fullReset := rfl
@[simp] theorem State.withBridge_clock (x : Bridge) : (s.withBridge x).clock = s.clock := rfl
@[simp] theorem State.withBridge_resp (x : Bridge) : (s.withBridge x).resp = s.resp := rfl
@[simp] theorem State.withBridge_insp (x : Bridge) : (s.withBridge x).insp = s.insp := rfl
@[simp] theorem State.withBridge_cabs (x : Bridge) : (s.withBridge x).cabs = s.cabs := rfl
@[simp] theorem State.withBridge_strs (x : Bridge) : (s.withBridge x).strs = s.strs := rfl
@[simp] theorem State.withBridge_params (x : Bridge) : (s.withBridge x).params = s.params := rfl
@[simp] theorem State.withBridge_alarm (x : Bridge) : (s.withBridge x).alarm = s.alarm := rfl
@[simp] theorem State.withBridge_gate (x : Bridge) : (s.withBridge x).gate = s.gate := rfl
@[simp] theorem State.withBridge_tracker (x : Bridge) : (s.withBridge x).tracker = s.tracker := rfl
@[simp] theorem State.withBridge_seq (x : Bridge) : (s.withBridge x).seq = s.seq := rfl
@[simp] theorem State.withBridge_visits (x : Bridge) : (s.withBridge x).visits = s.visits := rfl
@[simp] theorem State.withBridge_portS (x : Bridge) : (s.withBridge x).portS = s.portS := rfl
@[simp] theorem State.withBridge_portF (x : Bridge) : (s.withBridge x).portF = s.portF := rfl
@[simp] theorem State.withBridge_prio (x : Bridge) : (s.withBridge x).prio = s.prio := rfl
@[simp] theorem State.withBridge_replyQ (x : Bridge) : (s.withBridge x).replyQ = s.replyQ := rfl
@[simp] theorem State.withBridge_fwdRun (x : Bridge) : (s.withBridge x).fwdRun = s.fwdRun := rfl
@[simp] theorem State.withBridge_hand (x : Bridge) : (s.withBridge x).hand = s.hand := rfl
@[simp] theorem State.withBridge_twice (x y : Bridge) : (s.withBridge x).withBridge y = s.withBridge y := rfl
@[simp] theorem State.withBridge_self : s.withBridge s.bridge = s := rfl

@[simp] theorem State.withFullReset_pending (x : FullReset) : (s.withFullReset x).pending = s.pending := rfl
@[simp] theorem State.withFullReset_resetLine (x : FullReset) : (s.withFullReset x).resetLine = s.resetLine := rfl
@[simp] theorem State.withFullReset_bridge (x : FullReset) : (s.withFullReset x).bridge = s.bridge := rfl
@[simp] theorem State.withFullReset_fullReset (x : FullReset) : (s.withFullReset x).fullReset = x := rfl
@[simp] theorem State.withFullReset_clock (x : FullReset) : (s.withFullReset x).clock = s.clock := rfl
@[simp] theorem State.withFullReset_resp (x : FullReset) : (s.withFullReset x).resp = s.resp := rfl
@[simp] theorem State.withFullReset_insp (x : FullReset) : (s.withFullReset x).insp = s.insp := rfl
@[simp] theorem State.withFullReset_cabs (x : FullReset) : (s.withFullReset x).cabs = s.cabs := rfl
@[simp] theorem State.withFullReset_strs (x : FullReset) : (s.withFullReset x).strs = s.strs := rfl
@[simp] theorem State.withFullReset_params (x : FullReset) : (s.withFullReset x).params = s.params := rfl
@[simp] theorem State.withFullReset_alarm (x : FullReset) : (s.withFullReset x).alarm = s.alarm := rfl
@[simp] theorem State.withFullReset_gate (x : FullReset) : (s.withFullReset x).gate = s.gate := rfl
@[simp] theorem State.withFullReset_tracker (x : FullReset) : (s.withFullReset x).tracker = s.tracker := rfl
@[simp] theorem State.withFullReset_seq (x : FullReset) : (s.withFullReset x).seq = s.seq := rfl
@[simp] theorem State.withFullReset_visits (x : FullReset) : (s.withFullReset x).visits = s.visits := rfl
@[simp] theorem State.withFullReset_portS (x : FullReset) : (s.withFullReset x).portS = s.portS := rfl
@[simp] theorem State.withFullReset_portF (x : FullReset) : (s.withFullReset x).portF = s.portF := rfl
@[simp] theorem State.withFullReset_prio (x : FullReset) : (s.withFullReset x).prio = s.prio := rfl
@[simp] theorem State.withFullReset_replyQ (x : FullReset) : (s.withFullReset x).replyQ = s.replyQ := rfl
@[simp] theorem State.withFullReset_fwdRun (x : FullReset) : (s.withFullReset x).fwdRun = s.fwdRun := rfl
@[simp] theorem State.withFullReset_hand (x : FullReset) : (s.withFullReset x).hand = s.hand := rfl
@[simp] theorem State.withFullReset_twice (x y : FullReset) : (s.withFullReset x).withFullReset y = s.withFullReset y := rfl
@[simp] theorem State.withFullReset_self : s.withFullReset s.fullReset = s := rfl

@[simp] theorem State.withClock_pending (x : FloorClock) : (s.withClock x).pending = s.pending := rfl
@[simp] theorem State.withClock_resetLine (x : FloorClock) : (s.withClock x).resetLine = s.resetLine := rfl
@[simp] theorem State.withClock_bridge (x : FloorClock) : (s.withClock x).bridge = s.bridge := rfl
@[simp] theorem State.withClock_fullReset (x : FloorClock) : (s.withClock x).fullReset = s.fullReset := rfl
@[simp] theorem State.withClock_clock (x : FloorClock) : (s.withClock x).clock = x := rfl
@[simp] theorem State.withClock_resp (x : FloorClock) : (s.withClock x).resp = s.resp := rfl
@[simp] theorem State.withClock_insp (x : FloorClock) : (s.withClock x).insp = s.insp := rfl
@[simp] theorem State.withClock_cabs (x : FloorClock) : (s.withClock x).cabs = s.cabs := rfl
@[simp] theorem State.withClock_strs (x : FloorClock) : (s.withClock x).strs = s.strs := rfl
@[simp] theorem State.withClock_params (x : FloorClock) : (s.withClock x).params = s.params := rfl
@[simp] theorem State.withClock_alarm (x : FloorClock) : (s.withClock x).alarm = s.alarm := rfl
@[simp] theorem State.withClock_gate (x : FloorClock) : (s.withClock x).gate = s.gate := rfl
@[simp] theorem State.withClock_tracker (x : FloorClock) : (s.withClock x).tracker = s.tracker := rfl
@[simp] theorem State.withClock_seq (x : FloorClock) : (s.withClock x).seq = s.seq := rfl
@[simp] theorem State.withClock_visits (x : FloorClock) : (s.withClock x).visits = s.visits := rfl
@[simp] theorem State.withClock_portS (x : FloorClock) : (s.withClock x).portS = s.portS := rfl
@[simp] theorem State.withClock_portF (x : FloorClock) : (s.withClock x).portF = s.portF := rfl
@[simp] theorem State.withClock_prio (x : FloorClock) : (s.withClock x).prio = s.prio := rfl
@[simp] theorem State.withClock_replyQ (x : FloorClock) : (s.withClock x).replyQ = s.replyQ := rfl
@[simp] theorem State.withClock_fwdRun (x : FloorClock) : (s.withClock x).fwdRun = s.fwdRun := rfl
@[simp] theorem State.withClock_hand (x : FloorClock) : (s.withClock x).hand = s.hand := rfl
@[simp] theorem State.withClock_twice (x y : FloorClock) : (s.withClock x).withClock y = s.withClock y := rfl
@[simp] theorem State.withClock_self : s.withClock s.clock = s := rfl

@[simp] theorem State.withResp_pending (x : Responder) : (s.withResp x).pending = s.pending := rfl
@[simp] theorem State.withResp_resetLine (x : Responder) : (s.withResp x).resetLine = s.resetLine := rfl
@[simp] theorem State.withResp_bridge (x : Responder) : (s.withResp x).bridge = s.bridge := rfl
@[simp] theorem State.withResp_fullReset (x : Responder) : (s.withResp x).fullReset = s.fullReset := rfl
@[simp] theorem State.withResp_clock (x : Responder) : (s.withResp x).clock = s.clock := rfl
@[simp] theorem State.withResp_resp (x : Responder) : (s.withResp x).resp = x := rfl
@[simp] theorem State.withResp_insp (x : Responder) : (s.withResp x).insp = s.insp := rfl
@[simp] theorem State.withResp_cabs (x : Responder) : (s.withResp x).cabs = s.cabs := rfl
@[simp] theorem State.withResp_strs (x : Responder) : (s.withResp x).strs = s.strs := rfl
@[simp] theorem State.withResp_params (x : Responder) : (s.withResp x).params = s.params := rfl
@[simp] theorem State.withResp_alarm (x : Responder) : (s.withResp x).alarm = s.alarm := rfl
@[simp] theorem State.withResp_gate (x : Responder) : (s.withResp x).gate = s.gate := rfl
@[simp] theorem State.withResp_tracker (x : Responder) : (s.withResp x).tracker = s.tracker := rfl
@[simp] theorem State.withResp_seq (x : Responder) : (s.withResp x).seq = s.seq := rfl
@[simp] theorem State.withResp_visits (x : Responder) : (s.withResp x).visits = s.visits := rfl
@[simp] theorem State.withResp_portS (x : Responder) : (s.withResp x).portS = s.portS := rfl
@[simp] theorem State.withResp_portF (x : Responder) : (s.withResp x).portF = s.portF := rfl
@[simp] theorem State.withResp_prio (x : Responder) : (s.withResp x).prio = s.prio := rfl
@[simp] theorem State.withResp_replyQ (x : Responder) : (s.withResp x).replyQ = s.replyQ := rfl
@[simp] theorem State.withResp_fwdRun (x : Responder) : (s.withResp x).fwdRun = s.fwdRun := rfl
@[simp] theorem State.withResp_hand (x : Responder) : (s.withResp x).hand = s.hand := rfl
@[simp] theorem State.withResp_twice (x y : Responder) : (s.withResp x).withResp y = s.withResp y := rfl
@[simp] theorem State.withResp_self : s.withResp s.resp = s := rfl

@[simp] theorem State.withInsp_pending (x : Inspector) : (s.withInsp x).pending = s.pending := rfl
@[simp] theorem State.withInsp_resetLine (x : Inspector) : (s.withInsp x).resetLine = s.resetLine := rfl
@[simp] theorem State.withInsp_bridge (x : Inspector) : (s.withInsp x).bridge = s.bridge := rfl
@[simp] theorem State.withInsp_fullReset (x : Inspector) : (s.withInsp x).fullReset = s.fullReset := rfl
@[simp] theorem State.withInsp_clock (x : Inspector) : (s.withInsp x).clock = s.clock := rfl
@[simp] theorem State.withInsp_resp (x : Inspector) : (s.withInsp x).resp = s.resp := rfl
@[simp] theorem State.withInsp_insp (x : Inspector) : (s.withInsp x).insp = x := rfl
@[simp] theorem State.withInsp_cabs (x : Inspector) : (s.withInsp x).cabs = s.cabs := rfl
@[simp] theorem State.withInsp_strs (x : Inspector) : (s.withInsp x).strs = s.strs := rfl
@[simp] theorem State.withInsp_params (x : Inspector) : (s.withInsp x).params = s.params := rfl
@[simp] theorem State.withInsp_alarm (x : Inspector) : (s.withInsp x).alarm = s.alarm := rfl
@[simp] theorem State.withInsp_gate (x : Inspector) : (s.withInsp x).gate = s.gate := rfl
@[simp] theorem State.withInsp_tracker (x : Inspector) : (s.withInsp x).tracker = s.tracker := rfl
@[simp] theorem State.withInsp_seq (x : Inspector) : (s.withInsp x).seq = s.seq := rfl
@[simp] theorem State.withInsp_visits (x : Inspector) : (s.withInsp x).visits = s.visits := rfl
@[simp] theorem State.withInsp_portS (x : Inspector) : (s.withInsp x).portS = s.portS := rfl
@[simp] theorem State.withInsp_portF (x : Inspector) : (s.withInsp x).portF = s.portF := rfl
@[simp] theorem State.withInsp_prio (x : Inspector) : (s.withInsp x).prio = s.prio := rfl
@[simp] theorem State.withInsp_replyQ (x : Inspector) : (s.withInsp x).replyQ = s.replyQ := rfl
@[simp] theorem State.withInsp_fwdRun (x : Inspector) : (s.withInsp x).fwdRun = s.fwdRun := rfl
@[simp] theorem State.withInsp_hand (x : Inspector) : (s.withInsp x).hand = s.hand := rfl
@[simp] theorem State.withInsp_twice (x y : Inspector) : (s.withInsp x).withInsp y = s.withInsp y := rfl
@[simp] theorem State.withInsp_self : s.withInsp s.insp = s := rfl

@[simp] theorem State.withCabs_pending (x : Vector (Option CabRec) 24) : (s.withCabs x).pending = s.pending := rfl
@[simp] theorem State.withCabs_resetLine (x : Vector (Option CabRec) 24) : (s.withCabs x).resetLine = s.resetLine := rfl
@[simp] theorem State.withCabs_bridge (x : Vector (Option CabRec) 24) : (s.withCabs x).bridge = s.bridge := rfl
@[simp] theorem State.withCabs_fullReset (x : Vector (Option CabRec) 24) : (s.withCabs x).fullReset = s.fullReset := rfl
@[simp] theorem State.withCabs_clock (x : Vector (Option CabRec) 24) : (s.withCabs x).clock = s.clock := rfl
@[simp] theorem State.withCabs_resp (x : Vector (Option CabRec) 24) : (s.withCabs x).resp = s.resp := rfl
@[simp] theorem State.withCabs_insp (x : Vector (Option CabRec) 24) : (s.withCabs x).insp = s.insp := rfl
@[simp] theorem State.withCabs_cabs (x : Vector (Option CabRec) 24) : (s.withCabs x).cabs = x := rfl
@[simp] theorem State.withCabs_strs (x : Vector (Option CabRec) 24) : (s.withCabs x).strs = s.strs := rfl
@[simp] theorem State.withCabs_params (x : Vector (Option CabRec) 24) : (s.withCabs x).params = s.params := rfl
@[simp] theorem State.withCabs_alarm (x : Vector (Option CabRec) 24) : (s.withCabs x).alarm = s.alarm := rfl
@[simp] theorem State.withCabs_gate (x : Vector (Option CabRec) 24) : (s.withCabs x).gate = s.gate := rfl
@[simp] theorem State.withCabs_tracker (x : Vector (Option CabRec) 24) : (s.withCabs x).tracker = s.tracker := rfl
@[simp] theorem State.withCabs_seq (x : Vector (Option CabRec) 24) : (s.withCabs x).seq = s.seq := rfl
@[simp] theorem State.withCabs_visits (x : Vector (Option CabRec) 24) : (s.withCabs x).visits = s.visits := rfl
@[simp] theorem State.withCabs_portS (x : Vector (Option CabRec) 24) : (s.withCabs x).portS = s.portS := rfl
@[simp] theorem State.withCabs_portF (x : Vector (Option CabRec) 24) : (s.withCabs x).portF = s.portF := rfl
@[simp] theorem State.withCabs_prio (x : Vector (Option CabRec) 24) : (s.withCabs x).prio = s.prio := rfl
@[simp] theorem State.withCabs_replyQ (x : Vector (Option CabRec) 24) : (s.withCabs x).replyQ = s.replyQ := rfl
@[simp] theorem State.withCabs_fwdRun (x : Vector (Option CabRec) 24) : (s.withCabs x).fwdRun = s.fwdRun := rfl
@[simp] theorem State.withCabs_hand (x : Vector (Option CabRec) 24) : (s.withCabs x).hand = s.hand := rfl
@[simp] theorem State.withCabs_twice (x y : Vector (Option CabRec) 24) : (s.withCabs x).withCabs y = s.withCabs y := rfl
@[simp] theorem State.withCabs_self : s.withCabs s.cabs = s := rfl

@[simp] theorem State.withStrs_pending (x : Vector (Option StrRec) 32) : (s.withStrs x).pending = s.pending := rfl
@[simp] theorem State.withStrs_resetLine (x : Vector (Option StrRec) 32) : (s.withStrs x).resetLine = s.resetLine := rfl
@[simp] theorem State.withStrs_bridge (x : Vector (Option StrRec) 32) : (s.withStrs x).bridge = s.bridge := rfl
@[simp] theorem State.withStrs_fullReset (x : Vector (Option StrRec) 32) : (s.withStrs x).fullReset = s.fullReset := rfl
@[simp] theorem State.withStrs_clock (x : Vector (Option StrRec) 32) : (s.withStrs x).clock = s.clock := rfl
@[simp] theorem State.withStrs_resp (x : Vector (Option StrRec) 32) : (s.withStrs x).resp = s.resp := rfl
@[simp] theorem State.withStrs_insp (x : Vector (Option StrRec) 32) : (s.withStrs x).insp = s.insp := rfl
@[simp] theorem State.withStrs_cabs (x : Vector (Option StrRec) 32) : (s.withStrs x).cabs = s.cabs := rfl
@[simp] theorem State.withStrs_strs (x : Vector (Option StrRec) 32) : (s.withStrs x).strs = x := rfl
@[simp] theorem State.withStrs_params (x : Vector (Option StrRec) 32) : (s.withStrs x).params = s.params := rfl
@[simp] theorem State.withStrs_alarm (x : Vector (Option StrRec) 32) : (s.withStrs x).alarm = s.alarm := rfl
@[simp] theorem State.withStrs_gate (x : Vector (Option StrRec) 32) : (s.withStrs x).gate = s.gate := rfl
@[simp] theorem State.withStrs_tracker (x : Vector (Option StrRec) 32) : (s.withStrs x).tracker = s.tracker := rfl
@[simp] theorem State.withStrs_seq (x : Vector (Option StrRec) 32) : (s.withStrs x).seq = s.seq := rfl
@[simp] theorem State.withStrs_visits (x : Vector (Option StrRec) 32) : (s.withStrs x).visits = s.visits := rfl
@[simp] theorem State.withStrs_portS (x : Vector (Option StrRec) 32) : (s.withStrs x).portS = s.portS := rfl
@[simp] theorem State.withStrs_portF (x : Vector (Option StrRec) 32) : (s.withStrs x).portF = s.portF := rfl
@[simp] theorem State.withStrs_prio (x : Vector (Option StrRec) 32) : (s.withStrs x).prio = s.prio := rfl
@[simp] theorem State.withStrs_replyQ (x : Vector (Option StrRec) 32) : (s.withStrs x).replyQ = s.replyQ := rfl
@[simp] theorem State.withStrs_fwdRun (x : Vector (Option StrRec) 32) : (s.withStrs x).fwdRun = s.fwdRun := rfl
@[simp] theorem State.withStrs_hand (x : Vector (Option StrRec) 32) : (s.withStrs x).hand = s.hand := rfl
@[simp] theorem State.withStrs_twice (x y : Vector (Option StrRec) 32) : (s.withStrs x).withStrs y = s.withStrs y := rfl
@[simp] theorem State.withStrs_self : s.withStrs s.strs = s := rfl

@[simp] theorem State.withParams_pending (x : ParamSets) : (s.withParams x).pending = s.pending := rfl
@[simp] theorem State.withParams_resetLine (x : ParamSets) : (s.withParams x).resetLine = s.resetLine := rfl
@[simp] theorem State.withParams_bridge (x : ParamSets) : (s.withParams x).bridge = s.bridge := rfl
@[simp] theorem State.withParams_fullReset (x : ParamSets) : (s.withParams x).fullReset = s.fullReset := rfl
@[simp] theorem State.withParams_clock (x : ParamSets) : (s.withParams x).clock = s.clock := rfl
@[simp] theorem State.withParams_resp (x : ParamSets) : (s.withParams x).resp = s.resp := rfl
@[simp] theorem State.withParams_insp (x : ParamSets) : (s.withParams x).insp = s.insp := rfl
@[simp] theorem State.withParams_cabs (x : ParamSets) : (s.withParams x).cabs = s.cabs := rfl
@[simp] theorem State.withParams_strs (x : ParamSets) : (s.withParams x).strs = s.strs := rfl
@[simp] theorem State.withParams_params (x : ParamSets) : (s.withParams x).params = x := rfl
@[simp] theorem State.withParams_alarm (x : ParamSets) : (s.withParams x).alarm = s.alarm := rfl
@[simp] theorem State.withParams_gate (x : ParamSets) : (s.withParams x).gate = s.gate := rfl
@[simp] theorem State.withParams_tracker (x : ParamSets) : (s.withParams x).tracker = s.tracker := rfl
@[simp] theorem State.withParams_seq (x : ParamSets) : (s.withParams x).seq = s.seq := rfl
@[simp] theorem State.withParams_visits (x : ParamSets) : (s.withParams x).visits = s.visits := rfl
@[simp] theorem State.withParams_portS (x : ParamSets) : (s.withParams x).portS = s.portS := rfl
@[simp] theorem State.withParams_portF (x : ParamSets) : (s.withParams x).portF = s.portF := rfl
@[simp] theorem State.withParams_prio (x : ParamSets) : (s.withParams x).prio = s.prio := rfl
@[simp] theorem State.withParams_replyQ (x : ParamSets) : (s.withParams x).replyQ = s.replyQ := rfl
@[simp] theorem State.withParams_fwdRun (x : ParamSets) : (s.withParams x).fwdRun = s.fwdRun := rfl
@[simp] theorem State.withParams_hand (x : ParamSets) : (s.withParams x).hand = s.hand := rfl
@[simp] theorem State.withParams_twice (x y : ParamSets) : (s.withParams x).withParams y = s.withParams y := rfl
@[simp] theorem State.withParams_self : s.withParams s.params = s := rfl

@[simp] theorem State.withAlarm_pending (x : AlarmUnit) : (s.withAlarm x).pending = s.pending := rfl
@[simp] theorem State.withAlarm_resetLine (x : AlarmUnit) : (s.withAlarm x).resetLine = s.resetLine := rfl
@[simp] theorem State.withAlarm_bridge (x : AlarmUnit) : (s.withAlarm x).bridge = s.bridge := rfl
@[simp] theorem State.withAlarm_fullReset (x : AlarmUnit) : (s.withAlarm x).fullReset = s.fullReset := rfl
@[simp] theorem State.withAlarm_clock (x : AlarmUnit) : (s.withAlarm x).clock = s.clock := rfl
@[simp] theorem State.withAlarm_resp (x : AlarmUnit) : (s.withAlarm x).resp = s.resp := rfl
@[simp] theorem State.withAlarm_insp (x : AlarmUnit) : (s.withAlarm x).insp = s.insp := rfl
@[simp] theorem State.withAlarm_cabs (x : AlarmUnit) : (s.withAlarm x).cabs = s.cabs := rfl
@[simp] theorem State.withAlarm_strs (x : AlarmUnit) : (s.withAlarm x).strs = s.strs := rfl
@[simp] theorem State.withAlarm_params (x : AlarmUnit) : (s.withAlarm x).params = s.params := rfl
@[simp] theorem State.withAlarm_alarm (x : AlarmUnit) : (s.withAlarm x).alarm = x := rfl
@[simp] theorem State.withAlarm_gate (x : AlarmUnit) : (s.withAlarm x).gate = s.gate := rfl
@[simp] theorem State.withAlarm_tracker (x : AlarmUnit) : (s.withAlarm x).tracker = s.tracker := rfl
@[simp] theorem State.withAlarm_seq (x : AlarmUnit) : (s.withAlarm x).seq = s.seq := rfl
@[simp] theorem State.withAlarm_visits (x : AlarmUnit) : (s.withAlarm x).visits = s.visits := rfl
@[simp] theorem State.withAlarm_portS (x : AlarmUnit) : (s.withAlarm x).portS = s.portS := rfl
@[simp] theorem State.withAlarm_portF (x : AlarmUnit) : (s.withAlarm x).portF = s.portF := rfl
@[simp] theorem State.withAlarm_prio (x : AlarmUnit) : (s.withAlarm x).prio = s.prio := rfl
@[simp] theorem State.withAlarm_replyQ (x : AlarmUnit) : (s.withAlarm x).replyQ = s.replyQ := rfl
@[simp] theorem State.withAlarm_fwdRun (x : AlarmUnit) : (s.withAlarm x).fwdRun = s.fwdRun := rfl
@[simp] theorem State.withAlarm_hand (x : AlarmUnit) : (s.withAlarm x).hand = s.hand := rfl
@[simp] theorem State.withAlarm_twice (x y : AlarmUnit) : (s.withAlarm x).withAlarm y = s.withAlarm y := rfl
@[simp] theorem State.withAlarm_self : s.withAlarm s.alarm = s := rfl

@[simp] theorem State.withGate_pending (x : Vector GateClass 13) : (s.withGate x).pending = s.pending := rfl
@[simp] theorem State.withGate_resetLine (x : Vector GateClass 13) : (s.withGate x).resetLine = s.resetLine := rfl
@[simp] theorem State.withGate_bridge (x : Vector GateClass 13) : (s.withGate x).bridge = s.bridge := rfl
@[simp] theorem State.withGate_fullReset (x : Vector GateClass 13) : (s.withGate x).fullReset = s.fullReset := rfl
@[simp] theorem State.withGate_clock (x : Vector GateClass 13) : (s.withGate x).clock = s.clock := rfl
@[simp] theorem State.withGate_resp (x : Vector GateClass 13) : (s.withGate x).resp = s.resp := rfl
@[simp] theorem State.withGate_insp (x : Vector GateClass 13) : (s.withGate x).insp = s.insp := rfl
@[simp] theorem State.withGate_cabs (x : Vector GateClass 13) : (s.withGate x).cabs = s.cabs := rfl
@[simp] theorem State.withGate_strs (x : Vector GateClass 13) : (s.withGate x).strs = s.strs := rfl
@[simp] theorem State.withGate_params (x : Vector GateClass 13) : (s.withGate x).params = s.params := rfl
@[simp] theorem State.withGate_alarm (x : Vector GateClass 13) : (s.withGate x).alarm = s.alarm := rfl
@[simp] theorem State.withGate_gate (x : Vector GateClass 13) : (s.withGate x).gate = x := rfl
@[simp] theorem State.withGate_tracker (x : Vector GateClass 13) : (s.withGate x).tracker = s.tracker := rfl
@[simp] theorem State.withGate_seq (x : Vector GateClass 13) : (s.withGate x).seq = s.seq := rfl
@[simp] theorem State.withGate_visits (x : Vector GateClass 13) : (s.withGate x).visits = s.visits := rfl
@[simp] theorem State.withGate_portS (x : Vector GateClass 13) : (s.withGate x).portS = s.portS := rfl
@[simp] theorem State.withGate_portF (x : Vector GateClass 13) : (s.withGate x).portF = s.portF := rfl
@[simp] theorem State.withGate_prio (x : Vector GateClass 13) : (s.withGate x).prio = s.prio := rfl
@[simp] theorem State.withGate_replyQ (x : Vector GateClass 13) : (s.withGate x).replyQ = s.replyQ := rfl
@[simp] theorem State.withGate_fwdRun (x : Vector GateClass 13) : (s.withGate x).fwdRun = s.fwdRun := rfl
@[simp] theorem State.withGate_hand (x : Vector GateClass 13) : (s.withGate x).hand = s.hand := rfl
@[simp] theorem State.withGate_twice (x y : Vector GateClass 13) : (s.withGate x).withGate y = s.withGate y := rfl
@[simp] theorem State.withGate_self : s.withGate s.gate = s := rfl

@[simp] theorem State.withTracker_pending (x : Tracker) : (s.withTracker x).pending = s.pending := rfl
@[simp] theorem State.withTracker_resetLine (x : Tracker) : (s.withTracker x).resetLine = s.resetLine := rfl
@[simp] theorem State.withTracker_bridge (x : Tracker) : (s.withTracker x).bridge = s.bridge := rfl
@[simp] theorem State.withTracker_fullReset (x : Tracker) : (s.withTracker x).fullReset = s.fullReset := rfl
@[simp] theorem State.withTracker_clock (x : Tracker) : (s.withTracker x).clock = s.clock := rfl
@[simp] theorem State.withTracker_resp (x : Tracker) : (s.withTracker x).resp = s.resp := rfl
@[simp] theorem State.withTracker_insp (x : Tracker) : (s.withTracker x).insp = s.insp := rfl
@[simp] theorem State.withTracker_cabs (x : Tracker) : (s.withTracker x).cabs = s.cabs := rfl
@[simp] theorem State.withTracker_strs (x : Tracker) : (s.withTracker x).strs = s.strs := rfl
@[simp] theorem State.withTracker_params (x : Tracker) : (s.withTracker x).params = s.params := rfl
@[simp] theorem State.withTracker_alarm (x : Tracker) : (s.withTracker x).alarm = s.alarm := rfl
@[simp] theorem State.withTracker_gate (x : Tracker) : (s.withTracker x).gate = s.gate := rfl
@[simp] theorem State.withTracker_tracker (x : Tracker) : (s.withTracker x).tracker = x := rfl
@[simp] theorem State.withTracker_seq (x : Tracker) : (s.withTracker x).seq = s.seq := rfl
@[simp] theorem State.withTracker_visits (x : Tracker) : (s.withTracker x).visits = s.visits := rfl
@[simp] theorem State.withTracker_portS (x : Tracker) : (s.withTracker x).portS = s.portS := rfl
@[simp] theorem State.withTracker_portF (x : Tracker) : (s.withTracker x).portF = s.portF := rfl
@[simp] theorem State.withTracker_prio (x : Tracker) : (s.withTracker x).prio = s.prio := rfl
@[simp] theorem State.withTracker_replyQ (x : Tracker) : (s.withTracker x).replyQ = s.replyQ := rfl
@[simp] theorem State.withTracker_fwdRun (x : Tracker) : (s.withTracker x).fwdRun = s.fwdRun := rfl
@[simp] theorem State.withTracker_hand (x : Tracker) : (s.withTracker x).hand = s.hand := rfl
@[simp] theorem State.withTracker_twice (x y : Tracker) : (s.withTracker x).withTracker y = s.withTracker y := rfl
@[simp] theorem State.withTracker_self : s.withTracker s.tracker = s := rfl

@[simp] theorem State.withSeq_pending (x : Sequencer) : (s.withSeq x).pending = s.pending := rfl
@[simp] theorem State.withSeq_resetLine (x : Sequencer) : (s.withSeq x).resetLine = s.resetLine := rfl
@[simp] theorem State.withSeq_bridge (x : Sequencer) : (s.withSeq x).bridge = s.bridge := rfl
@[simp] theorem State.withSeq_fullReset (x : Sequencer) : (s.withSeq x).fullReset = s.fullReset := rfl
@[simp] theorem State.withSeq_clock (x : Sequencer) : (s.withSeq x).clock = s.clock := rfl
@[simp] theorem State.withSeq_resp (x : Sequencer) : (s.withSeq x).resp = s.resp := rfl
@[simp] theorem State.withSeq_insp (x : Sequencer) : (s.withSeq x).insp = s.insp := rfl
@[simp] theorem State.withSeq_cabs (x : Sequencer) : (s.withSeq x).cabs = s.cabs := rfl
@[simp] theorem State.withSeq_strs (x : Sequencer) : (s.withSeq x).strs = s.strs := rfl
@[simp] theorem State.withSeq_params (x : Sequencer) : (s.withSeq x).params = s.params := rfl
@[simp] theorem State.withSeq_alarm (x : Sequencer) : (s.withSeq x).alarm = s.alarm := rfl
@[simp] theorem State.withSeq_gate (x : Sequencer) : (s.withSeq x).gate = s.gate := rfl
@[simp] theorem State.withSeq_tracker (x : Sequencer) : (s.withSeq x).tracker = s.tracker := rfl
@[simp] theorem State.withSeq_seq (x : Sequencer) : (s.withSeq x).seq = x := rfl
@[simp] theorem State.withSeq_visits (x : Sequencer) : (s.withSeq x).visits = s.visits := rfl
@[simp] theorem State.withSeq_portS (x : Sequencer) : (s.withSeq x).portS = s.portS := rfl
@[simp] theorem State.withSeq_portF (x : Sequencer) : (s.withSeq x).portF = s.portF := rfl
@[simp] theorem State.withSeq_prio (x : Sequencer) : (s.withSeq x).prio = s.prio := rfl
@[simp] theorem State.withSeq_replyQ (x : Sequencer) : (s.withSeq x).replyQ = s.replyQ := rfl
@[simp] theorem State.withSeq_fwdRun (x : Sequencer) : (s.withSeq x).fwdRun = s.fwdRun := rfl
@[simp] theorem State.withSeq_hand (x : Sequencer) : (s.withSeq x).hand = s.hand := rfl
@[simp] theorem State.withSeq_twice (x y : Sequencer) : (s.withSeq x).withSeq y = s.withSeq y := rfl
@[simp] theorem State.withSeq_self : s.withSeq s.seq = s := rfl

@[simp] theorem State.withVisits_pending (x : VisitRegister) : (s.withVisits x).pending = s.pending := rfl
@[simp] theorem State.withVisits_resetLine (x : VisitRegister) : (s.withVisits x).resetLine = s.resetLine := rfl
@[simp] theorem State.withVisits_bridge (x : VisitRegister) : (s.withVisits x).bridge = s.bridge := rfl
@[simp] theorem State.withVisits_fullReset (x : VisitRegister) : (s.withVisits x).fullReset = s.fullReset := rfl
@[simp] theorem State.withVisits_clock (x : VisitRegister) : (s.withVisits x).clock = s.clock := rfl
@[simp] theorem State.withVisits_resp (x : VisitRegister) : (s.withVisits x).resp = s.resp := rfl
@[simp] theorem State.withVisits_insp (x : VisitRegister) : (s.withVisits x).insp = s.insp := rfl
@[simp] theorem State.withVisits_cabs (x : VisitRegister) : (s.withVisits x).cabs = s.cabs := rfl
@[simp] theorem State.withVisits_strs (x : VisitRegister) : (s.withVisits x).strs = s.strs := rfl
@[simp] theorem State.withVisits_params (x : VisitRegister) : (s.withVisits x).params = s.params := rfl
@[simp] theorem State.withVisits_alarm (x : VisitRegister) : (s.withVisits x).alarm = s.alarm := rfl
@[simp] theorem State.withVisits_gate (x : VisitRegister) : (s.withVisits x).gate = s.gate := rfl
@[simp] theorem State.withVisits_tracker (x : VisitRegister) : (s.withVisits x).tracker = s.tracker := rfl
@[simp] theorem State.withVisits_seq (x : VisitRegister) : (s.withVisits x).seq = s.seq := rfl
@[simp] theorem State.withVisits_visits (x : VisitRegister) : (s.withVisits x).visits = x := rfl
@[simp] theorem State.withVisits_portS (x : VisitRegister) : (s.withVisits x).portS = s.portS := rfl
@[simp] theorem State.withVisits_portF (x : VisitRegister) : (s.withVisits x).portF = s.portF := rfl
@[simp] theorem State.withVisits_prio (x : VisitRegister) : (s.withVisits x).prio = s.prio := rfl
@[simp] theorem State.withVisits_replyQ (x : VisitRegister) : (s.withVisits x).replyQ = s.replyQ := rfl
@[simp] theorem State.withVisits_fwdRun (x : VisitRegister) : (s.withVisits x).fwdRun = s.fwdRun := rfl
@[simp] theorem State.withVisits_hand (x : VisitRegister) : (s.withVisits x).hand = s.hand := rfl
@[simp] theorem State.withVisits_twice (x y : VisitRegister) : (s.withVisits x).withVisits y = s.withVisits y := rfl
@[simp] theorem State.withVisits_self : s.withVisits s.visits = s := rfl

@[simp] theorem State.withPortS_pending (x : PortState) : (s.withPortS x).pending = s.pending := rfl
@[simp] theorem State.withPortS_resetLine (x : PortState) : (s.withPortS x).resetLine = s.resetLine := rfl
@[simp] theorem State.withPortS_bridge (x : PortState) : (s.withPortS x).bridge = s.bridge := rfl
@[simp] theorem State.withPortS_fullReset (x : PortState) : (s.withPortS x).fullReset = s.fullReset := rfl
@[simp] theorem State.withPortS_clock (x : PortState) : (s.withPortS x).clock = s.clock := rfl
@[simp] theorem State.withPortS_resp (x : PortState) : (s.withPortS x).resp = s.resp := rfl
@[simp] theorem State.withPortS_insp (x : PortState) : (s.withPortS x).insp = s.insp := rfl
@[simp] theorem State.withPortS_cabs (x : PortState) : (s.withPortS x).cabs = s.cabs := rfl
@[simp] theorem State.withPortS_strs (x : PortState) : (s.withPortS x).strs = s.strs := rfl
@[simp] theorem State.withPortS_params (x : PortState) : (s.withPortS x).params = s.params := rfl
@[simp] theorem State.withPortS_alarm (x : PortState) : (s.withPortS x).alarm = s.alarm := rfl
@[simp] theorem State.withPortS_gate (x : PortState) : (s.withPortS x).gate = s.gate := rfl
@[simp] theorem State.withPortS_tracker (x : PortState) : (s.withPortS x).tracker = s.tracker := rfl
@[simp] theorem State.withPortS_seq (x : PortState) : (s.withPortS x).seq = s.seq := rfl
@[simp] theorem State.withPortS_visits (x : PortState) : (s.withPortS x).visits = s.visits := rfl
@[simp] theorem State.withPortS_portS (x : PortState) : (s.withPortS x).portS = x := rfl
@[simp] theorem State.withPortS_portF (x : PortState) : (s.withPortS x).portF = s.portF := rfl
@[simp] theorem State.withPortS_prio (x : PortState) : (s.withPortS x).prio = s.prio := rfl
@[simp] theorem State.withPortS_replyQ (x : PortState) : (s.withPortS x).replyQ = s.replyQ := rfl
@[simp] theorem State.withPortS_fwdRun (x : PortState) : (s.withPortS x).fwdRun = s.fwdRun := rfl
@[simp] theorem State.withPortS_hand (x : PortState) : (s.withPortS x).hand = s.hand := rfl
@[simp] theorem State.withPortS_twice (x y : PortState) : (s.withPortS x).withPortS y = s.withPortS y := rfl
@[simp] theorem State.withPortS_self : s.withPortS s.portS = s := rfl

@[simp] theorem State.withPortF_pending (x : PortState) : (s.withPortF x).pending = s.pending := rfl
@[simp] theorem State.withPortF_resetLine (x : PortState) : (s.withPortF x).resetLine = s.resetLine := rfl
@[simp] theorem State.withPortF_bridge (x : PortState) : (s.withPortF x).bridge = s.bridge := rfl
@[simp] theorem State.withPortF_fullReset (x : PortState) : (s.withPortF x).fullReset = s.fullReset := rfl
@[simp] theorem State.withPortF_clock (x : PortState) : (s.withPortF x).clock = s.clock := rfl
@[simp] theorem State.withPortF_resp (x : PortState) : (s.withPortF x).resp = s.resp := rfl
@[simp] theorem State.withPortF_insp (x : PortState) : (s.withPortF x).insp = s.insp := rfl
@[simp] theorem State.withPortF_cabs (x : PortState) : (s.withPortF x).cabs = s.cabs := rfl
@[simp] theorem State.withPortF_strs (x : PortState) : (s.withPortF x).strs = s.strs := rfl
@[simp] theorem State.withPortF_params (x : PortState) : (s.withPortF x).params = s.params := rfl
@[simp] theorem State.withPortF_alarm (x : PortState) : (s.withPortF x).alarm = s.alarm := rfl
@[simp] theorem State.withPortF_gate (x : PortState) : (s.withPortF x).gate = s.gate := rfl
@[simp] theorem State.withPortF_tracker (x : PortState) : (s.withPortF x).tracker = s.tracker := rfl
@[simp] theorem State.withPortF_seq (x : PortState) : (s.withPortF x).seq = s.seq := rfl
@[simp] theorem State.withPortF_visits (x : PortState) : (s.withPortF x).visits = s.visits := rfl
@[simp] theorem State.withPortF_portS (x : PortState) : (s.withPortF x).portS = s.portS := rfl
@[simp] theorem State.withPortF_portF (x : PortState) : (s.withPortF x).portF = x := rfl
@[simp] theorem State.withPortF_prio (x : PortState) : (s.withPortF x).prio = s.prio := rfl
@[simp] theorem State.withPortF_replyQ (x : PortState) : (s.withPortF x).replyQ = s.replyQ := rfl
@[simp] theorem State.withPortF_fwdRun (x : PortState) : (s.withPortF x).fwdRun = s.fwdRun := rfl
@[simp] theorem State.withPortF_hand (x : PortState) : (s.withPortF x).hand = s.hand := rfl
@[simp] theorem State.withPortF_twice (x y : PortState) : (s.withPortF x).withPortF y = s.withPortF y := rfl
@[simp] theorem State.withPortF_self : s.withPortF s.portF = s := rfl

@[simp] theorem State.withPrio_pending (x : List PrioFrame) : (s.withPrio x).pending = s.pending := rfl
@[simp] theorem State.withPrio_resetLine (x : List PrioFrame) : (s.withPrio x).resetLine = s.resetLine := rfl
@[simp] theorem State.withPrio_bridge (x : List PrioFrame) : (s.withPrio x).bridge = s.bridge := rfl
@[simp] theorem State.withPrio_fullReset (x : List PrioFrame) : (s.withPrio x).fullReset = s.fullReset := rfl
@[simp] theorem State.withPrio_clock (x : List PrioFrame) : (s.withPrio x).clock = s.clock := rfl
@[simp] theorem State.withPrio_resp (x : List PrioFrame) : (s.withPrio x).resp = s.resp := rfl
@[simp] theorem State.withPrio_insp (x : List PrioFrame) : (s.withPrio x).insp = s.insp := rfl
@[simp] theorem State.withPrio_cabs (x : List PrioFrame) : (s.withPrio x).cabs = s.cabs := rfl
@[simp] theorem State.withPrio_strs (x : List PrioFrame) : (s.withPrio x).strs = s.strs := rfl
@[simp] theorem State.withPrio_params (x : List PrioFrame) : (s.withPrio x).params = s.params := rfl
@[simp] theorem State.withPrio_alarm (x : List PrioFrame) : (s.withPrio x).alarm = s.alarm := rfl
@[simp] theorem State.withPrio_gate (x : List PrioFrame) : (s.withPrio x).gate = s.gate := rfl
@[simp] theorem State.withPrio_tracker (x : List PrioFrame) : (s.withPrio x).tracker = s.tracker := rfl
@[simp] theorem State.withPrio_seq (x : List PrioFrame) : (s.withPrio x).seq = s.seq := rfl
@[simp] theorem State.withPrio_visits (x : List PrioFrame) : (s.withPrio x).visits = s.visits := rfl
@[simp] theorem State.withPrio_portS (x : List PrioFrame) : (s.withPrio x).portS = s.portS := rfl
@[simp] theorem State.withPrio_portF (x : List PrioFrame) : (s.withPrio x).portF = s.portF := rfl
@[simp] theorem State.withPrio_prio (x : List PrioFrame) : (s.withPrio x).prio = x := rfl
@[simp] theorem State.withPrio_replyQ (x : List PrioFrame) : (s.withPrio x).replyQ = s.replyQ := rfl
@[simp] theorem State.withPrio_fwdRun (x : List PrioFrame) : (s.withPrio x).fwdRun = s.fwdRun := rfl
@[simp] theorem State.withPrio_hand (x : List PrioFrame) : (s.withPrio x).hand = s.hand := rfl
@[simp] theorem State.withPrio_twice (x y : List PrioFrame) : (s.withPrio x).withPrio y = s.withPrio y := rfl
@[simp] theorem State.withPrio_self : s.withPrio s.prio = s := rfl

@[simp] theorem State.withReplyQ_pending (x : List Frame) : (s.withReplyQ x).pending = s.pending := rfl
@[simp] theorem State.withReplyQ_resetLine (x : List Frame) : (s.withReplyQ x).resetLine = s.resetLine := rfl
@[simp] theorem State.withReplyQ_bridge (x : List Frame) : (s.withReplyQ x).bridge = s.bridge := rfl
@[simp] theorem State.withReplyQ_fullReset (x : List Frame) : (s.withReplyQ x).fullReset = s.fullReset := rfl
@[simp] theorem State.withReplyQ_clock (x : List Frame) : (s.withReplyQ x).clock = s.clock := rfl
@[simp] theorem State.withReplyQ_resp (x : List Frame) : (s.withReplyQ x).resp = s.resp := rfl
@[simp] theorem State.withReplyQ_insp (x : List Frame) : (s.withReplyQ x).insp = s.insp := rfl
@[simp] theorem State.withReplyQ_cabs (x : List Frame) : (s.withReplyQ x).cabs = s.cabs := rfl
@[simp] theorem State.withReplyQ_strs (x : List Frame) : (s.withReplyQ x).strs = s.strs := rfl
@[simp] theorem State.withReplyQ_params (x : List Frame) : (s.withReplyQ x).params = s.params := rfl
@[simp] theorem State.withReplyQ_alarm (x : List Frame) : (s.withReplyQ x).alarm = s.alarm := rfl
@[simp] theorem State.withReplyQ_gate (x : List Frame) : (s.withReplyQ x).gate = s.gate := rfl
@[simp] theorem State.withReplyQ_tracker (x : List Frame) : (s.withReplyQ x).tracker = s.tracker := rfl
@[simp] theorem State.withReplyQ_seq (x : List Frame) : (s.withReplyQ x).seq = s.seq := rfl
@[simp] theorem State.withReplyQ_visits (x : List Frame) : (s.withReplyQ x).visits = s.visits := rfl
@[simp] theorem State.withReplyQ_portS (x : List Frame) : (s.withReplyQ x).portS = s.portS := rfl
@[simp] theorem State.withReplyQ_portF (x : List Frame) : (s.withReplyQ x).portF = s.portF := rfl
@[simp] theorem State.withReplyQ_prio (x : List Frame) : (s.withReplyQ x).prio = s.prio := rfl
@[simp] theorem State.withReplyQ_replyQ (x : List Frame) : (s.withReplyQ x).replyQ = x := rfl
@[simp] theorem State.withReplyQ_fwdRun (x : List Frame) : (s.withReplyQ x).fwdRun = s.fwdRun := rfl
@[simp] theorem State.withReplyQ_hand (x : List Frame) : (s.withReplyQ x).hand = s.hand := rfl
@[simp] theorem State.withReplyQ_twice (x y : List Frame) : (s.withReplyQ x).withReplyQ y = s.withReplyQ y := rfl
@[simp] theorem State.withReplyQ_self : s.withReplyQ s.replyQ = s := rfl

@[simp] theorem State.withFwdRun_pending (x : Nat) : (s.withFwdRun x).pending = s.pending := rfl
@[simp] theorem State.withFwdRun_resetLine (x : Nat) : (s.withFwdRun x).resetLine = s.resetLine := rfl
@[simp] theorem State.withFwdRun_bridge (x : Nat) : (s.withFwdRun x).bridge = s.bridge := rfl
@[simp] theorem State.withFwdRun_fullReset (x : Nat) : (s.withFwdRun x).fullReset = s.fullReset := rfl
@[simp] theorem State.withFwdRun_clock (x : Nat) : (s.withFwdRun x).clock = s.clock := rfl
@[simp] theorem State.withFwdRun_resp (x : Nat) : (s.withFwdRun x).resp = s.resp := rfl
@[simp] theorem State.withFwdRun_insp (x : Nat) : (s.withFwdRun x).insp = s.insp := rfl
@[simp] theorem State.withFwdRun_cabs (x : Nat) : (s.withFwdRun x).cabs = s.cabs := rfl
@[simp] theorem State.withFwdRun_strs (x : Nat) : (s.withFwdRun x).strs = s.strs := rfl
@[simp] theorem State.withFwdRun_params (x : Nat) : (s.withFwdRun x).params = s.params := rfl
@[simp] theorem State.withFwdRun_alarm (x : Nat) : (s.withFwdRun x).alarm = s.alarm := rfl
@[simp] theorem State.withFwdRun_gate (x : Nat) : (s.withFwdRun x).gate = s.gate := rfl
@[simp] theorem State.withFwdRun_tracker (x : Nat) : (s.withFwdRun x).tracker = s.tracker := rfl
@[simp] theorem State.withFwdRun_seq (x : Nat) : (s.withFwdRun x).seq = s.seq := rfl
@[simp] theorem State.withFwdRun_visits (x : Nat) : (s.withFwdRun x).visits = s.visits := rfl
@[simp] theorem State.withFwdRun_portS (x : Nat) : (s.withFwdRun x).portS = s.portS := rfl
@[simp] theorem State.withFwdRun_portF (x : Nat) : (s.withFwdRun x).portF = s.portF := rfl
@[simp] theorem State.withFwdRun_prio (x : Nat) : (s.withFwdRun x).prio = s.prio := rfl
@[simp] theorem State.withFwdRun_replyQ (x : Nat) : (s.withFwdRun x).replyQ = s.replyQ := rfl
@[simp] theorem State.withFwdRun_fwdRun (x : Nat) : (s.withFwdRun x).fwdRun = x := rfl
@[simp] theorem State.withFwdRun_hand (x : Nat) : (s.withFwdRun x).hand = s.hand := rfl
@[simp] theorem State.withFwdRun_twice (x y : Nat) : (s.withFwdRun x).withFwdRun y = s.withFwdRun y := rfl
@[simp] theorem State.withFwdRun_self : s.withFwdRun s.fwdRun = s := rfl

@[simp] theorem State.withHand_pending (x : HandOffs) : (s.withHand x).pending = s.pending := rfl
@[simp] theorem State.withHand_resetLine (x : HandOffs) : (s.withHand x).resetLine = s.resetLine := rfl
@[simp] theorem State.withHand_bridge (x : HandOffs) : (s.withHand x).bridge = s.bridge := rfl
@[simp] theorem State.withHand_fullReset (x : HandOffs) : (s.withHand x).fullReset = s.fullReset := rfl
@[simp] theorem State.withHand_clock (x : HandOffs) : (s.withHand x).clock = s.clock := rfl
@[simp] theorem State.withHand_resp (x : HandOffs) : (s.withHand x).resp = s.resp := rfl
@[simp] theorem State.withHand_insp (x : HandOffs) : (s.withHand x).insp = s.insp := rfl
@[simp] theorem State.withHand_cabs (x : HandOffs) : (s.withHand x).cabs = s.cabs := rfl
@[simp] theorem State.withHand_strs (x : HandOffs) : (s.withHand x).strs = s.strs := rfl
@[simp] theorem State.withHand_params (x : HandOffs) : (s.withHand x).params = s.params := rfl
@[simp] theorem State.withHand_alarm (x : HandOffs) : (s.withHand x).alarm = s.alarm := rfl
@[simp] theorem State.withHand_gate (x : HandOffs) : (s.withHand x).gate = s.gate := rfl
@[simp] theorem State.withHand_tracker (x : HandOffs) : (s.withHand x).tracker = s.tracker := rfl
@[simp] theorem State.withHand_seq (x : HandOffs) : (s.withHand x).seq = s.seq := rfl
@[simp] theorem State.withHand_visits (x : HandOffs) : (s.withHand x).visits = s.visits := rfl
@[simp] theorem State.withHand_portS (x : HandOffs) : (s.withHand x).portS = s.portS := rfl
@[simp] theorem State.withHand_portF (x : HandOffs) : (s.withHand x).portF = s.portF := rfl
@[simp] theorem State.withHand_prio (x : HandOffs) : (s.withHand x).prio = s.prio := rfl
@[simp] theorem State.withHand_replyQ (x : HandOffs) : (s.withHand x).replyQ = s.replyQ := rfl
@[simp] theorem State.withHand_fwdRun (x : HandOffs) : (s.withHand x).fwdRun = s.fwdRun := rfl
@[simp] theorem State.withHand_hand (x : HandOffs) : (s.withHand x).hand = x := rfl
@[simp] theorem State.withHand_twice (x y : HandOffs) : (s.withHand x).withHand y = s.withHand y := rfl
@[simp] theorem State.withHand_self : s.withHand s.hand = s := rfl

end Sys2Proof.Machine
end

