-- ==== Sys2Proof/Laws/Frames.lean ====
section
/-! SUPPORT. Frames: for each operation of the model, which components of State it may change. -/

namespace Sys2Proof.Machine

theorem Only.refl (fs : List Field) (s : State) : Only fs s s := by
  constructor; intro f _; cases f <;> rfl

theorem same_trans {f : Field} {s t u : State} (h : State.same f s t) (k : State.same f t u) : State.same f s u := by
  cases f <;> exact Eq.trans k h

theorem Only.trans {fs : List Field} {s t u : State} (h : Only fs s t) (k : Only fs t u) : Only fs s u :=
  ⟨fun f hf => same_trans (h.same f hf) (k.same f hf)⟩

theorem Only.mono {fs gs : List Field} {s t : State} (h : Only fs s t) (sub : fs ⊆ gs) : Only gs s t :=
  ⟨fun f hf => h.same f (fun hm => hf (sub hm))⟩

theorem Only.foldl {α : Type} {fs : List Field} {g : State → α → State} (h : ∀ s a, Only fs s (g s a)) (l : List α)
    (s : State) : Only fs s (l.foldl g s) := by
  induction l generalizing s with
  | nil => exact Only.refl fs s
  | cons a l ih => exact (h s a).trans (ih (g s a))

theorem Only.ite {fs : List Field} {s t u : State} {c : Prop} [Decidable c] (h : Only fs s t) (k : Only fs s u) :
    Only fs s (if c then t else u) := by
  split <;> assumption

theorem only_withPending (s : State) (x) : Only [.pending] s (s.withPending x) := by
  constructor; intro f h; cases f <;> first | rfl | simp at h

theorem only_withResetLine (s : State) (x) : Only [.resetLine] s (s.withResetLine x) := by
  constructor; intro f h; cases f <;> first | rfl | simp at h

theorem only_withBridge (s : State) (x) : Only [.bridge] s (s.withBridge x) := by
  constructor; intro f h; cases f <;> first | rfl | simp at h

theorem only_withFullReset (s : State) (x) : Only [.fullReset] s (s.withFullReset x) := by
  constructor; intro f h; cases f <;> first | rfl | simp at h

theorem only_withClock (s : State) (x) : Only [.clock] s (s.withClock x) := by
  constructor; intro f h; cases f <;> first | rfl | simp at h

theorem only_withResp (s : State) (x) : Only [.resp] s (s.withResp x) := by
  constructor; intro f h; cases f <;> first | rfl | simp at h

theorem only_withInsp (s : State) (x) : Only [.insp] s (s.withInsp x) := by
  constructor; intro f h; cases f <;> first | rfl | simp at h

theorem only_withCabs (s : State) (x) : Only [.cabs] s (s.withCabs x) := by
  constructor; intro f h; cases f <;> first | rfl | simp at h

theorem only_withStrs (s : State) (x) : Only [.strs] s (s.withStrs x) := by
  constructor; intro f h; cases f <;> first | rfl | simp at h

theorem only_withParams (s : State) (x) : Only [.params] s (s.withParams x) := by
  constructor; intro f h; cases f <;> first | rfl | simp at h

theorem only_withAlarm (s : State) (x) : Only [.alarm] s (s.withAlarm x) := by
  constructor; intro f h; cases f <;> first | rfl | simp at h

theorem only_withGate (s : State) (x) : Only [.gate] s (s.withGate x) := by
  constructor; intro f h; cases f <;> first | rfl | simp at h

theorem only_withTracker (s : State) (x) : Only [.tracker] s (s.withTracker x) := by
  constructor; intro f h; cases f <;> first | rfl | simp at h

theorem only_withSeq (s : State) (x) : Only [.seq] s (s.withSeq x) := by
  constructor; intro f h; cases f <;> first | rfl | simp at h

theorem only_withVisits (s : State) (x) : Only [.visits] s (s.withVisits x) := by
  constructor; intro f h; cases f <;> first | rfl | simp at h

theorem only_withPortS (s : State) (x) : Only [.portS] s (s.withPortS x) := by
  constructor; intro f h; cases f <;> first | rfl | simp at h

theorem only_withPortF (s : State) (x) : Only [.portF] s (s.withPortF x) := by
  constructor; intro f h; cases f <;> first | rfl | simp at h

theorem only_withPrio (s : State) (x) : Only [.prio] s (s.withPrio x) := by
  constructor; intro f h; cases f <;> first | rfl | simp at h

theorem only_withReplyQ (s : State) (x) : Only [.replyQ] s (s.withReplyQ x) := by
  constructor; intro f h; cases f <;> first | rfl | simp at h

theorem only_withFwdRun (s : State) (x) : Only [.fwdRun] s (s.withFwdRun x) := by
  constructor; intro f h; cases f <;> first | rfl | simp at h

theorem only_withHand (s : State) (x) : Only [.hand] s (s.withHand x) := by
  constructor; intro f h; cases f <;> first | rfl | simp at h

/-! What the blocks' operations do to the alarms, the site orders and the priority queue, beside their frame. -/

/-- How the Alarm Unit can have come from one state to another by raises, clears, notices, unshelvings and removals. -/
inductive AlarmActs : AlarmUnit → AlarmUnit → Prop where
  | refl (a : AlarmUnit) : AlarmActs a a
  | raise (a : AlarmUnit) (sec : Word32) (sh : Bool) (c : Nat) (sub : Subject) (d : Option Word32) :
    AlarmActs a (a.raise sec sh c sub d)
  | clear (a : AlarmUnit) (sec : Word32) (c : Nat) (sub : Subject) : AlarmActs a (a.clear sec c sub)
  | notice (a : AlarmUnit) (sec : Word32) (k : NoticeKind) (b : List Byte) : AlarmActs a (a.notice sec k b)
  | unshelve (a : AlarmUnit) (sec : Word32) (v : Nat) (cs is : List Nat) : AlarmActs a (a.unshelve sec v cs is)
  | shrink (a b : AlarmUnit) (h : b.list.Sublist a.list) (k : b.notices.length ≤ a.notices.length) : AlarmActs a b
  | relabel (a b : AlarmUnit) (h : b.list.map (fun e => (e.code, e.subject)) = a.list.map (fun e => (e.code, e.subject)))
      (k : b.notices = a.notices) : AlarmActs a b
  | trans {a b c : AlarmUnit} (h : AlarmActs a b) (k : AlarmActs b c) : AlarmActs a c

/-- What an operation that accepts no new site order may do: it changes the components of a list alone, acts on the
alarms by raises, clears, notices, unshelvings and removals, adds no site-origin entry, and keeps one place a slot in
the priority queue. -/
structure Moves (fs : List Field) (s t : State) : Prop where
  only : Only fs s t
  acts : AlarmActs s.alarm t.alarm
  keys : (siteKeys t).Sublist (siteKeys s)
  prio : PrioInPlace s → PrioInPlace t

theorem Moves.refl (fs : List Field) (s : State) : Moves fs s s := ⟨Only.refl fs s, .refl _, .refl _, id⟩

theorem Moves.trans {fs : List Field} {s t u : State} (h : Moves fs s t) (k : Moves fs t u) : Moves fs s u :=
  ⟨h.only.trans k.only, h.acts.trans k.acts, k.keys.trans h.keys, fun p => k.prio (h.prio p)⟩

theorem Moves.mono {fs gs : List Field} {s t : State} (h : Moves fs s t) (sub : fs ⊆ gs) : Moves gs s t :=
  ⟨h.only.mono sub, h.acts, h.keys, h.prio⟩

theorem Moves.foldl {α : Type} {fs : List Field} {g : State → α → State} (h : ∀ s a, Moves fs s (g s a)) (l : List α)
    (s : State) : Moves fs s (l.foldl g s) := by
  induction l generalizing s with
  | nil => exact Moves.refl fs s
  | cons a l ih => exact (h s a).trans (ih (g s a))

theorem Moves.ite {fs : List Field} {s t u : State} {c : Prop} [Decidable c] (h : Moves fs s t) (k : Moves fs s u) :
    Moves fs s (if c then t else u) := by
  split <;> assumption

/-- A change of the alarms that is one of their acts. -/
theorem moves_withAlarm (s : State) (x : AlarmUnit) (h : AlarmActs s.alarm x) : Moves [.alarm] s (s.withAlarm x) :=
  ⟨only_withAlarm s x, h, .refl _, id⟩

/-- A change of the orders that adds no site-origin entry. -/
theorem moves_withTracker (s : State) (x : Tracker) (h : (siteKeys (s.withTracker x)).Sublist (siteKeys s)) :
    Moves [.tracker] s (s.withTracker x) := ⟨only_withTracker s x, .refl _, h, id⟩

/-- A change of the priority queue that keeps one place a slot. -/
theorem moves_withPrio (s : State) (x : List PrioFrame) (h : PrioInPlace s → PrioInPlace (s.withPrio x)) :
    Moves [.prio] s (s.withPrio x) := ⟨only_withPrio s x, .refl _, .refl _, h⟩

theorem moves_withPending (s : State) (x) : Moves [.pending] s (s.withPending x) := ⟨only_withPending s x, .refl _, .refl _, id⟩

theorem moves_withResetLine (s : State) (x) : Moves [.resetLine] s (s.withResetLine x) := ⟨only_withResetLine s x, .refl _, .refl _, id⟩

theorem moves_withBridge (s : State) (x) : Moves [.bridge] s (s.withBridge x) := ⟨only_withBridge s x, .refl _, .refl _, id⟩

theorem moves_withFullReset (s : State) (x) : Moves [.fullReset] s (s.withFullReset x) := ⟨only_withFullReset s x, .refl _, .refl _, id⟩

theorem moves_withClock (s : State) (x) : Moves [.clock] s (s.withClock x) := ⟨only_withClock s x, .refl _, .refl _, id⟩

theorem moves_withResp (s : State) (x) : Moves [.resp] s (s.withResp x) := ⟨only_withResp s x, .refl _, .refl _, id⟩

theorem moves_withInsp (s : State) (x) : Moves [.insp] s (s.withInsp x) := ⟨only_withInsp s x, .refl _, .refl _, id⟩

theorem moves_withCabs (s : State) (x) : Moves [.cabs] s (s.withCabs x) := ⟨only_withCabs s x, .refl _, .refl _, id⟩

theorem moves_withStrs (s : State) (x) : Moves [.strs] s (s.withStrs x) := ⟨only_withStrs s x, .refl _, .refl _, id⟩

theorem moves_withParams (s : State) (x) : Moves [.params] s (s.withParams x) := ⟨only_withParams s x, .refl _, .refl _, id⟩

theorem moves_withGate (s : State) (x) : Moves [.gate] s (s.withGate x) := ⟨only_withGate s x, .refl _, .refl _, id⟩

theorem moves_withSeq (s : State) (x) : Moves [.seq] s (s.withSeq x) := ⟨only_withSeq s x, .refl _, .refl _, id⟩

theorem moves_withVisits (s : State) (x) : Moves [.visits] s (s.withVisits x) := ⟨only_withVisits s x, .refl _, .refl _, id⟩

theorem moves_withPortS (s : State) (x) : Moves [.portS] s (s.withPortS x) := ⟨only_withPortS s x, .refl _, .refl _, id⟩

theorem moves_withPortF (s : State) (x) : Moves [.portF] s (s.withPortF x) := ⟨only_withPortF s x, .refl _, .refl _, id⟩

theorem moves_withReplyQ (s : State) (x) : Moves [.replyQ] s (s.withReplyQ x) := ⟨only_withReplyQ s x, .refl _, .refl _, id⟩

theorem moves_withFwdRun (s : State) (x) : Moves [.fwdRun] s (s.withFwdRun x) := ⟨only_withFwdRun s x, .refl _, .refl _, id⟩

theorem moves_withHand (s : State) (x) : Moves [.hand] s (s.withHand x) := ⟨only_withHand s x, .refl _, .refl _, id⟩

end Sys2Proof.Machine
end

