-- ==== Sys2Proof/Laws/BlockFrames.lean ====
section
/-! SUPPORT. Frames of the blocks' operations: the components of State each may change, said once. -/

namespace Sys2Proof.Machine

/-! Alarm Unit. -/

theorem raise_moves (c : Nat) (sub : Subject) (d : Option Word32) (s : State) : Moves [.alarm] s (raise c sub d s) :=
  moves_withAlarm s _ (.raise ..)

theorem clear_moves (c : Nat) (sub : Subject) (s : State) : Moves [.alarm] s (clear c sub s) :=
  moves_withAlarm s _ (.clear ..)

theorem raiseOrClear_moves (b : Bool) (c : Nat) (sub : Subject) (d : Option Word32) (s : State) :
    Moves [.alarm] s (raiseOrClear b c sub d s) := Moves.ite (raise_moves ..) (clear_moves ..)

theorem queueNotice_moves (k : NoticeKind) (b : List Byte) (s : State) : Moves [.alarm] s (queueNotice k b s) :=
  moves_withAlarm s _ (.notice ..)

theorem unshelveScopes_moves (v : Nat) (cs is : List Nat) (s : State) : Moves [.alarm] s (unshelveScopes v cs is s) :=
  moves_withAlarm s _ (.unshelve ..)

/-! Tables, queues and lists. -/

theorem setCab_moves (s : State) (c : Nat) (r : CabRec) : Moves [.cabs] s (setCab s c r) := moves_withCabs s _

theorem modCab_moves (c : Nat) (f : CabRec → CabRec) (s : State) : Moves [.cabs] s (modCab c f s) := by
  unfold modCab; split
  · exact setCab_moves ..
  · exact Moves.refl ..

theorem setStr_moves (s : State) (i : Nat) (r : StrRec) : Moves [.strs] s (setStr s i r) := moves_withStrs s _

theorem modStr_moves (i : Nat) (f : StrRec → StrRec) (s : State) : Moves [.strs] s (modStr i f s) := by
  unfold modStr; split
  · exact setStr_moves ..
  · exact Moves.refl ..

theorem modAge_moves (i : Nat) (f : Ageing → Ageing) (s : State) : Moves [.strs] s (modAge i f s) := modStr_moves ..

theorem setPlan_moves (g : Nat) (p : Option Plan) (s : State) : Moves [.seq] s (setPlan g p s) := moves_withSeq s _

theorem modPlan_moves (g : Nat) (f : Plan → Plan) (s : State) : Moves [.seq] s (modPlan g f s) := by
  unfold modPlan; split
  · exact setPlan_moves ..
  · exact Moves.refl ..

theorem withPort_moves (s : State) (p : Port) (x : PortState) : Moves [portField p] s (s.withPort p x) := by
  cases p
  · exact moves_withPortS s x
  · exact moves_withPortF s x

theorem modPort_moves (p : Port) (f : PortState → PortState) (s : State) : Moves [portField p] s (modPort p f s) :=
  withPort_moves ..

theorem enqueueForward_moves (p : Port) (f : Frame) (s : State) : Moves [portField p] s (enqueueForward p f s) :=
  modPort_moves ..

theorem dropHead_moves (p : Port) (s : State) : Moves [portField p] s (dropHead p s) := modPort_moves ..

theorem enqueueReply_moves (f : Frame) (s : State) : Moves [.replyQ] s (enqueueReply f s) := moves_withReplyQ s _

theorem siteKeys_setOrders (l : List OrderEntry) (s : State) :
    siteKeys (setOrders l s) = (l.filter (fun e => e.origin == .site)).map (·.key) := rfl

theorem setOrders_moves (l : List OrderEntry) (s : State)
    (h : ((l.filter (fun e => e.origin == .site)).map (·.key)).Sublist (siteKeys s)) :
    Moves [.tracker] s (setOrders l s) := moves_withTracker s _ h

/-- Entries changed without their keys leave the keys of the site-origin entries as they were. -/
theorem site_keys_map (f : OrderEntry → OrderEntry) (h : ∀ e, (f e).key = e.key) (l : List OrderEntry) :
    ((l.map f).filter (fun e => e.origin == .site)).map (·.key) =
      (l.filter (fun e => e.origin == .site)).map (·.key) := by
  have ho : ∀ e, (f e).origin = e.origin := fun e => congrArg OrderKey.origin (h e)
  induction l with
  | nil => rfl
  | cons e l ih =>
    simp only [List.map_cons, List.filter_cons, ho]
    split
    · simp [h, ih]
    · exact ih

theorem mapOrders_moves (f : OrderEntry → OrderEntry) (h : ∀ e, (f e).key = e.key) (s : State) :
    Moves [.tracker] s (setOrders (s.tracker.orders.map f) s) :=
  setOrders_moves _ s (by rw [site_keys_map f h]; exact .refl _)

theorem filterOrders_moves (p : OrderEntry → Bool) (s : State) :
    Moves [.tracker] s (setOrders (s.tracker.orders.filter p) s) :=
  setOrders_moves _ s ((((List.filter_sublist).filter _).map _))

theorem removeOrder_moves (k : OrderKey) (s : State) : Moves [.tracker] s (removeOrder k s) := filterOrders_moves _ s

theorem modOrder_moves (k : OrderKey) (f : OrderEntry → OrderEntry) (h : ∀ e, (f e).key = e.key) (s : State) :
    Moves [.tracker] s (modOrder k f s) :=
  mapOrders_moves _ (fun e => by split <;> simp [h]) s

theorem scoreUp_moves (p : Port) (s : State) : Moves [portField p, .alarm] s (scoreUp p s) := by
  unfold scoreUp
  exact Moves.ite (((withPort_moves s p _).mono (by simp)).trans ((raise_moves ..).mono (by simp)))  ((withPort_moves s p
    _).mono (by simp))

theorem soundFrame_moves (p : Port) (s : State) : Moves [portField p, .alarm] s (soundFrame p s) := by
  unfold soundFrame
  refine Moves.ite ((withPort_moves s p _).mono (by simp)) (Moves.ite ?_ ((withPort_moves s p _).mono (by simp)))
  exact ((withPort_moves s p _).mono (by simp)).trans ((clear_moves ..).mono (by simp))

/-! Transfer Sequencer. -/

theorem lapseSlot_moves (g : Nat) (s : State) : Moves [.tracker] s (lapseSlot g s) :=
  mapOrders_moves _ (fun e => by split <;> rfl) s

theorem removeSlotOrder_moves (g : Nat) (s : State) : Moves [.tracker] s (removeSlotOrder g s) :=
  filterOrders_moves _ s

theorem dropPrio_moves (g : Nat) (s : State) : Moves [.prio] s (dropPrio g s) :=
  moves_withPrio s _ (fun h => ⟨h.1.sublist (List.filter_sublist.map _), fun x hx => h.2 x (List.mem_of_mem_filter hx)⟩)

theorem placePrio_moves (g : Nat) (f : Frame) (s : State) (hg : g < 4) : Moves [.prio] s (placePrio g f s) := by
  refine moves_withPrio s _ (fun h => ⟨?_, ?_⟩)
  · simp only [State.withPrio_prio, List.map_append, List.map_cons, List.map_nil, List.nodup_append]
    refine ⟨h.1.sublist (List.filter_sublist.map _), by simp, ?_⟩
    intro a ha b hb hab
    simp only [List.mem_map, List.mem_filter] at ha
    obtain ⟨x, ⟨_, hx⟩, rfl⟩ := ha
    simp_all
  · intro x hx
    simp only [State.withPrio_prio, List.mem_append, List.mem_filter, List.mem_singleton] at hx
    rcases hx with ⟨hx, _⟩ | rfl
    · exact h.2 x hx
    · exact hg

/-- A slot that holds a plan is one of the four. -/
theorem plan?_lt {s : State} {g : Nat} {p : Plan} (h : plan? s g = some p) : g < 4 := by
  unfold plan? at h
  by_contra hg
  rw [Vector.getElem?_eq_none (by omega)] at h
  cases h

theorem haltPlan_moves (g : Nat) (c : HaltCause) (d : Option Nat) (s : State) : Moves planFields s (haltPlan g c d s) := by
  unfold haltPlan; split
  · exact ((setPlan_moves ..).mono (by decide)).trans (((lapseSlot_moves ..).mono (by decide)).trans
      (((dropPrio_moves ..).mono (by decide)).trans (((raise_moves ..).mono (by decide)).trans
        ((queueNotice_moves ..).mono (by decide)))))
  · exact Moves.refl ..

/-- A plan's entry added to the orders adds no site-origin entry. -/
theorem addPlanEntry_moves (s u : State) (g : Nat) (o : PlanOrder) :
    Moves [.tracker] u (setOrders (u.tracker.orders ++ [planEntry s g o]) u) := by
  refine setOrders_moves _ u ?_
  rw [List.filter_append]
  exact (List.append_nil _ ▸ .refl _)

theorem issueOrder_moves (g : Nat) (p : Plan) (k : OrderKind) (r : CabRec) (v : Option Nat) (settle : Nat) (s : State)
    (hg : g < 4) : Moves planFields s (issueOrder g p k r v settle s) := by
  unfold issueOrder
  exact ((moves_withSeq s _).mono (by decide)).trans (((addPlanEntry_moves ..).mono (by decide)).trans
    ((placePrio_moves _ _ _ hg).mono (by decide)))

theorem completePlan_moves (g : Nat) (s : State) : Moves planFields s (completePlan g s) := by
  unfold completePlan; split
  · exact ((dropPrio_moves ..).mono (by decide)).trans
      (((queueNotice_moves ..).mono (by decide)).trans ((setPlan_moves ..).mono (by decide)))
  · exact Moves.refl ..

theorem haltOr_moves {fs : List Field} (g : Nat) (h : Option (HaltCause × Nat)) {rest : State → State} {s : State}
    (sub : planFields ⊆ fs) (hr : Moves fs s (rest s)) : Moves fs s (haltOr g h rest s) := by
  unfold haltOr; split
  · exact (haltPlan_moves ..).mono sub
  · exact hr

theorem issueRamp_moves (g : Nat) (p : Plan) (ra : Ramp) (r : CabRec) (v : Nat) (s : State)
    (hg : g < 4) : Moves planFields s (issueRamp g p ra r v s) := issueOrder_moves _ _ _ _ _ _ _ hg

theorem endRamp_moves (g : Nat) (p : Plan) (ra : Ramp) (s : State) : Moves planFields s (endRamp g p ra s) :=
  (setPlan_moves ..).mono (by decide)

theorem judgeDown_moves (g : Nat) (p : Plan) (ra : Ramp) (t : Nat) (r : CabRec) (s : State) (hg : g < 4) :
    Moves planFields s (judgeDown g p ra t r s) := by
  unfold judgeDown
  refine Moves.ite (Moves.ite (endRamp_moves ..) (Moves.ite ?_ (Moves.refl ..))) (Moves.refl ..)
  exact haltOr_moves _ _ (fun _ h => h) (issueRamp_moves _ _ _ _ _ _ hg)

theorem judgeUp_moves (g : Nat) (p : Plan) (ra : Ramp) (r : CabRec) (s : State) (hg : g < 4) :
    Moves planFields s (judgeUp g p ra r s) := by
  unfold judgeUp
  refine Moves.ite (Moves.ite (endRamp_moves ..) (Moves.ite ?_ (Moves.refl ..))) (Moves.refl ..)
  exact haltOr_moves _ _ (fun _ h => h) (issueRamp_moves _ _ _ _ _ _ hg)

theorem judgeRamp_moves (g : Nat) (s : State) : Moves planFields s (judgeRamp g s) := by
  unfold judgeRamp; split
  next p hp =>
    split
    · split
      · exact Moves.ite (judgeUp_moves _ _ _ _ _ (plan?_lt hp)) (judgeDown_moves _ _ _ _ _ _ (plan?_lt hp))
      · exact Moves.refl ..
    · exact Moves.refl ..
  · exact Moves.refl ..

theorem beginRamp_moves (g : Nat) (s : State) : Moves planFields s (beginRamp g s) := by
  unfold beginRamp; split
  · exact ((setPlan_moves ..).mono (by decide)).trans (judgeRamp_moves ..)
  · exact Moves.refl ..

theorem enterStage_moves (g : Nat) (p : Plan) (st : Stage) (s : State) : Moves planFields s (enterStage g p st s) :=
  ((setPlan_moves ..).mono (by decide)).trans ((queueNotice_moves ..).mono (by decide))

theorem markDone_moves (g : Nat) (s : State) : Moves planFields s (markDone g s) := (modPlan_moves ..).mono (by decide)

theorem walk_moves (g : Nat) (l : List WalkItem) (s : State) : Moves planFields s (walk g l s) := by
  induction l generalizing s with
  | nil => exact completePlan_moves g s
  | cons x rest ih =>
    cases x with
    | enter st =>
      unfold walk; split
      · exact Moves.refl ..
      · refine (enterStage_moves ..).trans (Moves.ite ?_ (Moves.ite (beginRamp_moves ..) (ih _)))
        exact haltOr_moves _ _ (fun _ h => h) ((markDone_moves ..).trans (ih _))
    | step st i =>
      unfold walk; split
      · exact Moves.refl ..
      next p hp =>
        refine Moves.trans (t := setPlan g (some { p with step := i, stepDone := false }) s)
          ((setPlan_moves ..).mono (by decide)) ?_
        dsimp only
        split
        · exact Moves.refl ..
        · exact Moves.ite ((markDone_moves ..).trans (ih _)) (haltOr_moves _ _ (fun _ h => h)
            (issueOrder_moves _ _ _ _ _ _ _ (plan?_lt hp)))

theorem trigger_moves (g : Nat) (s : State) : Moves planFields s (trigger g s) := by
  unfold trigger; split
  · exact Moves.ite (walk_moves ..) (Moves.refl ..)
  · exact Moves.refl ..

theorem rampDone_moves (g : Nat) (p : Plan) (s : State) : Moves planFields s (rampDone g p s) :=
  ((setPlan_moves ..).mono (by decide)).trans (judgeRamp_moves ..)

theorem planDone_moves (g : Nat) (s : State) : Moves planFields s (planDone g s) := by
  unfold planDone; split
  · exact Moves.ite (Moves.ite (rampDone_moves ..) ((setPlan_moves ..).mono (by decide))) (Moves.refl ..)
  · exact Moves.refl ..

theorem planRejected_moves (g reason : Nat) (s : State) : Moves planFields s (planRejected g reason s) :=
  Moves.ite (haltPlan_moves ..) (Moves.refl ..)

theorem planLateDone_moves (g : Nat) (s : State) : Moves planFields s (planLateDone g s) :=
  (modPlan_moves ..).mono (by decide)

theorem resend_moves (g : Nat) (p : Plan) (o : PlanOrder) (s : State) (hg : g < 4) :
    Moves planFields s (resend g p o s) := by
  unfold resend
  exact ((setPlan_moves ..).mono (by decide)).trans (((modOrder_moves _ _ (by intro; rfl) _).mono (by decide)).trans
    (Moves.ite (fs := planFields) (Moves.refl ..) ((placePrio_moves _ _ _ hg).mono (gs := planFields) (by decide))))

theorem planReplyExpiry_moves (g : Nat) (s : State) : Moves planFields s (planReplyExpiry g s) := by
  unfold planReplyExpiry; split
  next p hp =>
    split
    · exact Moves.ite (resend_moves _ _ _ _ (plan?_lt hp)) (haltPlan_moves ..)
    · exact Moves.refl ..
  · exact Moves.refl ..

theorem planCompletionExpiry_moves (g : Nat) (s : State) : Moves planFields s (planCompletionExpiry g s) := by
  unfold planCompletionExpiry; split
  · split
    · exact haltPlan_moves ..
    · exact Moves.refl ..
  · exact Moves.refl ..

theorem settleExpires_moves (g : Nat) (s : State) : Moves [.seq] s (settleExpires g s) := by
  unfold settleExpires; split
  · exact Moves.ite (setPlan_moves ..) (Moves.refl ..)
  · exact Moves.refl ..

theorem intervalExpires_moves (g : Nat) (s : State) : Moves planFields s (intervalExpires g s) := by
  unfold intervalExpires; split
  · split
    · exact Moves.ite (((setPlan_moves ..).mono (by decide)).trans (judgeRamp_moves ..)) (Moves.refl ..)
    · exact Moves.refl ..
  · exact Moves.refl ..

theorem matchExpires_moves (g : Nat) (s : State) : Moves planFields s (matchExpires g s) := by
  unfold matchExpires; split
  · exact Moves.ite (haltPlan_moves ..) (Moves.refl ..)
  · exact Moves.refl ..

theorem takeRampHand_moves (c : Nat) (s : State) : Moves planFields s (takeRampHand c s) := by
  unfold takeRampHand; split
  · exact judgeRamp_moves ..
  · exact Moves.refl ..

theorem resumePlan_moves (g : Nat) (p : Plan) (s : State) : Moves [.seq, .tracker, .alarm] s (resumePlan g p s) :=
  ((removeSlotOrder_moves ..).mono (by decide)).trans
    (((clear_moves ..).mono (by decide)).trans ((setPlan_moves ..).mono (by decide)))

theorem abandonPlan_moves (g : Nat) (p : Plan) (s : State) : Moves planFields s (abandonPlan g p s) := by
  unfold abandonPlan
  exact ((removeSlotOrder_moves ..).mono (by decide)).trans (((dropPrio_moves ..).mono (by decide)).trans
    ((Moves.ite ((clear_moves ..).mono (by decide)) (Moves.refl ..)).trans ((setPlan_moves ..).mono (by decide))))

/-! Order Gate and Order Tracker. -/

theorem gateAnswer_moves (f : Frame) (a : GateAnswer) (c : GateCause) (s : State) :
    Moves [.replyQ] s (gateAnswer f a c s) := enqueueReply_moves ..

theorem gateForward_moves (f : Frame) (k : OrderKind) (v : Nat) (s : State) : Moves [.portF] s (gateForward f k v s) :=
  enqueueForward_moves .f _ s

/-- The judgement of a site order may add the one site-origin entry of the order: its frame alone. -/
theorem judgeOrder_only (f : Frame) (s : State) : Only [.replyQ, .portF, .tracker] s (judgeOrder f s) := by
  have ans : ∀ a c u, Only [.replyQ, .portF, .tracker] u (gateAnswer f a c u) :=
    fun a c u => (gateAnswer_moves f a c u).only.mono (by decide)
  have fwd : ∀ k v u, Only [.replyQ, .portF, .tracker] u (gateForward f k v u) :=
    fun k v u => (gateForward_moves f k v u).only.mono (by decide)
  have ord : ∀ l u, Only [.replyQ, .portF, .tracker] u (setOrders l u) :=
    fun l u => (only_withTracker u _).mono (by decide)
  unfold judgeOrder; split
  · exact ans ..
  · refine Only.ite ?_ ?_
    · unfold judgeBroadcast; split
      · exact Only.ite (ans ..) (fwd ..)
      · exact ans ..
      · exact ans ..
    · split
      · exact ans ..
      · split
        · exact ans ..
        · unfold judgeTargeted; split
          · unfold judgeRepeat
            refine Only.ite (ans ..) (Only.ite (ans ..) (Only.ite (ans ..) ?_))
            exact (ord ..).trans (fwd ..)
          · refine Only.ite (ans ..) (Only.ite (ans ..) ?_)
            unfold judgeByClass; split
            · exact fwd ..
            · exact ans ..
            · split
              · exact ans ..
              · exact (ord ..).trans (fwd ..)

theorem withholdOrder_moves (f : Frame) (s : State) : Moves [.replyQ, .tracker] s (withholdOrder f s) :=
  ((gateAnswer_moves ..).mono (by decide)).trans ((removeOrder_moves ..).mono (by decide))

theorem walkMembers_moves (g : Nat) (p : CabRec → Bool) (m : Mode) (s : State) :
    Moves [.cabs] s (walkMembers g p m s) :=
  Moves.foldl (fun _ _ => Moves.ite (setCab_moves ..) (Moves.refl ..)) _ s

theorem doneUpdate_moves (k : OrderKind) (v : Option Nat) (t : Nat) (r : CabRec) (s : State) :
    Moves [.cabs] s (doneUpdate k v t r s) := by
  unfold doneUpdate; split
  · exact walkMembers_moves ..
  · exact walkMembers_moves ..
  · exact setCab_moves ..
  · exact setCab_moves ..
  · exact setCab_moves ..
  · split
    · exact setCab_moves ..
    · exact Moves.refl ..

theorem doneEntry_moves (e : OrderEntry) (s : State) : Moves [.cabs] s (doneEntry e s) := by
  unfold doneEntry; split
  · split
    · exact doneUpdate_moves ..
    · exact Moves.refl ..
  · exact Moves.refl ..

theorem handPlan_moves {fs : List Field} (e : OrderEntry) (f : Nat → State → State) (s : State)
    (h : ∀ g u, Moves fs u (f g u)) : Moves fs s (handPlan e f s) := by
  unfold handPlan; split
  · exact Moves.ite (h ..) (Moves.refl ..)
  · exact Moves.refl ..

/-- The components a reply at the Tracker may change. -/
def replyFields : List Field := .cabs :: planFields

theorem replyOnEntry_moves (e : OrderEntry) (k : ReplyKind) (reason : Nat) (s : State) :
    Moves replyFields s (replyOnEntry e k reason s) := by
  unfold replyOnEntry; split
  · exact Moves.ite (fs := replyFields) ((modOrder_moves _ _ (by intro; rfl) _).mono (gs := replyFields) (by decide)) (Moves.refl ..)
  · exact ((doneEntry_moves ..).mono (by decide)).trans (((removeOrder_moves ..).mono (by decide)).trans
      (handPlan_moves _ _ _ (fun g u => (planDone_moves g u).mono (by decide))))
  · exact ((removeOrder_moves ..).mono (by decide)).trans
      (handPlan_moves _ _ _ (fun g u => (planRejected_moves g reason u).mono (by decide)))

theorem replyOnLapsed_moves (e : OrderEntry) (k : ReplyKind) (s : State) :
    Moves replyFields s (replyOnLapsed e k s) := by
  unfold replyOnLapsed; split
  · exact ((doneEntry_moves ..).mono (by decide)).trans
      (handPlan_moves _ _ _ (fun g u => (planLateDone_moves g u).mono (by decide)))
  · exact Moves.refl ..

theorem matchReply_moves (o : Origin) (f : Frame) (s t : State) (h : matchReply o f s = some t) :
    Moves replyFields s t := by
  unfold matchReply at h
  split at h
  · cases h
  · split at h
    · cases h
    · cases h
      exact Moves.ite (replyOnLapsed_moves ..) (replyOnEntry_moves ..)

theorem matchReply_getD_moves (o : Origin) (f : Frame) (s u : State) (h : Moves replyFields s u) :
    Moves replyFields s ((matchReply o f s).getD u) := by
  cases hm : matchReply o f s with
  | none => exact h
  | some t => exact matchReply_moves o f s t hm

theorem trackReply_moves (f : Frame) (s : State) : Moves (.portS :: replyFields) s (trackReply f s) := by
  unfold trackReply
  refine Moves.ite ?_ (Moves.ite ?_ ((enqueueForward_moves .s f s).mono (by decide)))
  · have hc : Moves replyFields s (countUnmatched s) := (moves_withTracker s _ (by exact .refl _)).mono (gs := replyFields)
      (by decide)
    exact (matchReply_getD_moves _ _ _ _ hc).mono (by decide)
  · exact ((matchReply_getD_moves _ _ _ _ (Moves.refl ..)).mono (by decide)).trans
      ((enqueueForward_moves .s f _).mono (by decide))

/-! Ageing Engine. -/

theorem gradeActs_moves (i : Nat) (old : Grade) (a : Ageing) (s : State) : Moves [.alarm] s (gradeActs i old a s) := by
  unfold gradeActs
  refine Moves.ite (Moves.refl ..) ?_
  have h1 : ∀ u : State, Moves [.alarm] u (match gradeAlarm old with | some c => clear c (.string i) u | none => u) := by
    intro u; split
    · exact clear_moves ..
    · exact Moves.refl ..
  have h2 : ∀ u : State, Moves [.alarm] u (match gradeAlarm a.grade with
      | some c => raise c (.string i) (some (detailNat a.life)) u
      | none => u) := by
    intro u; split
    · exact raise_moves ..
    · exact Moves.refl ..
  exact (h1 s).trans ((h2 _).trans (queueNotice_moves ..))

theorem judgeReserve_moves (c : Nat) (s : State) : Moves [.alarm] s (judgeReserve c s) := raiseOrClear_moves ..

theorem judgeOwnerReserve_moves (i : Nat) (s : State) : Moves [.alarm] s (judgeOwnerReserve i s) := by
  unfold judgeOwnerReserve; split
  · exact judgeReserve_moves ..
  · exact Moves.refl ..

theorem recompute_moves (p : AgeingParams) (i : Nat) (s : State) : Moves [.strs, .alarm] s (recompute p i s) := by
  unfold recompute; split
  · exact ((gradeActs_moves ..).mono (by decide)).trans (((setStr_moves ..).mono (by decide)).trans
      ((judgeOwnerReserve_moves ..).mono (by decide)))
  · exact Moves.refl ..

theorem replaceString_moves (i : Nat) (serial : Word32) (s : State) :
    Moves [.strs, .alarm] s (replaceString i serial s) := by
  unfold replaceString
  exact ((modStr_moves ..).mono (by decide)).trans
    (((queueNotice_moves ..).mono (by decide)).trans (recompute_moves ..))

theorem swapActs_moves (i : Nat) (x y : Word32) (s : State) : Moves [.alarm] s (swapActs i x y s) :=
  (raise_moves ..).trans (queueNotice_moves ..)

theorem freezeString_moves (i : Nat) (x y : Word32) (s : State) : Moves [.strs, .alarm] s (freezeString i x y s) :=
  ((modAge_moves ..).mono (by decide)).trans ((swapActs_moves ..).mono (by decide))

theorem repend_moves (i : Nat) (x y : Word32) (s : State) : Moves [.strs, .alarm] s (repend i x y s) :=
  ((modAge_moves ..).mono (by decide)).trans ((swapActs_moves ..).mono (by decide))

theorem swapDetection_moves (i : Nat) (serial : Word32) (s : State) :
    Moves [.strs, .alarm] s (swapDetection i serial s) := by
  unfold swapDetection; split
  · exact Moves.refl ..
  · refine Moves.ite (Moves.refl ..) (Moves.ite (Moves.ite (Moves.refl ..) (repend_moves ..)) ?_)
    refine Moves.ite ((setStr_moves ..).mono (by decide)) (Moves.ite (Moves.refl ..) ?_)
    exact Moves.ite (replaceString_moves ..) (freezeString_moves ..)

theorem ageingStep_moves (h : AgeingHand) (s : State) : Moves [.strs, .alarm] s (ageingStep h s) := by
  unfold ageingStep; split
  · exact ((setStr_moves ..).mono (by decide)).trans (((raiseOrClear_moves ..).mono (by decide)).trans
      (recompute_moves ..))
  · exact Moves.refl ..

theorem takeAgeingHand_moves (h : AgeingHand) (s : State) : Moves [.strs, .alarm] s (takeAgeingHand h s) :=
  (swapDetection_moves ..).trans (Moves.ite (Moves.refl ..) (ageingStep_moves ..))

theorem recoveryExpires_moves (i : Nat) (s : State) : Moves [.strs, .alarm] s (recoveryExpires i s) := by
  unfold recoveryExpires; split
  · exact Moves.ite (((modAge_moves ..).mono (by decide)).trans (recompute_moves ..)) (Moves.refl ..)
  · exact Moves.refl ..

/-! Visit Register. -/

theorem setVisit_moves (k : Nat) (v : Option Visit) (s : State) : Moves [.visits] s (setVisit k v s) := moves_withVisits s _

theorem visitNotice_moves (v : Visit) (st : VisitState) (s : State) : Moves [.alarm] s (visitNotice v st s) :=
  queueNotice_moves ..

theorem activateVisit_moves (k : Nat) (v : Visit) (s : State) : Moves [.visits, .alarm] s (activateVisit k v s) :=
  ((setVisit_moves ..).mono (by decide)).trans ((visitNotice_moves ..).mono (by decide))

theorem judgePreparing_moves (k : Nat) (v : Visit) (s : State) : Moves [.visits, .alarm] s (judgePreparing k v s) :=
  Moves.ite (activateVisit_moves ..) (Moves.refl ..)

theorem clearEach_moves (code : Nat) (cs : List Nat) (s : State) : Moves [.alarm] s (clearEach code cs s) :=
  Moves.foldl (fun _ _ => clear_moves ..) cs s

theorem raiseOpenDoors_moves (v : Visit) (s : State) : Moves [.alarm] s (raiseOpenDoors v s) :=
  Moves.foldl (fun _ _ => raise_moves ..) _ s

theorem leaveRegister_moves (k : Nat) (v : Visit) (fin : VisitState) (b : Bool) (s : State) :
    Moves [.visits, .alarm] s (leaveRegister k v fin b s) := by
  unfold leaveRegister
  refine Moves.trans (t := clearEach codeVisitConditionLost v.cabinets (setVisit k none s))
    (((setVisit_moves ..).mono (by decide)).trans ((clearEach_moves ..).mono (by decide))) ?_
  refine Moves.trans (t := if b = true then clearEach codeDoorLeftOpen v.cabinets (clear codeVisitOverstay (.cabinet v.first)
    (clearEach codeVisitConditionLost v.cabinets (setVisit k none s))) else
      clearEach codeVisitConditionLost v.cabinets (setVisit k none s)) ?_ ?_
  · exact Moves.ite (((clear_moves ..).mono (by decide)).trans ((clearEach_moves ..).mono (by decide))) (Moves.refl ..)
  · exact ((unshelveScopes_moves ..).mono (by decide)).trans ((visitNotice_moves ..).mono (by decide))

theorem judgeCondition_moves (v : Visit) (c : Nat) (s : State) : Moves [.alarm] s (judgeCondition v c s) :=
  raiseOrClear_moves ..

theorem judgeClosingDoor_moves (k : Nat) (v : Visit) (c : Nat) (d : Door) (s : State) :
    Moves [.visits, .alarm] s (judgeClosingDoor k v c d s) := by
  unfold judgeClosingDoor; split
  · exact ((clear_moves ..).mono (by decide)).trans (Moves.ite (leaveRegister_moves ..) (Moves.refl ..))
  · exact Moves.ite ((raise_moves ..).mono (by decide)) (Moves.refl ..)

theorem visitWork_moves (h : VisitHand) (s : State) : Moves [.visits, .alarm] s (visitWork h s) := by
  unfold visitWork; split
  · split
    · exact judgePreparing_moves ..
    · exact (judgeCondition_moves ..).mono (by decide)
    · exact ((judgeCondition_moves ..).mono (by decide)).trans (judgeClosingDoor_moves ..)
    · exact Moves.refl ..
  · exact Moves.refl ..

theorem releaseForce_moves (c : Nat) (s : State) : Moves [.visits] s (releaseForce c s) := moves_withVisits s _

theorem doorJudgement_moves (c : Nat) (d : Door) (s : State) : Moves [.visits, .alarm] s (doorJudgement c d s) := by
  unfold doorJudgement
  refine Moves.ite ?_ ?_
  · split
    · exact Moves.refl ..
    · exact (clear_moves ..).mono (by decide)
  · split
    · exact (raise_moves ..).mono (by decide)
    · exact ((releaseForce_moves ..).mono (by decide)).trans (((clear_moves ..).mono (by decide)).trans
        (((clear_moves ..).mono (by decide)).trans ((clear_moves ..).mono (by decide))))
    · exact (raise_moves ..).mono (by decide)
    · exact (clear_moves ..).mono (by decide)

theorem takeVisitHand_moves (h : VisitHand) (s : State) : Moves [.visits, .alarm] s (takeVisitHand h s) :=
  (visitWork_moves ..).trans (doorJudgement_moves ..)

theorem prepareExpires_moves (id : Nat) (s : State) : Moves [.visits, .alarm] s (prepareExpires id s) := by
  unfold prepareExpires; split
  · exact Moves.ite (leaveRegister_moves ..) (Moves.refl ..)
  · exact Moves.refl ..

theorem durationExpires_moves (id : Nat) (s : State) : Moves [.visits, .alarm] s (durationExpires id s) := by
  unfold durationExpires; split
  · exact Moves.ite (((setVisit_moves ..).mono (by decide)).trans ((raise_moves ..).mono (by decide))) (Moves.refl ..)
  · exact Moves.refl ..

theorem closeExpires_moves (id : Nat) (s : State) : Moves [.visits, .alarm] s (closeExpires id s) := by
  unfold closeExpires; split
  · exact Moves.ite (((setVisit_moves ..).mono (by decide)).trans ((raiseOpenDoors_moves ..).mono (by decide)))
      (Moves.refl ..)
  · exact Moves.refl ..

theorem releaseScoped_moves (cs : List Nat) (s : State) : Moves [.visits, .alarm] s (releaseScoped cs s) :=
  Moves.foldl (fun _ _ => ((releaseForce_moves ..).mono (by decide)).trans
    (((clear_moves ..).mono (by decide)).trans ((clear_moves ..).mono (by decide)))) _ s

theorem openVisit_moves (k : Nat) (v : Visit) (s : State) : Moves [.visits, .alarm] s (openVisit k v s) :=
  ((setVisit_moves ..).mono (by decide)).trans ((releaseScoped_moves ..).trans
    (((visitNotice_moves ..).mono (by decide)).trans (judgePreparing_moves ..)))

theorem closeVisit_moves (k : Nat) (v : Visit) (s : State) : Moves [.visits, .alarm] s (closeVisit k v s) :=
  ((setVisit_moves ..).mono (by decide)).trans (((visitNotice_moves ..).mono (by decide)).trans
    (Moves.ite (leaveRegister_moves ..) (Moves.refl ..)))

theorem placeForce_moves (v : Visit) (s : State) : Moves [.visits] s (placeForce v s) := moves_withVisits s _

theorem forceCloseVisit_moves (k : Nat) (v : Visit) (s : State) : Moves [.visits, .alarm] s (forceCloseVisit k v s) :=
  ((raiseOpenDoors_moves ..).mono (by decide)).trans (((placeForce_moves ..).mono (by decide)).trans
    (leaveRegister_moves ..))

/-! Report Inspector. -/

theorem setLimitRec_moves (k : Nat) (e : LimitEntry) (sub : Subject) (r : LimitRec) (s : State) :
    Moves [.insp] s (setLimitRec k e sub r s) := by
  unfold setLimitRec; split
  · exact moves_withInsp s _
  · exact Moves.refl ..

theorem clearUnlessHeld_moves (k code : Nat) (sub : Subject) (s : State) :
    Moves [.alarm] s (clearUnlessHeld k code sub s) := Moves.ite (Moves.refl ..) (clear_moves ..)

theorem limitActs_moves (k : Nat) (e : LimitEntry) (sub : Subject) (v : Int) (b a : LimitRec) (s : State) :
    Moves [.alarm] s (limitActs k e sub v b a s) :=
  Moves.ite (Moves.refl ..) (Moves.ite (raise_moves ..) (clearUnlessHeld_moves ..))

theorem judgeLimit_moves (sub : Subject) (value : Measurement → Option Int) (k : Nat) (s : State) :
    Moves [.insp, .alarm] s (judgeLimit sub value k s) := by
  unfold judgeLimit; split
  · refine Moves.ite ?_ (Moves.refl ..)
    split
    · exact ((setLimitRec_moves ..).mono (by decide)).trans ((limitActs_moves ..).mono (by decide))
    · exact Moves.refl ..
  · exact Moves.refl ..

theorem judgeLimits_moves (sub : Subject) (value : Measurement → Option Int) (s : State) :
    Moves [.insp, .alarm] s (judgeLimits sub value s) := Moves.foldl (fun _ _ => judgeLimit_moves ..) _ s

theorem clearIfSilent_moves (was : Liveness) (code : Nat) (sub : Subject) (s : State) :
    Moves [.alarm] s (clearIfSilent was code sub s) := Moves.ite (clear_moves ..) (Moves.refl ..)

theorem judgeFault_moves (c : Nat) (r : CabRec) (s : State) : Moves [.alarm] s (judgeFault c r s) := raiseOrClear_moves ..

theorem judgeOnBattery_moves (c : Nat) (r : CabRec) (s : State) : Moves [.alarm] s (judgeOnBattery c r s) :=
  Moves.ite (Moves.ite (raise_moves ..) (Moves.refl ..)) (clear_moves ..)

theorem judgeBypass_moves (c : Nat) (r : CabRec) (s : State) : Moves [.alarm] s (judgeBypass c r s) :=
  raiseOrClear_moves ..

theorem judgeMismatch_moves (c : Nat) (r : CabRec) (s : State) : Moves [.cabs, .alarm] s (judgeMismatch c r s) := by
  unfold judgeMismatch
  refine ((setCab_moves ..).mono (by decide)).trans (Moves.ite (Moves.refl ..) (Moves.ite ?_ (Moves.ite ?_ (Moves.refl ..))))
  · exact (clear_moves ..).mono (by decide)
  · exact (raise_moves ..).mono (by decide)

/-- The components an inspected report may change. -/
def inspectFields : List Field := [.alarm, .insp, .cabs, .strs, .hand]

theorem acceptCabinet_moves (e : DirEntry) (c : Nat) (r : CabRec) (p : CabReport) (s : State) :
    Moves inspectFields s (acceptCabinet e c r p s) := by
  unfold acceptCabinet
  exact ((setCab_moves ..).mono (by decide)).trans (((clearIfSilent_moves ..).mono (by decide)).trans
    (((judgeLimits_moves ..).mono (by decide)).trans (((judgeFault_moves ..).mono (by decide)).trans
      (((judgeOnBattery_moves ..).mono (by decide)).trans (((judgeBypass_moves ..).mono (by decide)).trans
        (((judgeMismatch_moves ..).mono (by decide)).trans (((modCab_moves ..).mono (by decide)).trans
          ((moves_withHand ..).mono (by decide)))))))))

theorem acceptString_moves (e : DirEntry) (i : Nat) (r : StrRec) (p : StrReport) (s : State) :
    Moves inspectFields s (acceptString e i r p s) := by
  unfold acceptString
  exact ((setStr_moves ..).mono (by decide)).trans (((clearIfSilent_moves ..).mono (by decide)).trans (((clear_moves
    ..).mono (by decide)).trans (((judgeLimits_moves ..).mono (by decide)).trans ((moves_withHand ..).mono (by
    decide)))))

theorem unexpectedNode_moves (src : Byte) (s : State) : Moves [.insp, .alarm] s (unexpectedNode src s) :=
  ((moves_withInsp ..).mono (by decide)).trans ((raise_moves ..).mono (by decide))

theorem inspect_moves (f : Frame) (s : State) : Moves inspectFields s (inspect f s) := by
  unfold inspect; split
  · exact (unexpectedNode_moves ..).mono (by decide)
  · split
    · unfold inspectCabinet; split
      · split
        · exact acceptCabinet_moves ..
        · exact Moves.refl ..
      · exact (unexpectedNode_moves ..).mono (by decide)
    · unfold inspectString; split
      · exact (raise_moves ..).mono (by decide)
      · refine Moves.ite ?_ ((raise_moves ..).mono (by decide))
        split
        · exact acceptString_moves ..
        · exact Moves.refl ..

theorem cabinetFallsSilent_moves (c : Nat) (r : CabRec) (s : State) :
    Moves [.cabs, .alarm] s (cabinetFallsSilent c r s) :=
  ((setCab_moves ..).mono (by decide)).trans ((raise_moves ..).mono (by decide))

theorem stringFallsSilent_moves (i : Nat) (r : StrRec) (s : State) :
    Moves [.strs, .alarm] s (stringFallsSilent i r s) :=
  ((setStr_moves ..).mono (by decide)).trans ((raise_moves ..).mono (by decide))

theorem quietExpires_moves (s : State) : Moves [.insp, .alarm] s (quietExpires s) :=
  Moves.ite (((moves_withInsp ..).mono (by decide)).trans ((clear_moves ..).mono (by decide))) (Moves.refl ..)

theorem releaseLimit_moves (k : Nat) (s : State) : Moves [.insp, .alarm] s (releaseLimit k s) := by
  unfold releaseLimit; split
  · exact ((moves_withInsp ..).mono (by decide)).trans
      ((Moves.foldl (fun _ _ => clearUnlessHeld_moves ..) _ _).mono (by decide))
  · exact Moves.refl ..

theorem storeLimit_moves (k : Nat) (e : LimitEntry) (s : State) : Moves [.resp, .insp] s (storeLimit k e s) :=
  ((moves_withResp ..).mono (by decide)).trans ((moves_withInsp ..).mono (by decide))

/-! Ports, requests and resets. -/

theorem dropCounted_moves (p : Port) (count : Counters → Counters) (s : State) :
    Moves [portField p, .alarm] s (dropCounted p count s) :=
  ((modPort_moves ..).mono (by simp)).trans (scoreUp_moves ..)

theorem checkFrame_moves (p : Port) (s : State) : Moves [portField p, .alarm] s (checkFrame p s) := by
  unfold checkFrame
  refine Moves.ite (dropCounted_moves ..) ?_
  split
  · exact dropCounted_moves ..
  · exact Moves.ite (((modPort_moves ..).mono (by simp)).trans (soundFrame_moves ..))  (Moves.ite (dropCounted_moves ..)
      (((modPort_moves ..).mono (by simp)).trans (soundFrame_moves ..)))

theorem beginSend_moves (p : Port) (f : Frame) (s : State) : Moves [portField p] s (beginSend p f s) := modPort_moves ..

theorem dropForward_moves (p : Port) (s : State) : Moves [portField p] s (dropForward p s) := modPort_moves ..

theorem transmitF_moves (s : State) : Moves [.portF, .prio, .replyQ, .tracker] s (transmitF s) := by
  unfold transmitF; split
  next x rest hx =>
    have hp : PrioInPlace s → PrioInPlace (s.withPrio rest) := fun h =>
      ⟨(hx ▸ h.1 : ((x :: rest).map (·.slot)).Nodup).tail, fun y hy => h.2 y (hx ▸ List.mem_cons_of_mem x hy)⟩
    exact ((moves_withPrio s rest hp).mono (by decide)).trans ((beginSend_moves .f _ _).mono (by decide))
  · split
    · unfold takeForwardF
      refine Moves.ite (Moves.ite ?_ (Moves.refl ..)) ?_
      · exact ((dropForward_moves .f _).mono (by decide)).trans ((withholdOrder_moves ..).mono (by decide))
      · exact ((dropForward_moves .f _).mono (by decide)).trans ((beginSend_moves .f _ _).mono (by decide))
    · exact Moves.refl ..

theorem sendNotice_moves (f : Frame) (s : State) : Moves [.portS, .alarm, .fwdRun] s (sendNotice f s) :=
  ((moves_withAlarm s { s.alarm with notices := s.alarm.notices.drop 1 } (.shrink _ _ (.refl _) (by simp))).mono
    (by decide)).trans (((moves_withFwdRun ..).mono (by decide)).trans ((beginSend_moves .s _ _).mono (by decide)))

theorem sendForwardS_moves (f : Frame) (s : State) : Moves [.portS, .fwdRun] s (sendForwardS f s) :=
  ((dropForward_moves .s _).mono (by decide)).trans (((moves_withFwdRun ..).mono (by decide)).trans
    ((beginSend_moves .s _ _).mono (by decide)))

theorem transmitS_moves (s : State) : Moves [.portS, .replyQ, .fullReset, .alarm, .fwdRun] s (transmitS s) := by
  unfold transmitS; split
  · exact ((moves_withReplyQ ..).mono (by decide)).trans (((moves_withFullReset ..).mono (by decide)).trans
      ((beginSend_moves .s _ _).mono (by decide)))
  · refine Moves.ite ?_ (Moves.refl ..)
    unfold transmitSOthers; split
    · exact Moves.ite ((sendNotice_moves ..).mono (by decide)) ((sendForwardS_moves ..).mono (by decide))
    · exact (sendForwardS_moves ..).mono (by decide)
    · exact (sendNotice_moves ..).mono (by decide)
    · exact Moves.refl ..

theorem haltIssued_moves (s : State) : Moves planFields s (haltIssued s) :=
  Moves.foldl (fun _ _ => Moves.ite (haltPlan_moves ..) (Moves.refl ..)) _ s

/-- The components a Reset TRAFFIC acts on. -/
def trafficFields : List Field := [.portS, .portF, .replyQ, .prio, .fwdRun, .alarm, .tracker, .seq]

theorem emptyPorts_moves (s : State) : Moves trafficFields s (emptyPorts s) := by
  unfold emptyPorts
  exact ((modPort_moves .s _ _).mono (by decide)).trans (((modPort_moves .f _ _).mono (by decide)).trans
    (((moves_withPrio _ [] (fun _ => ⟨List.nodup_nil, fun _ h => nomatch h⟩)).mono (by decide)).trans
    (((moves_withReplyQ ..).mono (by decide)).trans (((moves_withFwdRun ..).mono (by decide)).trans
    ((moves_withAlarm _ _ (by exact .shrink _ _ (.refl _) (Nat.zero_le _))).mono (gs := trafficFields) (by decide))))))

theorem emptyTracker_moves (s : State) : Moves [.tracker] s (emptyTracker s) :=
  moves_withTracker s _ ((List.filter_sublist.filter _).map _)

theorem trafficReset_moves (s : State) : Moves trafficFields s (trafficReset s) := by
  unfold trafficReset
  exact (emptyPorts_moves ..).trans (((emptyTracker_moves ..).mono (by decide)).trans (((clear_moves ..).mono (by
    decide)).trans (((clear_moves ..).mono (by decide)).trans ((haltIssued_moves ..).mono (by decide)))))

theorem setDir_moves (i : Nat) (e : Option DirEntry) (s : State) : Moves [.resp] s (setDir i e s) := moves_withResp s _

theorem startSupervision_moves (s : State) : Moves [.resp, .insp, .cabs, .strs, .alarm] s (startSupervision s) := by
  unfold startSupervision supervisionNotice
  exact ((moves_withCabs ..).mono (by decide)).trans (((moves_withStrs ..).mono (by decide)).trans (((moves_withInsp
    ..).mono (by decide)).trans (((moves_withResp ..).mono (by decide)).trans ((queueNotice_moves ..).mono (by
    decide)))))

/-- The components Stop Supervision acts on (R19). -/
def stopFields : List Field := [.resp, .insp, .cabs, .strs, .alarm, .tracker, .visits, .hand]

theorem keepLinks_moves (s : State) :
    Moves [.alarm] s (s.withAlarm { s.alarm with list := keepLinkErrors s.alarm.list }) :=
  moves_withAlarm s _ (.shrink _ _ List.filter_sublist (Nat.le_refl _))

theorem stopSupervision_moves (s : State) : Moves stopFields s (stopSupervision s) := by
  unfold stopSupervision supervisionNotice
  exact ((moves_withCabs ..).mono (by decide)).trans (((moves_withStrs ..).mono (by decide)).trans (((moves_withVisits
    ..).mono (by decide)).trans (((filterOrders_moves ..).mono (by decide)).trans (((moves_withInsp ..).mono (by
    decide)).trans (((moves_withHand ..).mono (by decide)).trans (((keepLinks_moves ..).mono (by decide)).trans
    (((moves_withResp ..).mono (by decide)).trans ((queueNotice_moves ..).mono (by decide)))))))))

/-- A request at the state that has lost its head frame changes what its effect changes, and its reply joins the queue. -/
theorem request_moves {fs : List Field} (code : Nat) (form : FieldForm) (effect : State → State × ManageReply)
    (h : ∀ u, Moves fs u (effect u).1) (s : State) : Moves (requestFields fs) s (request code form effect s) := by
  unfold request whenRunning
  refine Moves.ite ?_ (Moves.refl ..)
  dsimp only
  split
  · refine Moves.ite ?_ (Moves.refl ..)
    have sub : fs ⊆ requestFields fs := fun _ h => List.mem_cons_of_mem _ (List.mem_cons_of_mem _ h)
    refine ((dropHead_moves .s s).mono ?_).trans (((h _).mono sub).trans ((enqueueReply_moves ..).mono ?_)) <;>
      simp [requestFields, portField]
  · exact Moves.refl ..

/-- Refusing changes nothing, so the checks of a request leave the frame of its effect as it is. -/
theorem refuseIf_moves {fs : List Field} (b : Bool) (r : ManageReply) (rest : State → State × ManageReply) (s : State)
    (h : Moves fs s (rest s).1) : Moves fs s (refuseIf b r rest s).1 := by
  unfold refuseIf; split
  · exact Moves.refl ..
  · exact h

/-- Taking a head frame changes the inbound queue and what the taker changes. -/
theorem takeHead_moves {fs : List Field} (p : Port) (ready : State → Frame → Bool) (act : Frame → State → State)
    (hp : portField p ∈ fs) (h : ∀ f u, Moves fs u (act f u)) (s : State) : Moves fs s (takeHead p ready act s) := by
  unfold takeHead; split
  · exact Moves.ite (((dropHead_moves p s).mono (by simpa using hp)).trans (h ..)) (Moves.refl ..)
  · exact Moves.refl ..

theorem whenRunning_moves {fs : List Field} {f : State → State} {s : State} (h : Moves fs s (f s)) :
    Moves fs s (whenRunning f s) := Moves.ite h (Moves.refl ..)

end Sys2Proof.Machine
end

