-- ==== Sys2Proof/Laws/Ops.lean ====
section
/-! SUPPORT. What the shared operations do, said once: a taken request, the lookups after a write, and that the acts at the
Alarm Unit leave every other component as it is. -/

namespace Sys2Proof.Machine

/-! A taken request. -/

/-- A request that can be taken answers: its effect on the state without the head frame, and its reply behind it. -/
theorem request_takes {code : Nat} {form : FieldForm} {f : Frame} {s : State} (effect : State → State × ManageReply)
    (h : Takes code form f s) : request code form effect s = answered f (effect (dropHead .s s)).2 (effect (dropHead .s s)).1 := by
  obtain ⟨h1, h2, h3, h4, h5, h6⟩ := h
  simp only [request, whenRunning, h1, if_true, h4]
  rw [if_pos]
  · rfl
  · refine ⟨?_, h5, h6⟩
    simp [responderReady, State.takesFrames, replyRoom, h2, h3]

/-- A check that holds refuses. -/
theorem refuseIf_true {c : Bool} (r : ManageReply) (rest : State → State × ManageReply) (s : State) (h : c = true) :
    refuseIf c r rest s = (s, r) := by simp [refuseIf, h]

/-- A check that does not hold lets the request go on. -/
theorem refuseIf_false {c : Bool} (r : ManageReply) (rest : State → State × ManageReply) (s : State) (h : c = false) :
    refuseIf c r rest s = rest s := by simp [refuseIf, h]

@[simp] theorem dropHead_s_pending (s : State) : (dropHead .s s).pending = s.pending := rfl
@[simp] theorem dropHead_s_resetLine (s : State) : (dropHead .s s).resetLine = s.resetLine := rfl
@[simp] theorem dropHead_s_bridge (s : State) : (dropHead .s s).bridge = s.bridge := rfl
@[simp] theorem dropHead_s_fullReset (s : State) : (dropHead .s s).fullReset = s.fullReset := rfl
@[simp] theorem dropHead_s_clock (s : State) : (dropHead .s s).clock = s.clock := rfl
@[simp] theorem dropHead_s_resp (s : State) : (dropHead .s s).resp = s.resp := rfl
@[simp] theorem dropHead_s_insp (s : State) : (dropHead .s s).insp = s.insp := rfl
@[simp] theorem dropHead_s_cabs (s : State) : (dropHead .s s).cabs = s.cabs := rfl
@[simp] theorem dropHead_s_strs (s : State) : (dropHead .s s).strs = s.strs := rfl
@[simp] theorem dropHead_s_params (s : State) : (dropHead .s s).params = s.params := rfl
@[simp] theorem dropHead_s_gate (s : State) : (dropHead .s s).gate = s.gate := rfl
@[simp] theorem dropHead_s_tracker (s : State) : (dropHead .s s).tracker = s.tracker := rfl
@[simp] theorem dropHead_s_seq (s : State) : (dropHead .s s).seq = s.seq := rfl
@[simp] theorem dropHead_s_visits (s : State) : (dropHead .s s).visits = s.visits := rfl
@[simp] theorem dropHead_s_portF (s : State) : (dropHead .s s).portF = s.portF := rfl
@[simp] theorem dropHead_s_prio (s : State) : (dropHead .s s).prio = s.prio := rfl
@[simp] theorem dropHead_s_replyQ (s : State) : (dropHead .s s).replyQ = s.replyQ := rfl
@[simp] theorem dropHead_s_fwdRun (s : State) : (dropHead .s s).fwdRun = s.fwdRun := rfl
@[simp] theorem dropHead_s_hand (s : State) : (dropHead .s s).hand = s.hand := rfl
@[simp] theorem dropHead_s_alarm (s : State) : (dropHead .s s).alarm = s.alarm := rfl
@[simp] theorem dropHead_f_pending (s : State) : (dropHead .f s).pending = s.pending := rfl
@[simp] theorem dropHead_f_resetLine (s : State) : (dropHead .f s).resetLine = s.resetLine := rfl
@[simp] theorem dropHead_f_bridge (s : State) : (dropHead .f s).bridge = s.bridge := rfl
@[simp] theorem dropHead_f_fullReset (s : State) : (dropHead .f s).fullReset = s.fullReset := rfl
@[simp] theorem dropHead_f_clock (s : State) : (dropHead .f s).clock = s.clock := rfl
@[simp] theorem dropHead_f_resp (s : State) : (dropHead .f s).resp = s.resp := rfl
@[simp] theorem dropHead_f_insp (s : State) : (dropHead .f s).insp = s.insp := rfl
@[simp] theorem dropHead_f_cabs (s : State) : (dropHead .f s).cabs = s.cabs := rfl
@[simp] theorem dropHead_f_strs (s : State) : (dropHead .f s).strs = s.strs := rfl
@[simp] theorem dropHead_f_params (s : State) : (dropHead .f s).params = s.params := rfl
@[simp] theorem dropHead_f_gate (s : State) : (dropHead .f s).gate = s.gate := rfl
@[simp] theorem dropHead_f_tracker (s : State) : (dropHead .f s).tracker = s.tracker := rfl
@[simp] theorem dropHead_f_seq (s : State) : (dropHead .f s).seq = s.seq := rfl
@[simp] theorem dropHead_f_visits (s : State) : (dropHead .f s).visits = s.visits := rfl
@[simp] theorem dropHead_f_portS (s : State) : (dropHead .f s).portS = s.portS := rfl
@[simp] theorem dropHead_f_prio (s : State) : (dropHead .f s).prio = s.prio := rfl
@[simp] theorem dropHead_f_replyQ (s : State) : (dropHead .f s).replyQ = s.replyQ := rfl
@[simp] theorem dropHead_f_fwdRun (s : State) : (dropHead .f s).fwdRun = s.fwdRun := rfl
@[simp] theorem dropHead_f_hand (s : State) : (dropHead .f s).hand = s.hand := rfl
@[simp] theorem dropHead_f_alarm (s : State) : (dropHead .f s).alarm = s.alarm := rfl

/-! The acts at the Alarm Unit. -/

@[simp] theorem raise_pending (c : Nat) (sub : Subject) (d : Option Word32) (s : State) : (raise c sub d s).pending = s.pending := rfl
@[simp] theorem raise_resetLine (c : Nat) (sub : Subject) (d : Option Word32) (s : State) : (raise c sub d s).resetLine = s.resetLine := rfl
@[simp] theorem raise_bridge (c : Nat) (sub : Subject) (d : Option Word32) (s : State) : (raise c sub d s).bridge = s.bridge := rfl
@[simp] theorem raise_fullReset (c : Nat) (sub : Subject) (d : Option Word32) (s : State) : (raise c sub d s).fullReset = s.fullReset := rfl
@[simp] theorem raise_clock (c : Nat) (sub : Subject) (d : Option Word32) (s : State) : (raise c sub d s).clock = s.clock := rfl
@[simp] theorem raise_resp (c : Nat) (sub : Subject) (d : Option Word32) (s : State) : (raise c sub d s).resp = s.resp := rfl
@[simp] theorem raise_insp (c : Nat) (sub : Subject) (d : Option Word32) (s : State) : (raise c sub d s).insp = s.insp := rfl
@[simp] theorem raise_cabs (c : Nat) (sub : Subject) (d : Option Word32) (s : State) : (raise c sub d s).cabs = s.cabs := rfl
@[simp] theorem raise_strs (c : Nat) (sub : Subject) (d : Option Word32) (s : State) : (raise c sub d s).strs = s.strs := rfl
@[simp] theorem raise_params (c : Nat) (sub : Subject) (d : Option Word32) (s : State) : (raise c sub d s).params = s.params := rfl
@[simp] theorem raise_gate (c : Nat) (sub : Subject) (d : Option Word32) (s : State) : (raise c sub d s).gate = s.gate := rfl
@[simp] theorem raise_tracker (c : Nat) (sub : Subject) (d : Option Word32) (s : State) : (raise c sub d s).tracker = s.tracker := rfl
@[simp] theorem raise_seq (c : Nat) (sub : Subject) (d : Option Word32) (s : State) : (raise c sub d s).seq = s.seq := rfl
@[simp] theorem raise_visits (c : Nat) (sub : Subject) (d : Option Word32) (s : State) : (raise c sub d s).visits = s.visits := rfl
@[simp] theorem raise_portS (c : Nat) (sub : Subject) (d : Option Word32) (s : State) : (raise c sub d s).portS = s.portS := rfl
@[simp] theorem raise_portF (c : Nat) (sub : Subject) (d : Option Word32) (s : State) : (raise c sub d s).portF = s.portF := rfl
@[simp] theorem raise_prio (c : Nat) (sub : Subject) (d : Option Word32) (s : State) : (raise c sub d s).prio = s.prio := rfl
@[simp] theorem raise_replyQ (c : Nat) (sub : Subject) (d : Option Word32) (s : State) : (raise c sub d s).replyQ = s.replyQ := rfl
@[simp] theorem raise_fwdRun (c : Nat) (sub : Subject) (d : Option Word32) (s : State) : (raise c sub d s).fwdRun = s.fwdRun := rfl
@[simp] theorem raise_hand (c : Nat) (sub : Subject) (d : Option Word32) (s : State) : (raise c sub d s).hand = s.hand := rfl

@[simp] theorem clear_pending (c : Nat) (sub : Subject) (s : State) : (clear c sub s).pending = s.pending := rfl
@[simp] theorem clear_resetLine (c : Nat) (sub : Subject) (s : State) : (clear c sub s).resetLine = s.resetLine := rfl
@[simp] theorem clear_bridge (c : Nat) (sub : Subject) (s : State) : (clear c sub s).bridge = s.bridge := rfl
@[simp] theorem clear_fullReset (c : Nat) (sub : Subject) (s : State) : (clear c sub s).fullReset = s.fullReset := rfl
@[simp] theorem clear_clock (c : Nat) (sub : Subject) (s : State) : (clear c sub s).clock = s.clock := rfl
@[simp] theorem clear_resp (c : Nat) (sub : Subject) (s : State) : (clear c sub s).resp = s.resp := rfl
@[simp] theorem clear_insp (c : Nat) (sub : Subject) (s : State) : (clear c sub s).insp = s.insp := rfl
@[simp] theorem clear_cabs (c : Nat) (sub : Subject) (s : State) : (clear c sub s).cabs = s.cabs := rfl
@[simp] theorem clear_strs (c : Nat) (sub : Subject) (s : State) : (clear c sub s).strs = s.strs := rfl
@[simp] theorem clear_params (c : Nat) (sub : Subject) (s : State) : (clear c sub s).params = s.params := rfl
@[simp] theorem clear_gate (c : Nat) (sub : Subject) (s : State) : (clear c sub s).gate = s.gate := rfl
@[simp] theorem clear_tracker (c : Nat) (sub : Subject) (s : State) : (clear c sub s).tracker = s.tracker := rfl
@[simp] theorem clear_seq (c : Nat) (sub : Subject) (s : State) : (clear c sub s).seq = s.seq := rfl
@[simp] theorem clear_visits (c : Nat) (sub : Subject) (s : State) : (clear c sub s).visits = s.visits := rfl
@[simp] theorem clear_portS (c : Nat) (sub : Subject) (s : State) : (clear c sub s).portS = s.portS := rfl
@[simp] theorem clear_portF (c : Nat) (sub : Subject) (s : State) : (clear c sub s).portF = s.portF := rfl
@[simp] theorem clear_prio (c : Nat) (sub : Subject) (s : State) : (clear c sub s).prio = s.prio := rfl
@[simp] theorem clear_replyQ (c : Nat) (sub : Subject) (s : State) : (clear c sub s).replyQ = s.replyQ := rfl
@[simp] theorem clear_fwdRun (c : Nat) (sub : Subject) (s : State) : (clear c sub s).fwdRun = s.fwdRun := rfl
@[simp] theorem clear_hand (c : Nat) (sub : Subject) (s : State) : (clear c sub s).hand = s.hand := rfl

@[simp] theorem queueNotice_pending (k : NoticeKind) (b : List Byte) (s : State) : (queueNotice k b s).pending = s.pending := rfl
@[simp] theorem queueNotice_resetLine (k : NoticeKind) (b : List Byte) (s : State) : (queueNotice k b s).resetLine = s.resetLine := rfl
@[simp] theorem queueNotice_bridge (k : NoticeKind) (b : List Byte) (s : State) : (queueNotice k b s).bridge = s.bridge := rfl
@[simp] theorem queueNotice_fullReset (k : NoticeKind) (b : List Byte) (s : State) : (queueNotice k b s).fullReset = s.fullReset := rfl
@[simp] theorem queueNotice_clock (k : NoticeKind) (b : List Byte) (s : State) : (queueNotice k b s).clock = s.clock := rfl
@[simp] theorem queueNotice_resp (k : NoticeKind) (b : List Byte) (s : State) : (queueNotice k b s).resp = s.resp := rfl
@[simp] theorem queueNotice_insp (k : NoticeKind) (b : List Byte) (s : State) : (queueNotice k b s).insp = s.insp := rfl
@[simp] theorem queueNotice_cabs (k : NoticeKind) (b : List Byte) (s : State) : (queueNotice k b s).cabs = s.cabs := rfl
@[simp] theorem queueNotice_strs (k : NoticeKind) (b : List Byte) (s : State) : (queueNotice k b s).strs = s.strs := rfl
@[simp] theorem queueNotice_params (k : NoticeKind) (b : List Byte) (s : State) : (queueNotice k b s).params = s.params := rfl
@[simp] theorem queueNotice_gate (k : NoticeKind) (b : List Byte) (s : State) : (queueNotice k b s).gate = s.gate := rfl
@[simp] theorem queueNotice_tracker (k : NoticeKind) (b : List Byte) (s : State) : (queueNotice k b s).tracker = s.tracker := rfl
@[simp] theorem queueNotice_seq (k : NoticeKind) (b : List Byte) (s : State) : (queueNotice k b s).seq = s.seq := rfl
@[simp] theorem queueNotice_visits (k : NoticeKind) (b : List Byte) (s : State) : (queueNotice k b s).visits = s.visits := rfl
@[simp] theorem queueNotice_portS (k : NoticeKind) (b : List Byte) (s : State) : (queueNotice k b s).portS = s.portS := rfl
@[simp] theorem queueNotice_portF (k : NoticeKind) (b : List Byte) (s : State) : (queueNotice k b s).portF = s.portF := rfl
@[simp] theorem queueNotice_prio (k : NoticeKind) (b : List Byte) (s : State) : (queueNotice k b s).prio = s.prio := rfl
@[simp] theorem queueNotice_replyQ (k : NoticeKind) (b : List Byte) (s : State) : (queueNotice k b s).replyQ = s.replyQ := rfl
@[simp] theorem queueNotice_fwdRun (k : NoticeKind) (b : List Byte) (s : State) : (queueNotice k b s).fwdRun = s.fwdRun := rfl
@[simp] theorem queueNotice_hand (k : NoticeKind) (b : List Byte) (s : State) : (queueNotice k b s).hand = s.hand := rfl

@[simp] theorem unshelveScopes_pending (v : Nat) (cs is : List Nat) (s : State) : (unshelveScopes v cs is s).pending = s.pending := rfl
@[simp] theorem unshelveScopes_resetLine (v : Nat) (cs is : List Nat) (s : State) : (unshelveScopes v cs is s).resetLine = s.resetLine := rfl
@[simp] theorem unshelveScopes_bridge (v : Nat) (cs is : List Nat) (s : State) : (unshelveScopes v cs is s).bridge = s.bridge := rfl
@[simp] theorem unshelveScopes_fullReset (v : Nat) (cs is : List Nat) (s : State) : (unshelveScopes v cs is s).fullReset = s.fullReset := rfl
@[simp] theorem unshelveScopes_clock (v : Nat) (cs is : List Nat) (s : State) : (unshelveScopes v cs is s).clock = s.clock := rfl
@[simp] theorem unshelveScopes_resp (v : Nat) (cs is : List Nat) (s : State) : (unshelveScopes v cs is s).resp = s.resp := rfl
@[simp] theorem unshelveScopes_insp (v : Nat) (cs is : List Nat) (s : State) : (unshelveScopes v cs is s).insp = s.insp := rfl
@[simp] theorem unshelveScopes_cabs (v : Nat) (cs is : List Nat) (s : State) : (unshelveScopes v cs is s).cabs = s.cabs := rfl
@[simp] theorem unshelveScopes_strs (v : Nat) (cs is : List Nat) (s : State) : (unshelveScopes v cs is s).strs = s.strs := rfl
@[simp] theorem unshelveScopes_params (v : Nat) (cs is : List Nat) (s : State) : (unshelveScopes v cs is s).params = s.params := rfl
@[simp] theorem unshelveScopes_gate (v : Nat) (cs is : List Nat) (s : State) : (unshelveScopes v cs is s).gate = s.gate := rfl
@[simp] theorem unshelveScopes_tracker (v : Nat) (cs is : List Nat) (s : State) : (unshelveScopes v cs is s).tracker = s.tracker := rfl
@[simp] theorem unshelveScopes_seq (v : Nat) (cs is : List Nat) (s : State) : (unshelveScopes v cs is s).seq = s.seq := rfl
@[simp] theorem unshelveScopes_visits (v : Nat) (cs is : List Nat) (s : State) : (unshelveScopes v cs is s).visits = s.visits := rfl
@[simp] theorem unshelveScopes_portS (v : Nat) (cs is : List Nat) (s : State) : (unshelveScopes v cs is s).portS = s.portS := rfl
@[simp] theorem unshelveScopes_portF (v : Nat) (cs is : List Nat) (s : State) : (unshelveScopes v cs is s).portF = s.portF := rfl
@[simp] theorem unshelveScopes_prio (v : Nat) (cs is : List Nat) (s : State) : (unshelveScopes v cs is s).prio = s.prio := rfl
@[simp] theorem unshelveScopes_replyQ (v : Nat) (cs is : List Nat) (s : State) : (unshelveScopes v cs is s).replyQ = s.replyQ := rfl
@[simp] theorem unshelveScopes_fwdRun (v : Nat) (cs is : List Nat) (s : State) : (unshelveScopes v cs is s).fwdRun = s.fwdRun := rfl
@[simp] theorem unshelveScopes_hand (v : Nat) (cs is : List Nat) (s : State) : (unshelveScopes v cs is s).hand = s.hand := rfl

/-- The entry that a vector of options holds at a place, after a write at a place. -/
theorem join_set {α : Type} {n : Nat} (v : Vector (Option α) n) (i j : Nat) (x : Option α) :
    ((v.setIfInBounds i x)[j]?).join = if i = j ∧ i < n then x else (v[j]?).join := by
  rw [Vector.getElem?_setIfInBounds]
  by_cases h : i = j
  · subst h
    by_cases k : i < n
    · simp [k]
    · simp [k]
  · simp [h]

/-- A place that holds an entry lies in the vector. -/
theorem join_lt {α : Type} {n : Nat} {v : Vector (Option α) n} {i : Nat} {x : α} (h : (v[i]?).join = some x) : i < n := by
  by_contra k
  rw [Vector.getElem?_eq_none (by omega)] at h
  cases h

/-- The records of the Cabinet Table after a write. -/
theorem cab?_setCab (s : State) (i j : Nat) (r : CabRec) :
    cab? (setCab s i r) j = if i = j ∧ i < 24 then some r else cab? s j := join_set ..

/-- The records of the String Table after a write. -/
theorem str?_setStr (s : State) (i j : Nat) (r : StrRec) :
    str? (setStr s i r) j = if i = j ∧ i < 32 then some r else str? s j := join_set ..

/-- The plans after a slot is written. -/
theorem plan?_setPlan (s : State) (i j : Nat) (p : Option Plan) :
    plan? (setPlan i p s) j = if i = j ∧ i < 4 then p else plan? s j := join_set ..

/-- The visits after an entry is written. -/
theorem visitEntry?_setVisit (s : State) (i j : Nat) (v : Option Visit) :
    visitEntry? (setVisit i v s) j = if i = j ∧ i < 8 then v else visitEntry? s j := join_set ..

theorem cab?_lt {s : State} {c : Nat} {r : CabRec} (h : cab? s c = some r) : c < 24 := join_lt h

theorem str?_lt {s : State} {i : Nat} {r : StrRec} (h : str? s i = some r) : i < 32 := join_lt h

theorem visitEntry?_lt {s : State} {k : Nat} {v : Visit} (h : visitEntry? s k = some v) : k < 8 := join_lt h

/-! The acts at the Alarm Unit leave what the lookups read. -/

@[simp] theorem cab_raise (c : Nat) (sub : Subject) (d : Option Word32) (s : State) (j : Nat) : cab? (raise c sub d s) j = cab? s j := rfl
@[simp] theorem str_raise (c : Nat) (sub : Subject) (d : Option Word32) (s : State) (j : Nat) : str? (raise c sub d s) j = str? s j := rfl
@[simp] theorem plan_raise (c : Nat) (sub : Subject) (d : Option Word32) (s : State) (j : Nat) : plan? (raise c sub d s) j = plan? s j := rfl
@[simp] theorem visitEntry_raise (c : Nat) (sub : Subject) (d : Option Word32) (s : State) (j : Nat) : visitEntry? (raise c sub d s) j = visitEntry? s j := rfl
@[simp] theorem groupParams_raise (c : Nat) (sub : Subject) (d : Option Word32) (s : State) (j : Nat) : groupParams (raise c sub d s) j = groupParams s j := rfl
@[simp] theorem strNode_raise (c : Nat) (sub : Subject) (d : Option Word32) (s : State) (j : Nat) : strNode? (raise c sub d s) j = strNode? s j := rfl
@[simp] theorem groupOf_raise (c : Nat) (sub : Subject) (d : Option Word32) (s : State) (j : Nat) : groupOf? (raise c sub d s) j = groupOf? s j := rfl
@[simp] theorem cabReserve_raise (c : Nat) (sub : Subject) (d : Option Word32) (s : State) (j : Nat) : cabReserve (raise c sub d s) j = cabReserve s j := rfl
@[simp] theorem members_raise (c : Nat) (sub : Subject) (d : Option Word32) (s : State) (j : Nat) : members (raise c sub d s) j = members s j := rfl
@[simp] theorem memberRecs_raise (c : Nat) (sub : Subject) (d : Option Word32) (s : State) (j : Nat) : memberRecs (raise c sub d s) j = memberRecs s j := rfl
@[simp] theorem cabNode_raise (c : Nat) (sub : Subject) (d : Option Word32) (s : State) (j : Nat) : cabNode? (raise c sub d s) j = cabNode? s j := rfl
@[simp] theorem cabAt_raise (c : Nat) (sub : Subject) (d : Option Word32) (s : State) (j : Nat) : cabAt? (raise c sub d s) j = cabAt? s j := rfl
@[simp] theorem nodeAt_raise (c : Nat) (sub : Subject) (d : Option Word32) (s : State) (j : Nat) : nodeAt? (raise c sub d s) j = nodeAt? s j := rfl

@[simp] theorem cab_clear (c : Nat) (sub : Subject) (s : State) (j : Nat) : cab? (clear c sub s) j = cab? s j := rfl
@[simp] theorem str_clear (c : Nat) (sub : Subject) (s : State) (j : Nat) : str? (clear c sub s) j = str? s j := rfl
@[simp] theorem plan_clear (c : Nat) (sub : Subject) (s : State) (j : Nat) : plan? (clear c sub s) j = plan? s j := rfl
@[simp] theorem visitEntry_clear (c : Nat) (sub : Subject) (s : State) (j : Nat) : visitEntry? (clear c sub s) j = visitEntry? s j := rfl
@[simp] theorem groupParams_clear (c : Nat) (sub : Subject) (s : State) (j : Nat) : groupParams (clear c sub s) j = groupParams s j := rfl
@[simp] theorem strNode_clear (c : Nat) (sub : Subject) (s : State) (j : Nat) : strNode? (clear c sub s) j = strNode? s j := rfl
@[simp] theorem groupOf_clear (c : Nat) (sub : Subject) (s : State) (j : Nat) : groupOf? (clear c sub s) j = groupOf? s j := rfl
@[simp] theorem cabReserve_clear (c : Nat) (sub : Subject) (s : State) (j : Nat) : cabReserve (clear c sub s) j = cabReserve s j := rfl
@[simp] theorem members_clear (c : Nat) (sub : Subject) (s : State) (j : Nat) : members (clear c sub s) j = members s j := rfl
@[simp] theorem memberRecs_clear (c : Nat) (sub : Subject) (s : State) (j : Nat) : memberRecs (clear c sub s) j = memberRecs s j := rfl
@[simp] theorem cabNode_clear (c : Nat) (sub : Subject) (s : State) (j : Nat) : cabNode? (clear c sub s) j = cabNode? s j := rfl
@[simp] theorem cabAt_clear (c : Nat) (sub : Subject) (s : State) (j : Nat) : cabAt? (clear c sub s) j = cabAt? s j := rfl
@[simp] theorem nodeAt_clear (c : Nat) (sub : Subject) (s : State) (j : Nat) : nodeAt? (clear c sub s) j = nodeAt? s j := rfl

@[simp] theorem cab_queueNotice (k : NoticeKind) (b : List Byte) (s : State) (j : Nat) : cab? (queueNotice k b s) j = cab? s j := rfl
@[simp] theorem str_queueNotice (k : NoticeKind) (b : List Byte) (s : State) (j : Nat) : str? (queueNotice k b s) j = str? s j := rfl
@[simp] theorem plan_queueNotice (k : NoticeKind) (b : List Byte) (s : State) (j : Nat) : plan? (queueNotice k b s) j = plan? s j := rfl
@[simp] theorem visitEntry_queueNotice (k : NoticeKind) (b : List Byte) (s : State) (j : Nat) : visitEntry? (queueNotice k b s) j = visitEntry? s j := rfl
@[simp] theorem groupParams_queueNotice (k : NoticeKind) (b : List Byte) (s : State) (j : Nat) : groupParams (queueNotice k b s) j = groupParams s j := rfl
@[simp] theorem strNode_queueNotice (k : NoticeKind) (b : List Byte) (s : State) (j : Nat) : strNode? (queueNotice k b s) j = strNode? s j := rfl
@[simp] theorem groupOf_queueNotice (k : NoticeKind) (b : List Byte) (s : State) (j : Nat) : groupOf? (queueNotice k b s) j = groupOf? s j := rfl
@[simp] theorem cabReserve_queueNotice (k : NoticeKind) (b : List Byte) (s : State) (j : Nat) : cabReserve (queueNotice k b s) j = cabReserve s j := rfl
@[simp] theorem members_queueNotice (k : NoticeKind) (b : List Byte) (s : State) (j : Nat) : members (queueNotice k b s) j = members s j := rfl
@[simp] theorem memberRecs_queueNotice (k : NoticeKind) (b : List Byte) (s : State) (j : Nat) : memberRecs (queueNotice k b s) j = memberRecs s j := rfl
@[simp] theorem cabNode_queueNotice (k : NoticeKind) (b : List Byte) (s : State) (j : Nat) : cabNode? (queueNotice k b s) j = cabNode? s j := rfl
@[simp] theorem cabAt_queueNotice (k : NoticeKind) (b : List Byte) (s : State) (j : Nat) : cabAt? (queueNotice k b s) j = cabAt? s j := rfl
@[simp] theorem nodeAt_queueNotice (k : NoticeKind) (b : List Byte) (s : State) (j : Nat) : nodeAt? (queueNotice k b s) j = nodeAt? s j := rfl

@[simp] theorem cab_unshelveScopes (v : Nat) (cs is : List Nat) (s : State) (j : Nat) : cab? (unshelveScopes v cs is s) j = cab? s j := rfl
@[simp] theorem str_unshelveScopes (v : Nat) (cs is : List Nat) (s : State) (j : Nat) : str? (unshelveScopes v cs is s) j = str? s j := rfl
@[simp] theorem plan_unshelveScopes (v : Nat) (cs is : List Nat) (s : State) (j : Nat) : plan? (unshelveScopes v cs is s) j = plan? s j := rfl
@[simp] theorem visitEntry_unshelveScopes (v : Nat) (cs is : List Nat) (s : State) (j : Nat) : visitEntry? (unshelveScopes v cs is s) j = visitEntry? s j := rfl
@[simp] theorem groupParams_unshelveScopes (v : Nat) (cs is : List Nat) (s : State) (j : Nat) : groupParams (unshelveScopes v cs is s) j = groupParams s j := rfl
@[simp] theorem strNode_unshelveScopes (v : Nat) (cs is : List Nat) (s : State) (j : Nat) : strNode? (unshelveScopes v cs is s) j = strNode? s j := rfl
@[simp] theorem groupOf_unshelveScopes (v : Nat) (cs is : List Nat) (s : State) (j : Nat) : groupOf? (unshelveScopes v cs is s) j = groupOf? s j := rfl
@[simp] theorem cabReserve_unshelveScopes (v : Nat) (cs is : List Nat) (s : State) (j : Nat) : cabReserve (unshelveScopes v cs is s) j = cabReserve s j := rfl
@[simp] theorem members_unshelveScopes (v : Nat) (cs is : List Nat) (s : State) (j : Nat) : members (unshelveScopes v cs is s) j = members s j := rfl
@[simp] theorem memberRecs_unshelveScopes (v : Nat) (cs is : List Nat) (s : State) (j : Nat) : memberRecs (unshelveScopes v cs is s) j = memberRecs s j := rfl
@[simp] theorem cabNode_unshelveScopes (v : Nat) (cs is : List Nat) (s : State) (j : Nat) : cabNode? (unshelveScopes v cs is s) j = cabNode? s j := rfl
@[simp] theorem cabAt_unshelveScopes (v : Nat) (cs is : List Nat) (s : State) (j : Nat) : cabAt? (unshelveScopes v cs is s) j = cabAt? s j := rfl
@[simp] theorem nodeAt_unshelveScopes (v : Nat) (cs is : List Nat) (s : State) (j : Nat) : nodeAt? (unshelveScopes v cs is s) j = nodeAt? s j := rfl

@[simp] theorem cab_dropHead_s (s : State) (j : Nat) : cab? (dropHead .s s) j = cab? s j := rfl
@[simp] theorem str_dropHead_s (s : State) (j : Nat) : str? (dropHead .s s) j = str? s j := rfl
@[simp] theorem plan_dropHead_s (s : State) (j : Nat) : plan? (dropHead .s s) j = plan? s j := rfl
@[simp] theorem visitEntry_dropHead_s (s : State) (j : Nat) : visitEntry? (dropHead .s s) j = visitEntry? s j := rfl
@[simp] theorem groupParams_dropHead_s (s : State) (j : Nat) : groupParams (dropHead .s s) j = groupParams s j := rfl
@[simp] theorem strNode_dropHead_s (s : State) (j : Nat) : strNode? (dropHead .s s) j = strNode? s j := rfl
@[simp] theorem groupOf_dropHead_s (s : State) (j : Nat) : groupOf? (dropHead .s s) j = groupOf? s j := rfl
@[simp] theorem cabReserve_dropHead_s (s : State) (j : Nat) : cabReserve (dropHead .s s) j = cabReserve s j := rfl
@[simp] theorem members_dropHead_s (s : State) (j : Nat) : members (dropHead .s s) j = members s j := rfl
@[simp] theorem memberRecs_dropHead_s (s : State) (j : Nat) : memberRecs (dropHead .s s) j = memberRecs s j := rfl
@[simp] theorem cabNode_dropHead_s (s : State) (j : Nat) : cabNode? (dropHead .s s) j = cabNode? s j := rfl
@[simp] theorem cabAt_dropHead_s (s : State) (j : Nat) : cabAt? (dropHead .s s) j = cabAt? s j := rfl
@[simp] theorem nodeAt_dropHead_s (s : State) (j : Nat) : nodeAt? (dropHead .s s) j = nodeAt? s j := rfl
@[simp] theorem cab_dropHead_f (s : State) (j : Nat) : cab? (dropHead .f s) j = cab? s j := rfl
@[simp] theorem str_dropHead_f (s : State) (j : Nat) : str? (dropHead .f s) j = str? s j := rfl
@[simp] theorem plan_dropHead_f (s : State) (j : Nat) : plan? (dropHead .f s) j = plan? s j := rfl
@[simp] theorem visitEntry_dropHead_f (s : State) (j : Nat) : visitEntry? (dropHead .f s) j = visitEntry? s j := rfl
@[simp] theorem groupParams_dropHead_f (s : State) (j : Nat) : groupParams (dropHead .f s) j = groupParams s j := rfl
@[simp] theorem strNode_dropHead_f (s : State) (j : Nat) : strNode? (dropHead .f s) j = strNode? s j := rfl
@[simp] theorem groupOf_dropHead_f (s : State) (j : Nat) : groupOf? (dropHead .f s) j = groupOf? s j := rfl
@[simp] theorem cabReserve_dropHead_f (s : State) (j : Nat) : cabReserve (dropHead .f s) j = cabReserve s j := rfl
@[simp] theorem members_dropHead_f (s : State) (j : Nat) : members (dropHead .f s) j = members s j := rfl
@[simp] theorem memberRecs_dropHead_f (s : State) (j : Nat) : memberRecs (dropHead .f s) j = memberRecs s j := rfl
@[simp] theorem cabNode_dropHead_f (s : State) (j : Nat) : cabNode? (dropHead .f s) j = cabNode? s j := rfl
@[simp] theorem cabAt_dropHead_f (s : State) (j : Nat) : cabAt? (dropHead .f s) j = cabAt? s j := rfl
@[simp] theorem nodeAt_dropHead_f (s : State) (j : Nat) : nodeAt? (dropHead .f s) j = nodeAt? s j := rfl

/-! Each act at the Alarm Unit at a state, as it acts on the Alarm Unit alone. -/

theorem raise_eq (c : Nat) (sub : Subject) (d : Option Word32) (s : State) :
    raise c sub d s = s.withAlarm (s.alarm.raise s.clock.sec (shelvingTest s c sub) c sub d) := rfl

theorem clear_eq (c : Nat) (sub : Subject) (s : State) : clear c sub s = s.withAlarm (s.alarm.clear s.clock.sec c sub) := rfl

theorem queueNotice_eq (k : NoticeKind) (b : List Byte) (s : State) :
    queueNotice k b s = s.withAlarm (s.alarm.notice s.clock.sec k b) := rfl

/-- An act at the Alarm Unit reads nothing of a state but its alarms, its floor seconds and its visits. -/
theorem raise_alarm_congr {s t : State} (c : Nat) (sub : Subject) (d : Option Word32) (h : t.alarm = s.alarm)
    (k : t.clock = s.clock) (v : t.visits = s.visits) : (raise c sub d t).alarm = (raise c sub d s).alarm := by
  simp only [raise_eq, State.withAlarm_alarm, h, k, shelvingTest, subjectShelved, visitsIn, v]

theorem clear_alarm_congr {s t : State} (c : Nat) (sub : Subject) (h : t.alarm = s.alarm) (k : t.clock = s.clock) :
    (clear c sub t).alarm = (clear c sub s).alarm := by
  simp only [clear_eq, State.withAlarm_alarm, h, k]

theorem queueNotice_alarm_congr {s t : State} (n : NoticeKind) (b : List Byte) (h : t.alarm = s.alarm)
    (k : t.clock = s.clock) : (queueNotice n b t).alarm = (queueNotice n b s).alarm := by
  simp only [queueNotice_eq, State.withAlarm_alarm, h, k]

end Sys2Proof.Machine
end

