-- ==== Sys2Proof/Laws/Acts.lean ====
section
/-! SUPPORT. What a plan's halt, a plan's order and a visit that leaves the register do, what the capacity check tests, and
which member a search of a group finds, said once. -/

namespace Sys2Proof.Machine

theorem haltPlan_halts {g : Nat} {p : Plan} {s : State} (c : HaltCause) (d : Option Nat) (h : plan? s g = some p) :
    Halts g p c d s (haltPlan g c d s) := by
  have eq : haltPlan g c d s = haltedNotice p.id g c d (raise codePlanHalted (.group g) (some (detailNat c.toCode))
      (dropPrio g (lapseSlot g (setPlan g (some (p.halt c d)) s)))) := by simp only [haltPlan, h]
  have plans : ∀ j, plan? (haltPlan g c d s) j = if g = j ∧ g < 4 then some (p.halt c d) else plan? s j := by
    intro j
    rw [eq, haltedNotice, plan_queueNotice, plan_raise]
    exact plan?_setPlan ..
  refine ⟨?_, ?_, ?_, ?_, ?_, ?_, (haltPlan_moves g c d s).only⟩
  · rw [plans, if_pos ⟨rfl, plan?_lt h⟩]; rfl
  · intro j hj; rw [plans, if_neg (fun x => hj x.1.symm)]
  · rw [eq, haltedNotice, queueNotice_seq, raise_seq]; exact ⟨rfl, rfl, rfl⟩
  · rw [eq, haltedNotice, queueNotice_tracker, raise_tracker]
    refine List.map_congr_left fun e _ => ?_
    simp only [OrderEntry.ofSlot, OrderEntry.lapse, Bool.and_eq_true, beq_iff_eq]
  · rw [eq, haltedNotice, queueNotice_prio, raise_prio]; rfl
  · rw [eq]
    refine queueNotice_alarm_congr _ _ ?_ rfl
    exact raise_alarm_congr _ _ _ rfl rfl rfl

theorem issueOrder_issues {g : Nat} {p q : Plan} {s : State} (k : OrderKind) (r : CabRec) (v : Option Nat) (settle : Nat)
    (h : plan? s g = some q) : Issues g p k r v settle s (issueOrder g p k r v settle s) := by
  have plans : ∀ j, plan? (issueOrder g p k r v settle s) j = if g = j ∧ g < 4 then
      some { p with state := .issued, order := some ⟨k, r.addr, takeSeq s r.addr, v⟩, sends := 1, settle := settle }
      else plan? s j := fun j => join_set ..
  refine ⟨?_, ?_, ⟨rfl, rfl, rfl⟩, rfl, rfl, ?_⟩
  · rw [plans, if_pos ⟨rfl, plan?_lt h⟩]
  · intro j hj; rw [plans, if_neg (fun x => hj x.1.symm)]
  · unfold issueOrder
    exact ((only_withSeq s _).mono (by simp)).trans (((only_withTracker _ _).mono (by simp)).trans
      ((only_withPrio _ _).mono (by simp)))

theorem clearEach_visits (code : Nat) (cs : List Nat) (s : State) : (clearEach code cs s).visits = s.visits := by
  unfold clearEach
  induction cs generalizing s with
  | nil => rfl
  | cons c cs ih => exact ih _

theorem clearEach_clock (code : Nat) (cs : List Nat) (s : State) : (clearEach code cs s).clock = s.clock := by
  unfold clearEach
  induction cs generalizing s with
  | nil => rfl
  | cons c cs ih => exact ih _

theorem clearEach_alarm_congr {s t : State} (code : Nat) (cs : List Nat) (h : t.alarm = s.alarm) (k : t.clock = s.clock) :
    (clearEach code cs t).alarm = (clearEach code cs s).alarm := by
  unfold clearEach
  induction cs generalizing s t with
  | nil => exact h
  | cons c cs ih => exact ih (clear_alarm_congr _ _ h k) k

theorem unshelveScopes_alarm_congr {s t : State} (v : Nat) (cs is : List Nat) (h : t.alarm = s.alarm)
    (k : t.clock = s.clock) : (unshelveScopes v cs is t).alarm = (unshelveScopes v cs is s).alarm := by
  simp only [unshelveScopes, State.withAlarm_alarm, h, k]

theorem leaveRegister_leaves (k : Nat) (v : Visit) (final : VisitState) (byDoors : Bool) (s : State) :
    Leaves k v final byDoors s (leaveRegister k v final byDoors s) := by
  refine ⟨?_, ?_, (leaveRegister_moves k v final byDoors s).only⟩
  · cases byDoors <;> simp [leaveRegister, visitNotice, clearEach_visits, setVisit]
  · have lost := clearEach_alarm_congr codeVisitConditionLost v.cabinets
      (show (setVisit k none s).alarm = s.alarm from rfl) rfl
    have now : (clearEach codeVisitConditionLost v.cabinets (setVisit k none s)).clock =
        (clearEach codeVisitConditionLost v.cabinets s).clock := by simp only [clearEach_clock]; rfl
    cases byDoors
    · exact queueNotice_alarm_congr _ _ (unshelveScopes_alarm_congr _ _ _ lost now) now
    · have clock : ∀ x : State, (clearEach codeDoorLeftOpen v.cabinets (clear codeVisitOverstay (.cabinet v.first) x)).clock
          = x.clock := fun x => by rw [clearEach_clock]; rfl
      have same := (clock _).trans (now.trans (clock _).symm)
      exact queueNotice_alarm_congr _ _ (unshelveScopes_alarm_congr _ _ _
        (clearEach_alarm_congr _ _ (clear_alarm_congr _ _ lost now) now) same) same

/-- The capacity check tests the inequality of R114. -/
theorem capacityPasses_iff (s : State) (g t sh : Nat) : capacityPasses s g t sh = true ↔ carries s g t sh := by
  have parallel : ∀ m : Nat × CabRec, (m.2.reported == some Mode.online || m.2.reported == some Mode.onBattery) =
      (decide (m.2.reported = some .online) || decide (m.2.reported = some .onBattery)) := fun m => by
    rw [Bool.eq_iff_iff]; simp
  unfold capacityPasses carries groupLoad offeredShare parallelMembers CabRec.inParallel CabRec.reports
  simp only [decide_eq_true_eq, parallel]

theorem mem_memberRecs {s : State} {g : Nat} {x : Nat × CabRec} (h : x ∈ memberRecs s g) :
    cab? s x.1 = some x.2 ∧ x.2.group = g := by
  unfold memberRecs at h
  obtain ⟨c, -, hx⟩ := List.mem_filterMap.mp h
  cases hc : cab? s c with
  | none => simp [hc] at hx
  | some r =>
    simp only [hc, Option.bind_some] at hx
    split at hx
    · cases hx; exact ⟨hc, ‹_›⟩
    · cases hx

/-- The members of a group are the cabinets whose records name it (R6). -/
theorem mem_members_iff (s : State) (g c : Nat) : c ∈ members s g ↔ ∃ r, cab? s c = some r ∧ r.group = g := by
  constructor
  · intro h
    obtain ⟨x, hx, rfl⟩ := List.mem_map.mp h
    exact ⟨x.2, mem_memberRecs hx⟩
  · rintro ⟨r, h, hg⟩
    exact List.mem_map.mpr ⟨(c, r), List.mem_filterMap.mpr ⟨c, List.mem_range.mpr (cab?_lt h), by simp [h, hg]⟩, rfl⟩

/-- The strings of a group are those whose owner is a member (R6). -/
theorem mem_stringsOfGroup_iff (s : State) (g i : Nat) :
    i ∈ stringsOfGroup s g ↔ i < 32 ∧ ∃ n, strNode? s i = some n ∧ n.owner ∈ members s g := by
  simp [stringsOfGroup, Option.any_eq_true]

/-- An alarm is held elsewhere exactly when another occupied and enabled entry with its code holds a tripped record for its
subject (R35, R36). -/
theorem heldElsewhere_iff (s : State) (k code : Nat) (sub : Subject) : heldElsewhere s k code sub = true ↔
    ∃ j e r, j ≠ k ∧ limit? s j = some e ∧ e.enabled = true ∧ e.code = code ∧ limitRec? s j e sub = some r ∧
      r.tripped = true := by
  unfold heldElsewhere
  rw [List.any_eq_true]
  constructor
  · rintro ⟨place, -, holds⟩
    obtain ⟨other, holds⟩ := Bool.and_eq_true_iff.mp holds
    obtain ⟨entry, stands, holds⟩ := (Option.any_eq_true ..).mp holds
    obtain ⟨same, holds⟩ := Bool.and_eq_true_iff.mp holds
    obtain ⟨record, found, tripped⟩ := (Option.any_eq_true ..).mp holds
    rw [Bool.and_eq_true, beq_iff_eq] at same
    exact ⟨place, entry, record, bne_iff_ne.mp other, stands, same.1, same.2, found, tripped⟩
  · rintro ⟨place, entry, record, other, stands, enabled, same, found, tripped⟩
    refine ⟨place, List.mem_range.mpr (join_lt stands), ?_⟩
    simp [other, stands, enabled, same, found, tripped]

/-- A search of a group finds its lowest member that passes the test, and nothing when none does (R6, R132). -/
theorem memberRecs_find? (s : State) (g : Nat) (q : CabRec → Bool) :
    let passes := fun m => ∃ r, cab? s m = some r ∧ r.group = g ∧ q r = true
    (∀ m, passes m → (∀ j < m, ¬passes j) → ((memberRecs s g).find? (fun x => q x.2)).map Prod.fst = some m) ∧
      ((∀ m, ¬passes m) → (memberRecs s g).find? (fun x => q x.2) = none) := by
  refine ⟨fun m ⟨r, h1, h2, h3⟩ hm => ?_, fun hm => List.find?_eq_none.mpr fun x hx hq =>
    hm x.1 ⟨x.2, (mem_memberRecs hx).1, (mem_memberRecs hx).2, hq⟩⟩
  have lt : m < 24 := cab?_lt h1
  have cut : List.range 24 = List.range m ++ m :: List.range' (m + 1) (23 - m) := by
    rw [List.range_eq_range', List.range_eq_range', show m :: List.range' (m + 1) (23 - m) = List.range' m (24 - m) by
      rw [show 24 - m = (23 - m) + 1 by omega, List.range'_succ],
      show List.range' m (24 - m) = List.range' (0 + 1 * m) (24 - m) by simp, List.range'_append]
    congr 1
    omega
  have before : ((List.range m).filterMap
      (fun c => (cab? s c).bind fun r => if r.group = g then some (c, r) else none)).find? (fun x => q x.2) = none := by
    refine List.find?_eq_none.mpr fun x hx hq => ?_
    obtain ⟨c, hc, hx⟩ := List.mem_filterMap.mp hx
    cases hh : cab? s c with
    | none => simp [hh] at hx
    | some r' =>
      simp [hh] at hx
      obtain ⟨hg, rfl⟩ := hx
      exact hm c (List.mem_range.mp hc) ⟨r', hh, hg, hq⟩
  unfold memberRecs
  rw [cut, List.filterMap_append, List.find?_append, before]
  simp [h1, h2, h3]

end Sys2Proof.Machine
end

