-- ==== Sys2Proof/Laws/Requests.lean ====
section
/-! SUPPORT. Which MANAGE frames parse: exactly those that fit some request command (R184; log entry 3). -/

namespace Sys2Proof.Machine

/-- The parser of named fields reads exactly the runs of fields that the code knows (R184). -/
theorem namedParse_iff (known : List (Byte × Nat)) (fuel : Nat) : ∀ bytes : List Byte, bytes.length ≤ fuel →
    (namedParse known fuel bytes = true ↔ ∃ fields ⊆ known, namedFit fields bytes = true) := by
  induction fuel with
  | zero =>
    rintro (_ | _) short
    · exact iff_of_true rfl ⟨[], List.nil_subset _, rfl⟩
    · exact absurd short (by simp)
  | succ fuel step =>
    rintro (_ | ⟨tag, bytes⟩) short
    · exact iff_of_true rfl ⟨[], List.nil_subset _, rfl⟩
    have rest : ∀ width, (bytes.drop width).length ≤ fuel := fun width =>
      (List.drop_sublist ..).length_le.trans (Nat.le_of_succ_le_succ short)
    rw [namedParse, List.any_eq_true]
    constructor
    · rintro ⟨field, present, fits⟩
      rw [Bool.and_eq_true] at fits
      obtain ⟨others, subset, fit⟩ := (step _ (rest field.2)).mp fits.2
      exact ⟨field :: others, List.cons_subset.mpr ⟨present, subset⟩, by rw [namedFit, fits.1, fit]; rfl⟩
    · rintro ⟨_ | ⟨field, others⟩, subset, fit⟩
      · cases fit
      rw [namedFit, Bool.and_eq_true] at fit
      have both := List.cons_subset.mp subset
      exact ⟨field, both.1, Bool.and_eq_true_iff.mpr ⟨fit.1, (step _ (rest field.2)).mpr ⟨others, both.2, fit.2⟩⟩⟩

/-- The parser of lists reads exactly so many lists of the lengths that their own counts say (R184). -/
theorem listsParse_iff (width behind number : Nat) : ∀ bytes : List Byte, listsParse width behind number bytes = true ↔
    ∃ counts : List Nat, counts.length = number ∧ listsFit width behind counts bytes = true := by
  induction number with
  | zero => simp [listsParse, listsFit]
  | succ number step =>
    rintro (_ | ⟨count, bytes⟩)
    · refine iff_of_false Bool.false_ne_true fun ⟨counts, size, fit⟩ => ?_
      cases counts with
      | nil => cases size
      | cons => cases fit
    · simp only [listsParse, Bool.and_eq_true, step]
      constructor
      · rintro ⟨room, counts, rfl, fit⟩
        exact ⟨count.toNat :: counts, rfl, by simp [listsFit, of_decide_eq_true room, fit]⟩
      · rintro ⟨_ | ⟨first, counts⟩, size, fit⟩
        · cases size
        · simp only [listsFit, Bool.and_eq_true, beq_iff_eq] at fit
          obtain ⟨⟨rfl, room⟩, fit⟩ := fit
          exact ⟨room, counts, Nat.succ.inj size, fit⟩

/-- A frame that fits some request command parses (R184). -/
theorem requestParses_of_fits (f : Frame) (i : Instr) (code : Nat) (form : FieldForm)
    (h : requestForm i = some (code, form))
    (hc : requestCode f = some code) (hf : form.fits (requestFieldBytes f) = true) : requestParses f = true := by
  have named : ∀ head known fields, fields ⊆ known →
      (FieldForm.named head fields).fits (requestFieldBytes f) = true →
      (RequestShape.named head known).admits (requestFieldBytes f) = true := by
    intro head known fields hk h
    simp only [FieldForm.fits, Bool.and_eq_true, decide_eq_true_eq] at h
    simp only [RequestShape.admits, Bool.and_eq_true, decide_eq_true_eq]
    exact ⟨h.1, (namedParse_iff _ _ _ (List.drop_sublist ..).length_le).mpr ⟨fields, hk, h.2⟩⟩
  have lists : ∀ before w (counts : List Nat) bh, (FieldForm.lists before w counts bh).fits (requestFieldBytes f) = true →
      (RequestShape.lists before w counts.length bh).admits (requestFieldBytes f) = true := by
    intro before w counts bh h
    simp only [FieldForm.fits, Bool.and_eq_true, decide_eq_true_eq] at h
    simp only [RequestShape.admits, Bool.and_eq_true, decide_eq_true_eq]
    exact ⟨h.1, (listsParse_iff ..).mpr ⟨counts, rfl, h.2⟩⟩
  have width : ∀ bs : List Nat, (FieldForm.exactly bs).fits (requestFieldBytes f) = true →
      (requestFieldBytes f).length = bs.length := by
    intro bs h; simp [FieldForm.fits] at h; simp [← h]
  simp only [requestParses, hc, Option.bind_some]
  cases i <;> simp only [requestForm, Option.some.injEq, Prod.mk.injEq, reduceCtorEq] at h
  case writeGroupParameters g fs =>
    obtain ⟨rfl, rfl⟩ := h
    exact named _ _ _ (by
      intro x hx; obtain ⟨y, hy, rfl⟩ := List.mem_map.1 hx
      exact List.mem_map.2 ⟨y.1, by cases y.1 <;> decide, rfl⟩) hf
  case writePortSettings g fs =>
    obtain ⟨rfl, rfl⟩ := h
    exact named _ _ _ (by
      intro x hx; obtain ⟨y, hy, rfl⟩ := List.mem_map.1 hx
      exact List.mem_map.2 ⟨y.1, by cases y.1 <;> decide, rfl⟩) hf
  case stageAgeingParameters fs =>
    obtain ⟨rfl, rfl⟩ := h
    exact named _ _ _ (by
      intro x hx; obtain ⟨y, hy, rfl⟩ := List.mem_map.1 hx
      exact List.mem_map.2 ⟨ageingFieldName y, by cases y <;> simp [ageingFieldName, ageingFields], rfl⟩) hf
  case stringRestore i h' =>
    obtain ⟨rfl, rfl⟩ := h
    exact lists _ _ [_] _ hf
  case visitOpen r =>
    obtain ⟨rfl, rfl⟩ := h
    exact lists _ _ [_, _] _ hf
  case acceptReplacementNew a b =>
    split at h
    · simp at h
    · simp at h; obtain ⟨rfl, rfl⟩ := h
      simpa [plainForm, FieldForm.fits, requestShape, RequestShape.admits] using hf
  case resetTraffic k =>
    split at h
    · simp at h
    · simp at h; obtain ⟨rfl, rfl⟩ := h
      simpa [requestShape, RequestShape.admits] using width _ hf
  case writeNodeEntry k r =>
    obtain ⟨rfl, rfl⟩ := h
    revert hf; unfold nodeForm
    split <;> simp +contextual [FieldForm.fits, requestShape, RequestShape.admits]
  case readStringAgeing a b c =>
    obtain ⟨rfl, rfl⟩ := h
    revert hf; unfold ageingReadForm
    split <;> simp +contextual [FieldForm.fits, requestShape, RequestShape.admits]
  case planRequest a b c =>
    obtain ⟨rfl, rfl⟩ := h
    revert hf; unfold planForm
    split <;> simp +contextual [FieldForm.fits, requestShape, RequestShape.admits]
  case readPortCounters c =>
    obtain ⟨rfl, rfl⟩ := h
    revert hf; generalize requestFieldBytes f = p
    intro hf
    match p, hf with
    | [x], _ => rfl
  all_goals
    obtain ⟨rfl, rfl⟩ := h
    first
      | simpa [plainForm, FieldForm.fits, requestShape, RequestShape.admits] using hf
      | simpa [requestShape, RequestShape.admits] using width _ hf

/-- A list of forms of fields is the forms of a list of fields. -/
theorem exists_map_form {α : Type} {form : α → Byte × Nat} {forms : List (Byte × Nat)}
    (each : ∀ x ∈ forms, x ∈ Set.range form) : ∃ fields : List α, fields.map form = forms :=
  (Set.range_list_map form).symm.subset each

/-- The form of every field that a Stage Ageing Parameters may name is that of some operand (R63, R64). -/
theorem ageingFieldForm_range : ∀ x ∈ ageingFields.map ageingFieldForm,
    x ∈ Set.range (fun field => ageingFieldForm (ageingFieldName field)) := by
  have names : ageingFields = [AgeingField.factor 0 0, .factorTable (Vector.replicate 10 0), .designLife 0, .weight 0 0,
    .weightTable (Vector.replicate 4 0), .rEol 0, .dischargeThreshold 0, .dtLimit 0, .learningCycles 0, .trimStep 0,
    .recoveryTime 0, .t1 0, .t2 0, .t3 0].map ageingFieldName := rfl
  rw [names, List.map_map, List.forall_mem_map]
  exact fun field _ => Set.mem_range_self field

/-- A frame that parses fits some request command (R184). -/
theorem fits_of_requestParses (f : Frame) (h : requestParses f = true) : ∃ i code form, requestForm i = some (code, form) ∧
    requestCode f = some code ∧ form.fits (requestFieldBytes f) = true := by
  simp only [requestParses, Option.any_eq_true, Option.bind_eq_some_iff] at h
  obtain ⟨shape, ⟨code, hc, hs⟩, ha⟩ := h
  revert ha
  generalize requestFieldBytes f = p
  intro ha
  have bytes : ∀ n, shape = .sizes [n] → p.length = n := by rintro n rfl; simpa [RequestShape.admits] using ha
  have plain : ∀ i, requestForm i = some (code, plainForm code) →
      requestShape code = some (.sizes [fieldBytes code 0 (leastBytes code)]) →
      ∃ i c form, requestForm i = some (c, form) ∧ requestCode f = some c ∧ form.fits p = true := by
    intro i hi h'
    rw [h', Option.some.injEq] at hs
    exact ⟨i, code, _, hi, hc, by simpa [plainForm, FieldForm.fits] using bytes _ hs.symm⟩
  have named : ∀ (head : Nat) (known : List (Byte × Nat)), shape = .named head known → ∃ fields ⊆ known,
      (FieldForm.named head fields).fits p = true := by
    rintro head known rfl
    simp only [RequestShape.admits, Bool.and_eq_true, decide_eq_true_eq] at ha
    obtain ⟨fs, h1, h2⟩ := (namedParse_iff _ _ _ (List.drop_sublist ..).length_le).mp ha.2
    exact ⟨fs, h1, by simp [FieldForm.fits, ha.1, h2]⟩
  have lists : ∀ before w n bh, shape = .lists before w n bh → ∃ counts : List Nat, counts.length = n ∧
      (FieldForm.lists before w counts bh).fits p = true := by
    rintro before w n bh rfl
    simp only [RequestShape.admits, Bool.and_eq_true, decide_eq_true_eq] at ha
    obtain ⟨fs, h1, h2⟩ := (listsParse_iff ..).mp ha.2
    exact ⟨fs, h1, by simp [FieldForm.fits, ha.1, h2]⟩
  match code, hs with
  | 0, hs => simp [requestShape] at hs
  | 1, hs => cases hs; exact ⟨.readIdentity, _, _, rfl, hc, by simpa [FieldForm.fits] using bytes 0 rfl⟩
  | 5, hs => cases hs; exact ⟨.startSupervision, _, _, rfl, hc, by simpa [FieldForm.fits] using bytes 0 rfl⟩
  | 6, hs => cases hs; exact ⟨.stopSupervision, _, _, rfl, hc, by simpa [FieldForm.fits] using bytes 0 rfl⟩
  | 13, hs => cases hs; exact ⟨.commitAgeingParameters, _, _, rfl, hc, by simpa [FieldForm.fits] using bytes 0 rfl⟩
  | 10, hs =>
    cases hs
    have := bytes 2 rfl
    match p, this with
    | [a, b], _ => exact ⟨.writeGateEntry a.toNat b.toNat, _, _, rfl, hc, by simp [FieldForm.fits]⟩
  | 14, hs =>
    cases hs
    have := bytes 1 rfl
    match p, this with
    | [a], _ => exact ⟨.readAgeingParameters a.toNat, _, _, rfl, hc, by simp [FieldForm.fits]⟩
  | 32, hs =>
    cases hs
    have := bytes 1 rfl
    match p, this with
    | [a], _ => exact ⟨.readPortCounters (a != 0), _, _, rfl, hc, by simp [FieldForm.fits]⟩
  | 33, hs =>
    cases hs
    have := bytes 1 rfl
    match p, this with
    | [a], _ =>
      by_cases h2 : a.toNat = 2
      · exact ⟨.resetFull, _, _, rfl, hc, by simp [FieldForm.fits, h2]⟩
      · exact ⟨.resetTraffic a.toNat, _, _, if_neg h2, hc, by simp [FieldForm.fits]⟩
  | 2, hs =>
    cases hs
    simp [RequestShape.admits] at ha
    rcases ha with ha | ha | ha | ha
    · exact ⟨.writeNodeEntry 0 ⟨0, 0, 0, .cabinet 0 0 false 0 none⟩, _, _, rfl, hc, by simp [nodeForm, FieldForm.fits, ha]⟩
    · exact ⟨.writeNodeEntry 0 ⟨0, 0, 0, .cabinet 0 0 false 0 (some 0)⟩, _, _, rfl, hc,
        by simp [nodeForm, FieldForm.fits, ha]⟩
    · exact ⟨.writeNodeEntry 0 ⟨0, 0, 0, .stringMonitor 0 0 0 0⟩, _, _, rfl, hc, by simp [nodeForm, FieldForm.fits, ha]⟩
    · exact ⟨.writeNodeEntry 0 ⟨0, 0, 0, .otherRole⟩, _, _, rfl, hc, by simp [nodeForm, FieldForm.fits, ha]⟩
  | 18, hs =>
    cases hs
    simp [RequestShape.admits] at ha
    rcases ha with ha | ha
    · exact ⟨.readStringAgeing 0 1 0, _, _, rfl, hc, by simp [ageingReadForm, FieldForm.fits, ha]⟩
    · exact ⟨.readStringAgeing 0 2 0, _, _, rfl, hc, by simp [ageingReadForm, FieldForm.fits, ha]⟩
  | 23, hs =>
    cases hs
    simp [RequestShape.admits] at ha
    rcases ha with ha | ha
    · exact ⟨.planRequest 0 0 none, _, _, rfl, hc, by simp [planForm, FieldForm.fits, ha]⟩
    · exact ⟨.planRequest 0 0 (some 0), _, _, rfl, hc, by simp [planForm, FieldForm.fits, ha]⟩
  | 7, hs =>
    cases hs
    obtain ⟨fields, h1, h2⟩ := named _ _ rfl
    obtain ⟨ks, rfl⟩ := exists_map_form fun x hx => (List.mem_map.mp (h1 hx)).imp fun _ => And.right
    exact ⟨.writeGroupParameters 0 (ks.map (·, 0)), _, _, rfl, hc, by simpa [groupForm, Function.comp_def] using h2⟩
  | 11, hs =>
    cases hs
    obtain ⟨fields, h1, h2⟩ := named _ _ rfl
    obtain ⟨ks, rfl⟩ := exists_map_form fun x hx => (List.mem_map.mp (h1 hx)).imp fun _ => And.right
    exact ⟨.writePortSettings 0 (ks.map (·, 0)), _, _, rfl, hc, by simpa [portForm, Function.comp_def] using h2⟩
  | 12, hs =>
    cases hs
    obtain ⟨fields, h1, h2⟩ := named _ _ rfl
    obtain ⟨fs, rfl⟩ := exists_map_form fun x hx => ageingFieldForm_range x (h1 hx)
    exact ⟨.stageAgeingParameters fs, _, _, rfl, hc, by simpa [stageForm, Function.comp_def] using h2⟩
  | 19, hs =>
    cases hs
    obtain ⟨counts, h1, h2⟩ := lists _ _ _ _ rfl
    match counts, h1 with
    | [n], _ =>
      exact ⟨.stringRestore 0 ⟨0, 0, 0, Vector.replicate 4 0, List.replicate n 0, 0, 0⟩, _, _, rfl, hc,
        by simpa [restoreForm] using h2⟩
  | 27, hs =>
    cases hs
    obtain ⟨counts, h1, h2⟩ := lists _ _ _ _ rfl
    match counts, h1 with
    | [n, m], _ =>
      exact ⟨.visitOpen ⟨0, List.replicate n 0, List.replicate m 0, 0, 0, 0⟩, _, _, rfl, hc,
        by simpa [visitForm] using h2⟩
  | 3, _ => exact plain (.clearNodeEntry 0) rfl rfl
  | 4, _ => exact plain (.readNodeEntry 0) rfl rfl
  | 8, _ => exact plain (.writeLimitEntry 0 ⟨0, 0, 0, 0, 0, 0, 0, false⟩) rfl rfl
  | 9, _ => exact plain (.writeAlarmClass 0 0 .yes .yes) rfl rfl
  | 15, _ => exact plain (.readCabinetRecord 0) rfl rfl
  | 16, _ => exact plain (.readStringRecord 0) rfl rfl
  | 17, _ => exact plain (.readStringBlocks 0 0) rfl rfl
  | 20, _ => exact plain (.acceptReplacementSame 0) rfl rfl
  | 21, _ => exact plain (.readAlarmList 0) rfl rfl
  | 22, _ => exact plain (.acknowledgeAlarm 0 0 0) rfl rfl
  | 24, _ => exact plain (.planResume 0) rfl rfl
  | 25, _ => exact plain (.planAbandon 0) rfl rfl
  | 26, _ => exact plain (.readPlan 0) rfl rfl
  | 28, _ => exact plain (.visitClose 0) rfl rfl
  | 29, _ => exact plain (.visitForceClose 0) rfl rfl
  | 30, _ => exact plain (.visitCancel 0) rfl rfl
  | 31, _ => exact plain (.readVisit 0) rfl rfl
  | n + 34, hs => simp [requestShape] at hs

/-- A frame parses exactly when its code and its bytes fit some request command (R184). -/
theorem requestParses_iff (f : Frame) : requestParses f = true ↔ ∃ i code form, requestForm i = some (code, form) ∧
    requestCode f = some code ∧ form.fits (requestFieldBytes f) = true :=
  ⟨fits_of_requestParses f, fun ⟨i, code, form, h, hc, hf⟩ => requestParses_of_fits f i code form h hc hf⟩

/-! The replies of parts (R188). -/

/-- A packed entry takes at most 15 bytes (R188). -/
theorem AlarmEntry.packed_length_le (e : AlarmEntry) : e.packed.length ≤ 15 := by
  cases h : e.detail <;> simp [AlarmEntry.packed, bytes32, h]

/-- Pieces of at most `width` bytes each, one for each member of a list. -/
theorem flatMap_length_le {α : Type} {piece : α → List Byte} {width : Nat} (h : ∀ x, (piece x).length ≤ width) (l : List α) :
    (l.flatMap piece).length ≤ width * l.length := by
  induction l with
  | nil => simp
  | cons x l ih =>
    have := h x
    rw [List.flatMap_cons, List.length_append, List.length_cons, Nat.mul_succ]
    omega

/-- Eight packed entries fit beside the number of entries and the lost-alarm count, within 128 bytes (R188). -/
theorem Result.alarmList_bytes_length_le (code room count lost : Nat) {es : List AlarmEntry} (h : es.length ≤ 8) :
    (Result.bytes code room (.alarmList count lost (es.map AlarmEntry.packed))).length ≤ 125 := by
  have fit := flatMap_length_le AlarmEntry.packed_length_le es
  simp only [Result.bytes, openWidth, List.length_append, List.length_take, ← List.flatMap_def]
  omega

/-- Sixteen blocks of the LISTS part fit within 128 bytes (R188). -/
theorem Result.ageingLists_bytes_length_le (code room : Nat) {bs : List (Nat × Nat)} (h : bs.length ≤ 16) :
    (Result.bytes code room (.ageingLists bs)).length ≤ 125 := by
  have fit := flatMap_length_le (width := 7)
    (piece := fun b : Nat × Nat => bytes16 b.1 ++ (Config.riseBytes b.2).take openWidth)
    (fun b => by simp only [bytes16, openWidth, List.length_append, List.length_take, List.length_cons, List.length_nil]; omega) bs
  simp only [Result.bytes]
  omega

/-! The fields of the other replies (R178, R188). -/

/-- The bytes of the enumerated fields and flags among some fields. -/
def fieldCodes (fs : List ReplyField) : List Byte := fs.flatMap (fun f => match f with | .byte b => [b] | .free _ _ => [])

/-- Fields take no more than their room beside one byte for each enumerated field and flag. -/
theorem fieldsBytes_length_le (code : Nat) (fs : List ReplyField) :
    ∀ room, (fieldsBytes code room fs).length ≤ room + fs.countP ReplyField.isByte := by
  induction fs with
  | nil => simp [fieldsBytes]
  | cons f fs ih =>
    intro room
    cases f with
    | byte b =>
      have := ih room
      simp only [fieldsBytes, List.length_cons, List.countP_cons, ReplyField.isByte, if_true]
      omega
    | free field value =>
      have cut : ((Config.resultBytes code field value).take room).length ≤ room := List.length_take_le ..
      have := ih (room - ((Config.resultBytes code field value).take room).length)
      simp only [fieldsBytes, List.length_append, List.countP_cons, ReplyField.isByte]
      omega

/-- Every enumerated field and flag stands in the bytes, in its place among the others (R178). -/
theorem fieldCodes_sublist (code : Nat) (fs : List ReplyField) :
    ∀ room, (fieldCodes fs).Sublist (fieldsBytes code room fs) := by
  induction fs with
  | nil => simp [fieldsBytes, fieldCodes]
  | cons f fs ih =>
    intro room
    cases f with
    | byte b => exact (ih room).cons_cons b
    | free field value => exact (ih _).trans (List.sublist_append_right ..)

end Sys2Proof.Machine
end

