-- ==== Sys2Proof/Tests/Slice0.lean ====
section
/-! SUPPORT. Smoke tests of the well-formedness checks, the worked examples of the spec on the model, and for each
statement with hypotheses a witness: a concrete state and operands that meet them. -/

namespace Sys2Proof.Tests

open Sys2Proof Sys2Proof.Machine

/-! One theorem after the other: run all at once, the kernel evaluations wait on one another, each on a thread of its
own with a full stack. -/
set_option Elab.async false

/-! An ill-formed term for each check, which the check refuses. -/

theorem test_wf_byte : isByte 255 = true ∧ isByte 256 = false := by decide
theorem test_wf_two_bytes : isTwoBytes 65535 = true ∧ isTwoBytes 65536 = false := by decide
theorem test_wf_watch : (Instr.watchExpiry (.cabinet 23)).wf = true ∧ (Instr.watchExpiry (.cabinet 24)).wf = false ∧
    (Instr.watchExpiry (.string 31)).wf = true ∧ (Instr.watchExpiry (.string 32)).wf = false := by decide
theorem test_wf_window : (Instr.replyWindowExpiry ⟨.site, 239, 0⟩).wf = true ∧
    (Instr.replyWindowExpiry ⟨.site, 0, 0⟩).wf = false ∧ (Instr.completionWindowExpiry ⟨.plan, 240, 0⟩).wf = false := by
  decide
theorem test_wf_slot : (Instr.stepTrigger 3).wf = true ∧ (Instr.stepTrigger 4).wf = false := by decide
theorem test_wf_recovery : (Instr.recoveryTimerExpiry 31).wf = true ∧ (Instr.recoveryTimerExpiry 32).wf = false := by
  decide
theorem test_wf_visit_timer : (Instr.closeTimerExpiry 255).wf = true ∧ (Instr.closeTimerExpiry 0).wf = false ∧
    (Instr.prepareTimerExpiry 256).wf = false := by decide
theorem test_wf_node : (Instr.writeNodeEntry 0 ⟨1, 500, 1, .cabinet 0 0 true 10 none⟩).wf = true ∧
    (Instr.writeNodeEntry 0 ⟨256, 500, 1, .otherRole⟩).wf = false ∧
    (Instr.writeNodeEntry 0 ⟨1, 500, 1, .cabinet 0 256 true 10 none⟩).wf = false ∧
    (Instr.writeNodeEntry 0 ⟨1, 500, 1, .stringMonitor 0 0 256 1⟩).wf = false ∧
    (Instr.writeNodeEntry 256 ⟨1, 500, 1, .otherRole⟩).wf = false := by decide
theorem test_wf_limit : (Instr.writeLimitEntry 0 ⟨1, 255, 1, 5, 4, 1, 32, true⟩).wf = true ∧
    (Instr.writeLimitEntry 0 ⟨1, 256, 1, 5, 4, 1, 32, true⟩).wf = false := by decide
theorem test_wf_staged_field : (Instr.stageAgeingParameters [.factor 255 0]).wf = true ∧
    (Instr.stageAgeingParameters [.weight 256 0]).wf = false := by decide
theorem test_wf_restore : (Instr.stringRestore 0 ⟨0, 0, 0, #v[0, 0, 0, 0], [65536], 1, 0⟩).wf = false ∧
    (Instr.stringRestore 0 ⟨0, 0, 0, #v[0, 0, 0, 0], [65535], 256, 0⟩).wf = false := by decide
theorem test_wf_accept : (Instr.acceptReplacementNew 0 1).wf = true ∧ (Instr.acceptReplacementNew 0 2).wf = false := by
  decide
theorem test_wf_visit_open : (Instr.visitOpen ⟨1, [255], [255], 3, 1000, 1⟩).wf = true ∧
    (Instr.visitOpen ⟨256, [0], [], 1, 1, 1⟩).wf = false ∧ (Instr.visitOpen ⟨1, [256], [], 1, 1, 1⟩).wf = false ∧
    (Instr.visitOpen ⟨1, [0], [256], 1, 1, 1⟩).wf = false ∧ (Instr.visitOpen ⟨1, [0], [], 256, 1, 1⟩).wf = false := by
  decide
theorem test_wf_reset : (Instr.resetTraffic 1).wf = true ∧ (Instr.resetTraffic 2).wf = false := by decide
theorem test_wf_character : (Instr.characterRepeated .s 134).wf = true ∧ (Instr.characterRepeated .s 135).wf = false := by
  decide

/-! The floor the tests use: cabinets 0 (the lead), 1 and 2 of group 0 at addresses 11, 12 and 13, and string 0 of two
blocks, owned by cabinet 0, at address 21. -/

def cabRole (c : Nat) : CabNode := ⟨c, 0, c == 0, 100, 600⟩
def cabEntry (c : Nat) : DirEntry := ⟨11 + c, 1000, 3, .cabinet (cabRole c)⟩
def strRole : StrNode := ⟨0, 0, 2, 100⟩
def strEntry : DirEntry := ⟨21, 1000, 3, .stringMonitor strRole⟩

/-- A cabinet that has reported a mode and is expected in it. -/
def cabIn (c : Nat) (m : Mode) : CabRec :=
  { startCabinet 0 (cabEntry c) (cabRole c) with reported := some m, expected := some m, liveness := .live, bypass := .good }

/-- A string that has reported the serial 5. -/
def strUp : StrRec := { startString 0 strEntry strRole with serial := 5, liveness := .live }

/-- The directory of the floor. -/
def directory : Vector (Option DirEntry) 56 :=
  ((((Vector.replicate 56 none).set 0 (some (cabEntry 0))).set 1 (some (cabEntry 1))).set 2 (some (cabEntry 2))).set 3
    (some strEntry)

/-- The floor with its three cabinets in three modes. -/
def floor (m0 m1 m2 : Mode) : State := { State.reset with
  resp := ⟨.supervising, directory, Vector.replicate 32 none⟩
  cabs := (((Vector.replicate 24 none).set 0 (some (cabIn 0 m0))).set 1 (some (cabIn 1 m1))).set 2 (some (cabIn 2 m2))
  strs := (Vector.replicate 32 none).set 0 (some strUp) }

/-- The floor with every cabinet ONLINE. -/
def online : State := floor .online .online .online

/-- A state with one frame at the head of a port's inbound queue. -/
def came (p : Port) (f : Frame) (s : State) : State := s.withPort p { s.port p with inq := [f] }

/-- A MANAGE frame to 240 with a request code and the bytes behind it. -/
def askWith (code : Nat) (bytes : List Byte) : Frame := wireFrame 240 0 .manage 7 (byteOf code :: bytes)

/-- A state with that frame at the head of the Port S inbound queue. -/
def askedWith (code : Nat) (bytes : List Byte) (s : State) : State := came .s (askWith code bytes) s

/-- A frame of no interest. -/
def someFrame : Frame := askWith 1 []

/-- Bytes of a form, every field 0. -/
def sample : FieldForm → List Byte
  | .exactly bs => bs.map byteOf
  | .flag b => [if b then 1 else 0]
  | .sized n => List.replicate n 0#8
  | .named head fields => List.replicate head 0#8 ++ fields.flatMap (fun x => x.1 :: List.replicate x.2 0#8)
  | .lists before width counts behind => List.replicate before 0#8 ++
      (counts.flatMap (fun n => byteOf n :: List.replicate (width * n) 0#8) ++ List.replicate behind 0#8)

/-- Every byte that a form gives, and every count of its lists, fits one byte. -/
def small : FieldForm → Bool
  | .exactly bs => bs.all (· < 256)
  | .lists _ _ counts _ => counts.all (· < 256)
  | _ => true

theorem toNat_byteOf {n : Nat} (h : n < 256) : (byteOf n).toNat = n := by simp [byteOf, Nat.mod_eq_of_lt h]

theorem sample_fits : ∀ form : FieldForm, small form = true → form.fits (sample form) = true
  | .exactly bs, h => by
    simp only [small, List.all_eq_true, decide_eq_true_eq] at h
    simp only [FieldForm.fits, sample, List.map_map, beq_iff_eq]
    exact (List.map_congr_left fun n hn => toNat_byteOf (h n hn)).trans (List.map_id bs)
  | .flag b, _ => by cases b <;> rfl
  | .sized n, _ => by simp [FieldForm.fits, sample]
  | .named head fields, _ => by
    have : ∀ l : List (Byte × Nat), namedFit l (l.flatMap (fun x => x.1 :: List.replicate x.2 0#8)) = true := by
      intro l
      induction l with
      | nil => rfl
      | cons x l ih => simp [namedFit, ih]
    simp [FieldForm.fits, sample, this]
  | .lists before width counts behind, h => by
    have : ∀ l : List Nat, l.all (· < 256) = true → listsFit width behind l
        (l.flatMap (fun n => byteOf n :: List.replicate (width * n) 0#8) ++ List.replicate behind 0#8) = true := by
      intro l
      induction l with
      | nil => simp [listsFit]
      | cons n l ih =>
        intro h
        simp only [List.all_cons, Bool.and_eq_true, decide_eq_true_eq] at h
        simp [listsFit, toNat_byteOf h.1, ih h.2]
    simp [FieldForm.fits, sample, this counts h]

/-- A request of a code and form, and a state with it at the head of the Port S inbound queue. -/
def ask (code : Nat) (form : FieldForm) : Frame := askWith code (sample form)
def asked (code : Nat) (form : FieldForm) (s : State) : State := came .s (ask code form) s

/-- That request can be taken at that state. -/
abbrev Asks (code : Nat) (form : FieldForm) (s : State) : Prop := Takes code form (ask code form) (asked code form s)

/-- What that rests on. -/
def askable (code : Nat) (form : FieldForm) (s : State) : Bool :=
  decide (code < 256 ∧ small form = true ∧ s.bridge = .opened ∧ s.fullReset = .idle ∧ s.replyQ.length < replyPlaces)

theorem asks {code : Nat} {form : FieldForm} {s : State} (h : askable code form s = true) : Asks code form s := by
  obtain ⟨hc, hf, hb, hr, hq⟩ := of_decide_eq_true h
  refine ⟨hb, hr, hq, rfl, ?_, sample_fits form hf⟩
  change some (byteOf code).toNat = _
  rw [toNat_byteOf hc]

/-- A test on the state a command leaves. -/
def leaves (i : Instr) (s : State) (test : State → Bool) : Bool :=
  match exec i s with
  | .next t => test t
  | _ => false

/-- A test on the MANAGE-REPLY a request leaves in the reply queue. -/
def replies (i : Instr) (s : State) (r : ManageReply) : Bool :=
  leaves i s (fun t => decide (t.replyQ = [manageReplyFrame 7 r] ∧ t.portS.inq = []))

/-! Worked examples of the spec. -/

/-- R177: the CRC of the nine characters 123456789 is 29B1h. -/
theorem test_crc_check : crc16 [0x31, 0x32, 0x33, 0x34, 0x35, 0x36, 0x37, 0x38, 0x39] = 0x29B1 := by decide +kernel

/-- The table of R74: 315 gives 588, 200 gives 256, −200 gives 64, 700 gives F[9]; and 286 with F[6] 300, F[7] 256. -/
theorem test_temperature_factor : temperatureFactor defaultAgeing.factors 315 = 588 ∧
    temperatureFactor defaultAgeing.factors 200 = 256 ∧ temperatureFactor defaultAgeing.factors (-200) = 64 ∧
    temperatureFactor defaultAgeing.factors 700 = 8192 ∧
    temperatureFactor #v[64, 64, 96, 160, 256, 512, 300, 256, 4096, 8192] 433 = 286 := by decide +kernel

/-- The worked figures of R75: Δt 60, F 588, R_cal 200 add 138 and leave 152. -/
theorem test_calendar_wear : let a := calendarWear { startAgeing 2 with wCal := 99999862, rCal := 200 } 60 588
    a.wCal = 100000000 ∧ a.rCal = 152 := by decide +kernel

/-- Carrying the fraction of a second (after R72): reports 1, 3 and 5 of string 3. -/
theorem test_time_steps :
    timeStep defaultAgeing { startAgeing 2 with base := .valid, lastMs := 1000 } 61700 = ⟨60, 61000, false⟩ ∧
    timeStep defaultAgeing { startAgeing 2 with base := .valid, lastMs := 122000 } 122800 = ⟨0, 122000, false⟩ ∧
    timeStep defaultAgeing { startAgeing 2 with base := .valid, lastMs := 183000 } 583250 = ⟨300, 583250, true⟩ := by
  decide +kernel

/-- The worked figures of R78: rises of 180, 298, and 2000 for 2 222. -/
theorem test_rises : riseOf 1000 1180 = 180 ∧ riseOf 1240 1610 = 298 ∧ riseOf 900 2900 = 2000 ∧ riseOf 1000 900 = 0 := by
  decide

/-- One update whole (chapter 4): string 6, here string 0 of seven blocks. -/
theorem test_update_whole :
    let before : Ageing := { startAgeing 7 with
      base := .valid, lastMs := 3600500, lastTeff := some 300, wCal := 99999862, rCal := 200, activity := .discharge,
      charge := 810000, soc := 775, qThr := 5000000, bins := #v[40, 12, 3, 1], baseline := List.replicate 7 1000,
      baselineState := .learned, rises := [0, 0, 0, 0, 0, 0, 170], worstRise := 170 }
    let a := withLife defaultAgeing (ageRecord defaultAgeing 100 false ⟨0, 0⟩
      ⟨0, 3661020, 1500, [315, 290, -32768], 5, [(7, 1180)]⟩ before)
    (a.lastMs = 3660500 ∧ a.lastTeff = some 315 ∧ a.wCal = 100000000 ∧ a.rCal = 152) ∧
    (a.activity = .discharge ∧ a.charge = 900000 ∧ a.soc = 750 ∧ a.qThr = 5090000) ∧
    (a.rises = [0, 0, 0, 0, 0, 0, 180] ∧ a.worstRise = 180 ∧ a.bins = #v[40, 12, 3, 1]) ∧
    (a.cFrac = 317 ∧ a.yFrac = 14 ∧ a.rFrac = 360 ∧ a.life = 360 ∧ a.limiting = .resistance ∧ a.grade = .good ∧
      a.reserve = 480) := by decide +kernel

/-- One discharge and its recovery (chapter 5): the states after reports 3, 6 and 8. -/
theorem test_discharge_cycle :
    let run := fun (l : List Int) => l.foldl
      (fun a i => activityStep defaultAgeing 50 false ⟨7, 28800000⟩ i (dischargeProduct i 60) a)
      { startAgeing 2 with bins := #v[3, 1, 0, 0] }
    let a := run [5, 800, 820]
    let b := run [5, 800, 820, 810, 15, -300]
    let c := run [5, 800, 820, 810, 15, -300, -120, -10]
    (a.activity = .discharge ∧ a.charge = 49200 ∧ a.soc = 973) ∧
    (b.activity = .recharge ∧ b.charge = 98700 ∧ b.soc = 946 ∧ b.bins = #v[4, 1, 0, 0]) ∧
    (c.activity = .float ∧ c.recovery = some ⟨7, 28800000⟩) := by decide +kernel

/-- Learning two blocks (chapter 5), reports 1, 2, 4 and 5, then the rise of report 6; and a list of learning that finds rises
a String Restore left above 0 (R78, R79). -/
theorem test_learning :
    let a := [[(3, 1050)], [(3, 1010), (5, 1200)], [(3, 1035)], [(3, 990), (5, 1208)]].foldl
      (fun a l => resistanceStep defaultAgeing l a) (startAgeing 5)
    let b := resistanceStep defaultAgeing [(3, 1096)] a
    a.baseline = [0, 0, 1015, 0, 1208] ∧ a.learnCount = 4 ∧ a.baselineState = .learned ∧ b.rises = [0, 0, 79, 0, 0] ∧
    (let c := resistanceStep defaultAgeing [(1, 1000)] { startAgeing 2 with rises := [180, 298], worstRise := 298 }
     c.baselineState = .learning ∧ c.rises = [0, 0] ∧ c.worstRise = 0) := by decide +kernel

/-- Restoring a string (chapter 5). -/
theorem test_restore :
    let a := withLife defaultAgeing (restoreAgeing
      ⟨250000000, 100, 40000000, #v[60, 20, 5, 2], [1000], 1, 4⟩ .learned
      { startAgeing 1 with base := .valid, wCal := 1200, rCal := 200, learnCount := 2 })
    a.wCal = 250001201 ∧ a.rCal = 44 ∧ a.qThr = 40000000 ∧ a.base = .valid ∧ a.learnCount = 4 ∧ a.cFrac = 792 ∧
      a.yFrac = 24 ∧ a.life = 792 ∧ a.limiting = .calendar ∧ a.grade = .fair := by decide +kernel

/-- A cabinet temperature limit (chapter 2): the record after each report. -/
theorem test_limit_record :
    let e : LimitEntry := ⟨.cabTemp, .one 7, .high, 450, 400, 3, 40, true⟩
    let after := fun l : List Int => l.foldl (fun r v => e.judge v r) ⟨0, false⟩
    after [440] = ⟨0, false⟩ ∧ after [440, 455, 460] = ⟨2, false⟩ ∧ after [440, 455, 460, 430] = ⟨0, false⟩ ∧
      after [452, 458, 461] = ⟨3, true⟩ ∧ after [452, 458, 461, 470, 420] = ⟨3, true⟩ ∧
      after [452, 458, 461, 470, 420, 400] = ⟨0, false⟩ := by decide +kernel

/-- Counting a mismatch (chapter 2): reports 2 to 5 of cabinet 3. -/
theorem test_mismatch_count :
    let r := fun (m : Mode) (echo n : Nat) =>
      ({ cabIn 0 .online with reported := some m, shareEcho := echo, mismatch := n }).nextMismatch 20
    r .online 975 0 = 1 ∧ r .staticBypass 975 1 = 2 ∧ r .staticBypass 990 2 = 3 ∧ r .onBattery 990 3 = 3 ∧
      r .online 1000 3 = 0 := by decide +kernel

/-- The capacity check (chapter 6), with four members of ratings 400, 400, 300 and 300 at 600 and 700 permille: SET_SHARE
0 to the first passes, and fails when the second stands at 800. -/
theorem test_capacity :
    let cab := fun rating load share : Nat =>
      some { cabIn 0 .online with rating := rating, load := load, share := share, lead := false }
    let group := fun second : Nat => State.reset.withCabs (((((Vector.replicate 24 none).set 8 (cab 400 600 1000)).set 9
      (cab 400 600 second)).set 10 (cab 300 700 1000)).set 11 (cab 300 700 1000))
    capacityPasses (group 1000) 0 8 0 = true ∧ capacityPasses (group 800) 0 8 0 = false := by decide +kernel

/-- The fair share in the RESTORE example (chapter 7): 900 000 / 1 400 is 642. -/
theorem test_fair_share :
    let cab := fun rating load : Nat => some { cabIn 0 .online with rating := rating, load := load }
    let s := State.reset.withCabs (((((Vector.replicate 24 none).set 8 (cab 400 80)).set 9 (cab 400 868)).set 10
      (cab 300 868)).set 11 (cab 300 868))
    (cab? s 8).map (fairShare s 0) = some 642 := by decide +kernel

/-- The cabinet reserve (after R15): 480 of 480, 610 and 720, and 0 with a SILENT string. -/
theorem test_cabinet_reserve :
    let str := fun (l : Liveness) (n : Nat) =>
      some { strUp with liveness := l, ageing := { startAgeing 2 with reserve := n } }
    let entry := fun i : Nat => some (⟨21 + i, 1000, 3, .stringMonitor ⟨i, 5, 2, 100⟩⟩ : DirEntry)
    let dir := (((Vector.replicate 56 none).set 0 (entry 10)).set 1 (entry 11)).set 2 (entry 12)
    let s := fun l => (State.reset.withResp ⟨.supervising, dir, Vector.replicate 32 none⟩).withStrs
      ((((Vector.replicate 32 none).set 10 (str l 480)).set 11 (str .live 610)).set 12 (str .live 720))
    cabReserve (s .live) 5 = 480 ∧ cabReserve (s .silent) 5 = 0 := by decide +kernel

/-- The full list (chapter 3) in small: of the two ACKNOWLEDGED entries below level 2 the older gives way, and nothing
gives way to level 1. -/
theorem test_victim :
    let e := fun (c : Nat) (l : Nat) (st : AlarmState) => (⟨c, .supervisor, l, st, 0, 0, 1, none⟩ : AlarmEntry)
    let l := [e 1 2 .active, e 6 1 .acknowledged, e 40 1 .acknowledged, e 45 1 .active, e 17 1 .active]
    let a : AlarmUnit := { State.reset.alarm with list := l }
    (a.victim? 2).map (·.code) = some 6 ∧ (a.victim? 1).map (·.code) = none := by decide +kernel

/-- Arbitration at Port S (chapter 9): with the count at 3 a forwarded frame goes, with the count at 4 the notice, and the
reply queue before both. -/
theorem test_arbitration :
    let p := wireFrame 0 11 .report 1 []
    let n := wireFrame 0 240 .notice 2 []
    let a := wireFrame 0 240 .reply 3 []
    let port : PortState := { resetPort with fwd := [p] }
    let s := fun (run : Nat) (rq : List Frame) =>
      { State.reset with portS := port, alarm := { State.reset.alarm with notices := [n] }, fwdRun := run, replyQ := rq }
    let takes := fun (s : State) (f : Frame) (run : Nat) =>
      leaves (.transmitTake .s) s (fun t => decide (t.portS.tx.map (·.frame) = some f ∧ t.fwdRun = run))
    takes (s 3 []) p 4 = true ∧ takes (s 4 []) n 0 = true ∧ takes (s 4 [a]) a 4 = true := by decide +kernel

/-- The noisy floor line (chapter 9): the drop that brings the score to the raise level of 16 raises LINK_ERRORS with
detail 16. -/
theorem test_link_errors :
    let s := fun n : Nat => State.reset.withPortF
      { resetPort with score := n, rx := ⟨.inFrame, [], 0, 5, defaultLine⟩ }
    let alarms := fun (s : State) => leaves (.abandonedRx .f) s
      (fun t => decide (t.alarm.list.map (fun e => (e.code, e.detail)) = [(18, some 16)]))
    alarms (s 15) = true ∧ alarms (s 14) = false := by decide +kernel

/-- The RESTORE example (chapter 7): the first trigger of a RESTORE of a STANDBY cabinet skips DEISOLATE and issues SET_SHARE
0 with the settle 0, and the visit guard of R127 does not stand in its way. -/
theorem test_restore_plan :
    let s := floor .online .online .standby
    let t := planRequestEffect 2 0 (some 2) s
    t.2 = ⟨23, .ok, none, none, .planId 1⟩ ∧
    leaves (.stepTrigger 0) t.1 (fun u => decide ((plan? u 0).bind (·.order) = some ⟨.setShare, 13, 0, some 0⟩ ∧
      (plan? u 0).bind (·.stage) = some .close ∧ u.alarm.notices.length = 2 ∧ u.prio.map (·.slot) = [0])) = true := by
  decide +kernel

/-- The visit through isolation (chapter 8): STANDBY meets BYPASS and not ISOLATION. -/
theorem test_depth : Depth.meets .bypass (some .standby) = true ∧ Depth.meets .isolation (some .standby) = false ∧
    Depth.meets .isolation (some .isolated) = true ∧ Depth.meets .doorOnly none = true := by decide

/-- R178 and R186: Read Identity answers with the part code 4120 and the design level 1. -/
theorem test_identity : replies .readIdentity (asked 1 (.exactly []) State.reset)
    ⟨1, .ok, none, none, .identity 4120 1 .unconfigured 0 0 0 0 0 0⟩ = true := by decide +kernel

/-- R45: the default classes of PLAN_HALTED, LINK_ERRORS, and the first limit code. -/
theorem test_default_classes : (State.reset.alarm.classOf 7, State.reset.alarm.classOf 18, State.reset.alarm.classOf 32) =
    (⟨3, true, false⟩, ⟨1, false, true⟩, ⟨1, false, true⟩) := by decide +kernel

/-- R183, R178: a request refused for its mode is answered by three bytes, its code, REFUSED and MODE; an accepted one by
its code, OK and 0; and a Visit Open that leaves its visit PREPARING by one byte more. -/
theorem test_reply_bytes :
    (manageReplyFrame 7 ⟨24, .refused, some .mode, none, .none⟩).payload = [24, 3, 1] ∧
    (manageReplyFrame 7 ⟨24, .ok, none, none, .none⟩).payload = [24, 1, 0] ∧
    (manageReplyFrame 7 ⟨27, .ok, none, none, .visitState .preparing⟩).payload = [27, 1, 0, 1] := by decide

/-- R44, R45, R178, R188: an entry of Read Alarm List by hand. LINK_ERRORS, code 18 at level 1, is 73; port F, 61 and
CLEARED, 3, is 247; then the count, the two times and the detail. -/
theorem test_packed_entry : AlarmEntry.packed ⟨18, .port .f, 1, .cleared, 258, 259, 2, some 20⟩ =
    [73, 247, 2, 0, 0, 1, 2, 0, 0, 1, 3, 0, 0, 0, 20] := by decide

/-- R178: the ends of the code rows of node role, liveness, time base, activity state and plan state. -/
theorem test_codes : (NodeRole.cabinet (cabRole 0)).toCode = 1 ∧ (NodeRole.stringMonitor strRole).toCode = 2 ∧
    Liveness.neverSeen.toCode = 0 ∧ Liveness.silent.toCode = 2 ∧ TimeBase.fresh.toCode = 0 ∧ TimeBase.broken.toCode = 2 ∧
    Activity.float.toCode = 0 ∧ Activity.recharge.toCode = 2 ∧ PlanState.checking.toCode = 1 ∧
    PlanState.halted.toCode = 5 := by decide

/-- R184: a Reset without its kind is answered BAD_REQUEST, and no Reset takes it. -/
theorem test_short_reset :
    replies .manageBadRequest (askedWith 33 [] State.reset) ⟨33, .badRequest, none, none, .none⟩ = true ∧
    ∀ kind ∈ [0, 1, 3], leaves (.resetTraffic kind) (askedWith 33 [] State.reset)
      (fun t => decide (t.portS.inq = [askWith 33 []])) = true := by decide +kernel

/-- R184, R188: the first block 0 is judged before the existence of the record. -/
theorem test_first_block :
    (readBlocksEffect 1 0 online).2 = ⟨17, .refused, some .badValue, none, .none⟩ ∧
    (readBlocksEffect 1 1 online).2 = ⟨17, .refused, some .notFound, none, .none⟩ := by decide +kernel

/-- R7, R178: the enumerated fields and flags of a Cabinet Table record as it is at its start, by hand: NOT_REPORTED, ABSENT,
CLOSED, test running clear, NEVER_SEEN, UNKNOWN, test flag clear, and the lead flag of cabinet 0. -/
theorem test_cabinet_codes : fieldCodes (Result.fields (.cabinet (startCabinet 0 (cabEntry 0) (cabRole 0)) 3000 1000)) =
    [0, 3, 0, 0, 0, 0, 0, 1] := by decide

/-- R21, R188: a baseline above 65535 stands as it is in Read String Blocks and is read as 65535 in the LISTS part. -/
theorem test_wide_baseline :
    let s := modAge 0 (fun a => { a with baseline := [70000, 65535] }) online
    (readBlocksEffect 0 1 s).2 = ⟨17, .ok, none, none, .blocks [(65535, 70000, 0), (65535, 65535, 0)]⟩ ∧
    (readAgeingEffect 0 2 1 s).2 = ⟨18, .ok, none, none, .ageingLists [(65535, 0), (65535, 0)]⟩ := by decide +kernel

/-! Witnesses: for each statement with hypotheses, states and operands that meet them, clause by clause. -/

/-! The queue of commands, the resets and the clock. -/

theorem witness_ResetsAndTheResetLine :
    (State.reset.withResetLine true).resetLine = true ∧
    ((State.reset.withFullReset .finished).bridge = .opened ∧ (State.reset.withFullReset .finished).fullReset = .finished) ∧
    ((State.reset.withBridge .closed).bridge = .closed ∧ Instr.floorClockTick ≠ .powerOn ∧
      Instr.floorClockTick ≠ .resetLineAsserted ∧ Instr.floorClockTick ≠ .resetLineReleased) := by decide +kernel

theorem witness_TicksCountMillisecondsAndSeconds : State.reset.bridge = .opened ∧ State.reset.clock.phase = 0 := by decide

theorem witness_EveryCommandKeepsItsFrame :
    exec (.watchExpiry (.cabinet 0)) State.reset = .next State.reset := rfl

/-! The ports. -/

/-- A state whose receiver at a port stands as given. -/
def rxAt (p : Port) (r : Rx) : State := State.reset.withPort p { resetPort with rx := r }

theorem witness_ReceiverTakesWaitsAndDrops :
    let rx := fun r : Rx => (rxAt .s r).bridge = .opened ∧ ((rxAt .s r).port .s).rx = r
    (charFaulty 0x41 false true = false ∧ charFaulty 0x41 true true = true ∧ charFaulty 0x41 false false = true) ∧
    (rx ⟨.idle, [], 0, 0, defaultLine⟩ ∧ rx ⟨.waitIdle, [], 48, 0, defaultLine⟩ ∧ rx ⟨.waitIdle, [], 47, 0, defaultLine⟩) ∧
    (rx ⟨.inFrame, [], 0, 0, defaultLine⟩ ∧ (⟨.inFrame, [], 0, 0, defaultLine⟩ : Rx).ended = false) ∧
    12 * defaultLine.waitLimit < 0 + 97 ∧
    (rx ⟨.inFrame, [0, 11, 1, 1, 129], 0, 4, defaultLine⟩ ∧ 128 < byteAt [0, 11, 1, 1, 129] 4) ∧
    rx ⟨.inFrame, [0, 11], 0, 5, defaultLine⟩ := by decide +kernel

/-- A frame without payload on the line, with a good CRC. -/
def whole (dest kind : Byte) : List Byte := [dest, 11, kind, 1, 0] ++ bytes16 (crc16 [dest, 11, kind, 1, 0]).toNat

theorem witness_CompleteFrameIsCheckedInOrder :
    let here := fun (p : Port) (l : List Byte) => let s := rxAt p ⟨.inFrame, l, 12, 0, defaultLine⟩
      s.bridge = .opened ∧ (s.port p).rx.phase = .inFrame ∧ (s.port p).rx.complete = true ∧ (s.port p).rx.refusals < 5 ∧
        (s.port p).sound < 32
    let good := fun l : List Byte => BitVec.ofNat 16 (be16 l 5) = crc16 (l.take 5)
    (here .s [0, 11, 1, 1, 0, 0, 0] ∧ ¬good [0, 11, 1, 1, 0, 0, 0]) ∧
    (∀ k ∈ [(0 : Byte), 7], here .s (whole 0 k) ∧ good (whole 0 k) ∧ FrameKind.ofCode (byteAt (whole 0 k) 2) = none) ∧
    (∀ d ∈ [(241 : Byte), 254], here .s (whole d 1) ∧ good (whole d 1) ∧
      FrameKind.ofCode (byteAt (whole d 1) 2) = some .report) ∧
    (here .f (whole 240 5) ∧ good (whole 240 5) ∧ FrameKind.ofCode (byteAt (whole 240 5) 2) = some .manage) ∧
    (here .s (whole 240 5) ∧ (State.reset.port .s).inq.length < 8 ∧ 8 ≤ (List.replicate 8 someFrame).length) ∧
    ∀ d ∈ [(0 : Byte), 240, 255], ¬(241 ≤ d.toNat ∧ d.toNat ≤ 254) := by
  refine ⟨?_, ?_, ?_, ?_, ?_, ?_⟩ <;> decide +kernel

theorem witness_FrameSentOnTheLineIsReadBack :
    let s := rxAt .f ⟨.idle, [], 48, 0, defaultLine⟩
    (List.replicate 128 (0xA5 : Byte)).length ≤ 128 ∧ s.bridge = .opened ∧ (s.port .f).rx.phase = .idle ∧
      (s.port .f).inq.length < 8 ∧ ∀ d ∈ [(0 : Byte), 240, 255],
        ¬(241 ≤ d.toNat ∧ d.toNat ≤ 254) ∧ ¬(Port.f = .f ∧ FrameKind.report = .manage ∧ d.toNat = 240) ∧
        (Result.codes (.visitSummary (List.replicate 124 (255, .closing)))).length ≤ 124 ∧
        (Result.codes (.string [] 0 [] 0 0 .live strUp.ageing none)).length = 10 := by
  decide +kernel

theorem witness_OtherFramesAreForwardedUnchanged :
    let f := wireFrame 0 11 .notice 1 [1]
    let o := wireFrame 240 0 .order 1 [1]
    Heads .f f (came .f f online) ∧ (came .f f online).portS.fwd.length < 8 ∧ f.kind ≠ .report ∧ f.kind ≠ .reply ∧
      Heads .s o (came .s o State.reset) ∧ (came .s o State.reset).portF.fwd.length < 8 ∧
      ¬(o.kind = .manage ∧ o.dest.toNat = 240) ∧ State.reset.resp.mode ≠ .supervising := by decide +kernel

/-- A state with a reply queue, a Notice Queue, a Port S forward queue and a forward run count. -/
def waits (rq ns fs : List Frame) (run : Nat) : State :=
  { State.reset with
    replyQ := rq, alarm := { State.reset.alarm with notices := ns }, portS := { resetPort with fwd := fs }, fwdRun := run }

theorem witness_PortSArbitrationSendsNoticesInTime :
    let n := wireFrame 0 240 .notice 0 []
    (∀ run ∈ [0, 3, 4], let s := waits [] [n] [someFrame] run
      s.bridge = .opened ∧ s.portS.tx = none ∧ s.replyQ = [] ∧ s.fullReset = .idle ∧ s.alarm.notices = [n] ∧
        s.portS.fwd = [someFrame] ∧ s.fwdRun ≤ 4) ∧
    (waits [someFrame] [] [] 0).replyQ = [someFrame] ∧ (waits [] [n] [] 0).portS.fwd = [] ∧ (waits [] [] [someFrame] 0).alarm.notices = [] ∧
    ((waits [] [n] [] 0).withFullReset (.waiting 1)).fullReset ≠ .idle := by decide +kernel

/-- An ORDER of a kind code and value to an address, from the site. -/
def order (dest kind : Byte) (value : Nat) : Frame := wireFrame dest 0 .order 9 (kind :: bytes16 value)

/-- A visit of one cabinet of the floor and its string. -/
def visitIn (st : VisitState) (c : Nat) : Visit :=
  ⟨5, [c], if c = 0 then [0] else [], .isolation, 60, 30, st, 0, none, none, false, false, some ⟨0, 1800000⟩, some ⟨0, 3600000⟩,
    some ⟨0, 1800000⟩⟩

/-- The floor, every cabinet ONLINE, with that visit in the last entry of the register. -/
def visited (st : VisitState) (c : Nat) : State := setVisit 7 (some (visitIn st c)) online

/-- A test that holds at every place of a table holds of each record that stands in it. -/
theorem every {α : Type} {n : Nat} (v : Vector (Option α) n) (q : Nat → α → Bool)
    (h : (List.range n).all (fun m => (v[m]?).join.all (q m)) = true) {m : Nat} {x : α} (hx : (v[m]?).join = some x) :
    q m x = true := by
  simpa only [hx, Option.all_some] using List.all_eq_true.mp h m (List.mem_range.mpr (join_lt hx))

theorem no_plan (m0 m1 m2 : Mode) (g : Nat) : plan? (floor m0 m1 m2) g = none := by
  simp only [plan?, floor, State.reset, Vector.getElem?_replicate]
  split <;> rfl

theorem no_visit (m0 m1 m2 : Mode) (k : Nat) : visitEntry? (floor m0 m1 m2) k = none := by
  simp only [visitEntry?, floor, State.reset, Vector.getElem?_replicate]
  split <;> rfl

/-- The visit of `visited` is the one of its register. -/
theorem only_visit (st : VisitState) (c k : Nat) (v : Visit) (h : visitEntry? (visited st c) k = some v) :
    k = 7 ∧ v = visitIn st c := by
  by_cases hk : 7 = k
  · subst hk
    exact ⟨rfl, (Option.some.inj h).symm⟩
  · have n : visitEntry? (visited st c) k = visitEntry? online k := by
      simp [visitEntry?, visited, setVisit, State.withVisits, hk]
    rw [n, online, no_visit] at h
    cases h

/-- The floor with a visit of cabinet 1 and a RESTORE of cabinet 2, whose order to close its output waits for its re-send
beside an order of the site and an alarm. -/
def closing : PlanOrder := ⟨.outputClose, 13, 9, none⟩
def restoring : Plan :=
  { newPlan 7 .restore 0 (some 2) with
    state := .issued, stage := some .close, step := 1, order := some closing, sends := 1, settle := 1000 }
def busy : State := { visited .active 1 with
  seq := { online.seq with plans := online.seq.plans.set 0 (some restoring) }
  tracker := { online.tracker with orders := [
    ⟨.site, 12, 9, .setShare, some 1000, 0, 1, .waiting, none, some (.reply, ⟨0, 500⟩)⟩,
    ⟨.plan, 13, 9, .outputClose, none, 0, 2, .waiting, some 0, some (.reply, ⟨0, 500⟩)⟩] }
  prio := [⟨0, planOrderFrame closing⟩]
  alarm := { online.alarm with list := [⟨6, .cabinet 1, 1, .active, 0, 0, 1, none⟩] } }

theorem only_restoring {s : State} (hs : s.seq.plans = busy.seq.plans) {g : Nat} {p : Plan} (h : plan? s g = some p) :
    g = 0 ∧ p = restoring := by
  have := every s.seq.plans (fun g p => decide (g = 0 ∧ p = restoring)) (by rw [hs]; decide +kernel) h
  exact of_decide_eq_true this

theorem busy_clear : PlansClearOfVisits busy := by
  refine ⟨fun g p c h r => ?_, by decide +kernel, fun c r h => ?_, fun g p o h ho => ?_, fun x hx => ?_⟩
  · obtain ⟨-, rfl⟩ := only_restoring rfl h
    obtain ⟨-, r⟩ | ⟨r, -⟩ := r <;> cases r
    decide +kernel
  · exact of_decide_eq_true (every busy.cabs (fun c r => decide (cabAt? busy r.addr = some c)) (by decide +kernel) h)
  · obtain ⟨-, rfl⟩ := only_restoring rfl h
    cases ho
    exact ⟨by decide, fun _ c hc => .inl ⟨rfl, (show cabAt? busy 13 = some 2 by decide +kernel).symm.trans hc⟩⟩
  · rw [List.mem_singleton.mp hx]
    exact ⟨restoring, closing, rfl, rfl, by decide, fun _ c hc =>
      .inl ⟨rfl, (show cabAt? busy 13 = some 2 by decide +kernel).symm.trans hc⟩⟩

theorem witness_PortFArbitrationAndSendingEnds :
    let sends := fun (x : Tx) => ∀ p ∈ [Port.s, .f], ∀ r ∈ [FullReset.idle, .waiting 1, .sending],
      let s := (State.reset.withPort p { resetPort with tx := some x }).withFullReset r
      s.bridge = .opened ∧ s.fullReset = r ∧ (s.port p).tx = some x
    let fwd := fun (s : State) (f : Frame) => s.withPortF { s.portF with fwd := [f] }
    let inScope := fun (s : State) (c : Nat) => ∃ j v, visitEntry? s j = some v ∧
      (v.state = .preparing ∨ v.state = .active ∨ v.state = .closing) ∧ c ∈ v.cabinets
    let fails := fun (s : State) (f : Frame) => f.kind = .order ∧ ∃ k, OrderKind.ofCode (byteAt f.payload 0) = some k ∧
      k ∈ [.outputClose, .deisolate, .goInverter, .maintOpen, .batteryTestStart] ∧
      ((f.dest.toNat = 255 ∧ ∃ j v, visitEntry? s j = some v ∧
          (v.state = .preparing ∨ v.state = .active ∨ v.state = .closing)) ∨
        (f.dest.toNat ≠ 255 ∧ ∃ c, cabAt? s f.dest.toNat = some c ∧ (inScope s c ∨
          (k = .maintOpen ∧ ∃ r m x, cab? s c = some r ∧ cab? s m = some x ∧ x.group = r.group ∧ inScope s m))))
    ((online.withPrio [⟨3, someFrame⟩]).bridge = .opened ∧ (online.withPrio [⟨3, someFrame⟩]).prio = [⟨3, someFrame⟩] ∧
      (online.withPrio [⟨3, someFrame⟩]).portF.tx = none) ∧
    (let s := fwd online (order 12 3 0)
     s.prio = [] ∧ s.portF.fwd = [order 12 3 0] ∧ ¬fails s (order 12 3 0)) ∧
    (∀ f ∈ [order 12 3 0, order 11 8 0, order 255 3 0], let s := fwd (visited .closing 1) f
      s.prio = [] ∧ s.portF.fwd = [f] ∧ fails s f ∧ s.replyQ.length < 4) ∧ 4 ≤ (List.replicate 4 someFrame).length ∧
    (sends ⟨someFrame, defaultLine, 2, 4⟩ ∧ sends ⟨someFrame, defaultLine, 2, 3⟩ ∧ 2 < 3 ∧ 3 < 7 + someFrame.payload.length) ∧
    (let x : Tx := ⟨planOrderFrame closing, defaultLine, 0, 0⟩
     PlansClearOfVisits busy ∧ busy.portF.tx = none ∧
       (∃ t, exec (.transmitTake .f) busy = .next t ∧ t.portF.tx = some x) ∧ x.frame.kind = .order ∧
       OrderKind.ofCode (byteAt x.frame.payload 0) = some .outputClose ∧
       ∃ j v, visitEntry? busy j = some v ∧ v.state = .active) := by
  refine ⟨by decide +kernel, ⟨rfl, rfl, ?_⟩, fun f hf => ⟨rfl, rfl, ?_, by revert f; decide +kernel⟩, by decide,
    by decide +kernel, busy_clear, rfl, ⟨_, rfl, by decide +kernel⟩, by decide, by decide, 7, _, rfl, rfl⟩
  · have out : ∀ j v, visitEntry? online j ≠ some v := fun j v h => by simp [online, no_visit] at h
    rintro ⟨-, k, hk, -, ⟨-, j, v, h, -⟩ | ⟨-, c, -, ⟨j, v, h, -⟩ | ⟨-, r, m, x, -, -, -, j, v, h, -⟩⟩⟩ <;> exact out j v h
  · have scope : ∃ j v, visitEntry? (visited .closing 1) j = some v ∧
        (v.state = .preparing ∨ v.state = .active ∨ v.state = .closing) ∧ 1 ∈ v.cabinets :=
      ⟨7, visitIn .closing 1, rfl, .inr (.inr rfl), by decide⟩
    simp only [List.mem_cons, List.not_mem_nil, or_false] at hf
    rcases hf with rfl | rfl | rfl
    · exact ⟨rfl, .outputClose, rfl, by decide, .inr ⟨by decide, 1, by decide +kernel, .inl scope⟩⟩
    · exact ⟨rfl, .maintOpen, by decide, by decide, .inr ⟨by decide, 0, by decide +kernel, .inr ⟨rfl, cabIn 0 .online, 1,
        cabIn 1 .online, rfl, rfl, rfl, scope⟩⟩⟩
    · exact ⟨rfl, .outputClose, rfl, by decide, .inl ⟨by decide, 7, visitIn .closing 1, rfl, .inr (.inr rfl)⟩⟩

/-! The Report Inspector. -/

theorem witness_ReportLayoutsReadBack :
    let r : CabReport := ⟨.fault, 65535, 0, 0, 0, -32768, .good, .closed, 65535, true⟩
    let p : StrReport := ⟨1, 5, -32768, [32767, -32768, 0, 1], [65535], [(255, 4294967295)]⟩
    (r.load < 65536 ∧ r.echo < 65536 ∧ r.inV < 65536 ∧ r.outV < 65536 ∧ isSigned16 r.temp ∧ r.fault < 65536) ∧
    p.blocks = p.volts.length ∧ p.blocks < 256 ∧ 1 ≤ p.temps.length ∧ p.temps.length ≤ 4 ∧ p.resistances.length < 256 ∧
    isSigned16 p.current ∧ (∀ t ∈ p.temps, isSigned16 t) ∧ (∀ v ∈ p.volts, v < 65536) ∧
    ∀ x ∈ p.resistances, x.1 < 256 ∧ x.2 < 2 ^ 32 := by decide +kernel

/-- The payloads that pass and fail the form tests of the two layouts, at the ends of each range. -/
theorem witness_ReportFormTests :
    (let formed := fun p : List Byte => p.length = 17 ∧ byteAt p 0 = 1 ∧ (1 ≤ byteAt p 1 ∧ byteAt p 1 ≤ 7) ∧
       (1 ≤ byteAt p 12 ∧ byteAt p 12 ≤ 3) ∧ byteAt p 13 ≤ 1
     let payload := fun x : Nat × Nat × Nat => [1, byteOf x.1] ++ List.replicate 10 0 ++ [byteOf x.2.1, byteOf x.2.2, 0, 0, 2]
     (∀ x ∈ [(1, 1, 0), (7, 3, 1)], formed (payload x)) ∧ (∀ p ∈ [[], payload (1, 1, 0) ++ [0]], ¬formed p) ∧
       ∀ x ∈ [(0, 1, 0), (8, 1, 0), (1, 0, 0), (1, 4, 0), (1, 1, 2)], ¬formed (payload x)) ∧
    (∀ p ∈ [[], [(1 : Byte), 0, 0, 0]], byteAt p 0 ≠ 2) ∧
    (∀ p ∈ [[(2 : Byte)], [2, 9], [2, 9, 5]], byteAt p 0 = 2 ∧ 1 ≤ p.length ∧ p.length < 4) ∧
    (∀ p ∈ [[(2 : Byte), 0, 0, 0], [2, 0, 5, 0]], byteAt p 0 = 2 ∧ 4 ≤ p.length ∧ (byteAt p 2 < 1 ∨ 4 < byteAt p 2)) ∧
    let declared := fun p : List Byte => 10 + 2 * byteAt p 2 + 2 * byteAt p 1 + 5 * byteAt p 3
    (∀ p ∈ [[(2 : Byte), 0, 1, 0], [2, 0, 4, 0] ++ List.replicate 15 0],
      1 ≤ byteAt p 2 ∧ byteAt p 2 ≤ 4 ∧ p.length ≠ declared p) ∧
    ∀ p ∈ [[(2 : Byte), 0, 1, 0] ++ List.replicate 8 0, [2, 1, 4, 1] ++ List.replicate 21 0],
      1 ≤ byteAt p 2 ∧ byteAt p 2 ≤ 4 ∧ p.length = declared p := by
  refine ⟨?_, by decide, by decide, by decide, by decide, by decide⟩
  dsimp only
  refine ⟨by decide, by decide, by decide⟩

/-- A report of cabinet 1 in a mode, with a load and the share limit echo 1000. -/
def cabReport (m : Mode) : CabReport := ⟨m, 500, 1000, 230, 230, 850, .good, .closed, 0, false⟩
def cabFrame (m : Mode) : Frame := wireFrame 0 12 .report 1 (cabReportBytes (cabReport m))

theorem witness_AcceptedCabinetReportActs : ∀ m ∈ [Mode.online, .onBattery, .fault],
    let s := came .f (cabFrame m) online
    ReportAtHead (cabFrame m) s ∧ nodeAt? s (cabFrame m).src.toNat = some (cabEntry 1) ∧
      (cabEntry 1).role = .cabinet (cabRole 1) ∧ cab? s (cabRole 1).index = some (cabIn 1 .online) ∧
      parseCabReport (cabFrame m).payload = some (cabReport m) := by decide +kernel

/-- A report of string 0 with a number of blocks. -/
def strReport (n : Nat) : StrReport := ⟨n, 5, 21, [255], List.replicate n 135, [(n, 1000)]⟩
def strFrame (payload : List Byte) : Frame := wireFrame 0 21 .report 1 payload

theorem read_ok (l : List Byte) (p : StrReport) :
    (match parseStrReport l with | .ok q => decide (q = p) | .error _ => false) = true → parseStrReport l = .ok p := by
  intro h
  cases e : parseStrReport l with
  | ok q => simpa [e] using h
  | error x => simp [e] at h

theorem read_error (l : List Byte) (c : StringConfigCause × Nat) :
    (match parseStrReport l with | .ok _ => false | .error x => decide (x = c)) = true → parseStrReport l = .error c := by
  intro h
  cases e : parseStrReport l with
  | ok q => simp [e] at h
  | error x => simpa [e] using h

theorem witness_AcceptedStringReportActs :
    let f := strFrame (strReportBytes (strReport 2))
    let s := came .f f online
    ReportAtHead f s ∧ nodeAt? s f.src.toNat = some strEntry ∧ strEntry.role = .stringMonitor strRole ∧
      str? s strRole.index = some strUp ∧ parseStrReport f.payload = .ok (strReport 2) ∧
      (strReport 2).blocks = strRole.blocks :=
  ⟨by decide +kernel, by decide +kernel, rfl, by decide +kernel, read_ok _ _ (by decide +kernel), rfl⟩

/-- A state `n` milliseconds on. -/
def later (n : Nat) (s : State) : State := s.withClock ⟨BitVec.ofNat 32 n, 0, 0⟩

theorem witness_FailingReportsAndInspectorTimers :
    let unknown := wireFrame 0 14 .report 1 [1]
    let short := wireFrame 0 12 .report 1 [1]
    let blocks := strFrame (strReportBytes (strReport 3))
    (ReportAtHead unknown (came .f unknown online) ∧ nodeAt? online unknown.src.toNat = none) ∧
    (ReportAtHead short (came .f short online) ∧ nodeAt? online short.src.toNat = some (cabEntry 1) ∧
      parseCabReport short.payload = none) ∧
    (ReportAtHead (strFrame []) (came .f (strFrame []) online) ∧ nodeAt? online (strFrame []).src.toNat = some strEntry ∧
      parseStrReport (strFrame []).payload = .error (.form, 0)) ∧
    (ReportAtHead blocks (came .f blocks online) ∧ parseStrReport blocks.payload = .ok (strReport 3) ∧
      (strReport 3).blocks ≠ strRole.blocks) ∧
    (cab? (later 3000 online) 1 = some (cabIn 1 .online) ∧ (cabIn 1 .online).watch = some ⟨0, 3000⟩ ∧
      RunOut ⟨0, 3000⟩ (later 3000 online)) ∧
    (str? (later 3000 online) 0 = some strUp ∧ strUp.watch = some ⟨0, 3000⟩) ∧
    RunOut ⟨0, 300000⟩ (later 300000 online) := by
  refine ⟨by decide +kernel, by decide +kernel, ⟨by decide +kernel, by decide +kernel, read_error _ _ (by decide +kernel)⟩,
    ⟨by decide +kernel, read_ok _ _ (by decide +kernel), by decide +kernel⟩, by decide +kernel, by decide +kernel, by decide +kernel⟩

/-- A limit entry on the temperature of every cabinet, and the floor with it in the last place of the table. -/
def hot (persistence : Nat) : LimitEntry := ⟨.cabTemp, .all, .high, 450, 400, persistence, 40, true⟩
def limited (r : LimitRec) : State :=
  let l := ((hot 3).freshRecords).set 1 r
  (online.withResp { online.resp with limits := (Vector.replicate 32 none).set 31 (some (hot 3)) }).withInsp
    ⟨(Vector.replicate 32 []).set 31 l, none⟩

/-- That entry is the one of the table. -/
theorem only_limit {r : LimitRec} {k : Nat} {e : LimitEntry} (h : limit? (limited r) k = some e) : k = 31 ∧ e = hot 3 :=
  of_decide_eq_true (every (limited r).resp.limits (fun k e => decide (k = 31 ∧ e = hot 3))
    (by change (List.range 32).all (fun m => ((((Vector.replicate 32 none).set 31 (some (hot 3)))[m]?).join).all
          (fun e => decide (m = 31 ∧ e = hot 3))) = true
        decide +kernel) h)

theorem witness_LimitsTripAndReachTheAlarmUnit :
    ((∀ n ∈ [1, 15], 1 ≤ (hot n).persistence ∧ (hot n).persistence ≤ 15) ∧
     (∀ v ∈ [450, (451 : Int)], (hot 3).beyondTrip v = true ∧ (hot 3).onClearSide v = false) ∧
     ((hot 3).beyondTrip 449 = false ∧ (hot 3).onClearSide 401 = false ∧ (hot 3).onClearSide 400 = true) ∧
     (∀ r ∈ [(⟨2, false⟩ : LimitRec), ⟨3, true⟩], limit? (limited r) 31 = some (hot 3) ∧ (hot 3).enabled = true ∧
       limitRec? (limited r) 31 (hot 3) (.cabinet 1) = some r) ∧
     ((hot 3).judge 450 ⟨2, false⟩).tripped = true ∧ ((hot 3).judge 400 ⟨3, true⟩).tripped = false ∧
     ((hot 3).judge 449 ⟨2, false⟩).tripped = false ∧ (31, Subject.cabinet 2) ≠ (31, Subject.cabinet 1) ∧
     limit? (limited ⟨0, false⟩) 30 = none ∧ limitRec? (limited ⟨0, false⟩) 31 (hot 3) (.string 0) = none) ∧
    (∃ j x y, j ≠ 0 ∧ limit? (limited ⟨3, true⟩) j = some x ∧ x.enabled = true ∧ x.code = (hot 3).code ∧
      limitRec? (limited ⟨3, true⟩) j x (.cabinet 1) = some y ∧ y.tripped = true) ∧
    (¬∃ j x y, j ≠ 31 ∧ limit? (limited ⟨3, true⟩) j = some x ∧ x.enabled = true ∧ x.code = (hot 3).code ∧
      limitRec? (limited ⟨3, true⟩) j x (.cabinet 1) = some y ∧ y.tripped = true) ∧
    ((cabIn 1 .online).temp = -32768 ∧ ({ cabIn 1 .online with temp := 850 }).temp ≠ -32768) ∧
    (let r : StrRec := { strUp with volts := [65535, 1210, 1190], temps := [-32768, 850, -400] }
     let read := fun v : Nat => v ∈ r.volts ∧ v ≠ 65535
     let valid := fun t : Int => t ∈ r.temps ∧ t ≠ -32768
     read 1190 ∧ read 1210 ∧ (∀ v ∈ r.volts, v ≠ 65535 → 1190 ≤ v ∧ v ≤ 1210) ∧ valid 850 ∧
       ∀ t ∈ r.temps, t ≠ -32768 → t ≤ 850) ∧
    (∀ v, ¬(v ∈ strUp.volts ∧ v ≠ 65535)) ∧ ∀ t, ¬(t ∈ strUp.temps ∧ t ≠ -32768) := by
  refine ⟨by decide +kernel, ⟨31, hot 3, ⟨3, true⟩, by decide +kernel⟩, ?_, by decide +kernel, by decide +kernel, ?_, ?_⟩
  · rintro ⟨j, x, y, hj, h, -⟩
    exact hj (only_limit h).1
  · intro v
    simp [strUp, startString, strRole, notMeasured]
  · intro t
    simp [strUp, startString]

/-! The Alarm Unit. -/

/-- The floor with one alarm of cabinet 1. -/
def alarmed (c : Nat) (st : AlarmState) : State :=
  online.withAlarm { online.alarm with list := [⟨c, .cabinet 1, 1, st, 0, 0, 1, none⟩] }

theorem witness_RaiseActsByTheEntryItFinds :
    (∀ st ∈ [AlarmState.active, .acknowledged, .shelved], ∃ e, (alarmed 6 st).alarm.find? 6 (.cabinet 1) = some e ∧
      e.state ≠ .cleared) ∧
    (∃ e, (alarmed 6 .cleared).alarm.find? 6 (.cabinet 1) = some e ∧ e.state = .cleared) ∧
    ((alarmed 6 .active).alarm.find? 7 (.cabinet 1) = none ∧ (alarmed 6 .active).alarm.list.length < 64 ∧
      (7, Subject.cabinet 1) ≠ (6, Subject.cabinet 1)) ∧
    shelvingTest (visited .closing 1) 6 (.cabinet 1) = true ∧ shelvingTest (visited .preparing 1) 6 (.cabinet 1) = false :=
  ⟨fun st h => ⟨⟨6, .cabinet 1, 1, st, 0, 0, 1, none⟩, rfl, by revert st; decide⟩, ⟨_, rfl, rfl⟩, by decide +kernel,
    by decide +kernel⟩

/-- 64 alarms of codes 32 to 63 on two cabinets, the last two in given levels and states, the others ACTIVE at level 2. -/
def fullWith (x y : Nat × AlarmState) : State :=
  online.withAlarm { online.alarm with list := (List.range 64).map (fun i =>
    let z := if i = 62 then x else if i = 63 then y else (2, AlarmState.active)
    ⟨32 + i % 32, .cabinet (i / 32), z.1, z.2, 0, 0, 1, none⟩) }

theorem witness_FullListGivesUpTheRightEntry :
    let room := fun s : State => s.alarm.list.length = 64 ∧ s.alarm.find? 1 (.cabinet 0) = none ∧
      (s.alarm.classOf 1).level = 2
    let lower := fun (st : AlarmState) (e : AlarmEntry) => e.state = st ∧ e.level < 2
    let all := fun (s : State) (p : AlarmEntry → Prop) => ∀ x ∈ s.alarm.list, p x
    let a := fullWith (1, .acknowledged) (0, .cleared)
    let b := fullWith (1, .active) (1, .acknowledged)
    let c := fullWith (1, .active) (1, .active)
    let d := fullWith (2, .active) (2, .shelved)
    (AlarmKeysDistinct a ∧ room a ∧ (∃ e, a.alarm.list[63]? = some e ∧ e.state = .cleared) ∧
      ∀ j x, j < 63 → a.alarm.list[j]? = some x → x.state ≠ .cleared) ∧
    (AlarmKeysDistinct b ∧ room b ∧ all b (fun x => x.state ≠ .cleared) ∧
      (∃ e, b.alarm.list[63]? = some e ∧ lower .acknowledged e) ∧ (all b fun x => lower .acknowledged x → 1 ≤ x.level) ∧
      ∀ j x, j < 63 → b.alarm.list[j]? = some x → ¬lower .acknowledged x) ∧
    (AlarmKeysDistinct c ∧ room c ∧ all c (fun x => x.state ≠ .cleared ∧ ¬lower .acknowledged x) ∧
      (∃ e, c.alarm.list[62]? = some e ∧ lower .active e) ∧ (all c fun x => lower .active x → 1 ≤ x.level) ∧
      ∀ j x, j < 62 → c.alarm.list[j]? = some x → ¬lower .active x) ∧
    (AlarmKeysDistinct d ∧ room d ∧ all d fun x => x.state ≠ .cleared ∧ ¬lower .acknowledged x ∧ ¬lower .active x) := by
  have at' : ∀ (l : List AlarmEntry) (n : Nat) (p : AlarmEntry → Bool), (l.take n).all p = true →
      ∀ j x, j < n → l[j]? = some x → p x = true := fun l n p h j x hj hx =>
    List.all_eq_true.mp h x (List.mem_iff_getElem?.mpr ⟨j, by rw [List.getElem?_take, if_pos hj, hx]⟩)
  refine ⟨⟨?_, ?_, ⟨_, rfl, rfl⟩, fun j x hj hx => ?_⟩, ⟨?_, ?_, ?_, ⟨_, rfl, ?_⟩, ?_, fun j x hj hx => ?_⟩,
    ⟨?_, ?_, ?_, ⟨_, rfl, ?_⟩, ?_, fun j x hj hx => ?_⟩, ?_, ?_, ?_⟩
  case refine_3 => exact of_decide_eq_true (at' _ 63 (fun x => decide (x.state ≠ .cleared)) (by decide +kernel) j x hj hx)
  case refine_9 =>
    exact of_decide_eq_true (at' _ 63 (fun x => decide (¬(x.state = .acknowledged ∧ x.level < 2))) (by decide +kernel) j x hj hx)
  case refine_15 =>
    exact of_decide_eq_true (at' _ 62 (fun x => decide (¬(x.state = .active ∧ x.level < 2))) (by decide +kernel) j x hj hx)
  all_goals first | (unfold AlarmKeysDistinct; decide +kernel) | decide +kernel

theorem witness_ClearActsByTheStateOfTheEntry :
    (∀ st ∈ [AlarmState.active, .acknowledged, .shelved, .cleared], ∃ e,
      (alarmed 1 st).alarm.find? 1 (.cabinet 1) = some e ∧ e.state = st) ∧
    ((alarmed 1 .active).alarm.classOf 1).latching = true ∧ ((alarmed 6 .active).alarm.classOf 6).latching = false ∧
    ((alarmed 11 .active).alarm.classOf 11).latching = false ∧ (alarmed 1 .active).alarm.find? 6 (.cabinet 1) = none :=
  ⟨fun st _ => ⟨⟨1, .cabinet 1, 1, st, 0, 0, 1, none⟩, rfl, rfl⟩, by decide +kernel, by decide +kernel, by decide +kernel,
    by decide +kernel⟩

theorem witness_AcknowledgeAndUnshelveActByTheState :
    (Asks 22 (plainForm 22) State.reset ∧ State.reset.resp.mode = .unconfigured) ∧
    (Asks 22 (plainForm 22) online ∧ online.resp.mode = .supervising) ∧
    (∀ c ∈ [0, 21, 31, 64], classIndex c = none) ∧ (∀ c ∈ [1, 20, 32, 63], classIndex c ≠ none) ∧
    (subjectOfFields 1 24 = none ∧ subjectOfFields 0 0 = none ∧ subjectOfFields 1 1 = some (.cabinet 1)) ∧
    (online.alarm.find? 6 (.cabinet 1) = none) ∧
    (∀ st ∈ [AlarmState.active, .acknowledged, .shelved, .cleared], Asks 22 (plainForm 22) (alarmed 6 st)) ∧
    ∀ st ∈ [AlarmState.active, .acknowledged, .shelved, .cleared],
      (asked 22 (plainForm 22) (alarmed 6 st)).alarm.find? 6 (.cabinet 1) = some ⟨6, .cabinet 1, 1, st, 0, 0, 1, none⟩ :=
  ⟨⟨asks (by decide +kernel), rfl⟩, ⟨asks (by decide +kernel), rfl⟩, by decide +kernel, by decide +kernel, by decide +kernel,
    by decide +kernel, fun st h => asks (by revert st; decide +kernel), by decide +kernel⟩

theorem witness_NoticeEntersOrIsDropped :
    (waits [] (List.replicate 15 someFrame) [] 0).alarm.notices.length < 16 ∧
    16 ≤ (waits [] (List.replicate 16 someFrame) [] 0).alarm.notices.length := by decide +kernel

theorem witness_ReadAlarmListPagesInReadOrder : Asks 21 (plainForm 21) (alarmed 63 .active) ∧
    ∀ e ∈ (alarmed 63 .active).alarm.list ++ [⟨1, .supervisor, 3, .active, 0, 0, 1, none⟩],
      e.level ≤ 3 ∧ e.code < 64 ∧ e.subject.number < 64 ∧ ∀ n ∈ [0, 8], (List.replicate n e).length ≤ 8 :=
  ⟨asks (by decide +kernel), by decide +kernel⟩

/-! The tables that the site writes. -/

theorem witness_TableWritesStoreTheirFields :
    (Asks 9 (plainForm 9) State.reset ∧ (∀ fs, Asks 7 (groupForm fs) State.reset) ∧ ∀ fs, Asks 11 (portForm fs) State.reset) ∧
    (∀ x ∈ [(0, 1), (14, 1), (1, 0), (1, 4), (1, 1), (13, 3)], Asks 10 (.exactly [x.1, x.2]) State.reset) ∧
    (∀ c ∈ [1, 20, 32, 63], (1 ≤ c ∧ c ≤ 20) ∨ (32 ≤ c ∧ c ≤ 63)) ∧
    (∀ c ∈ [0, 21, 31, 64], ¬((1 ≤ c ∧ c ≤ 20) ∨ (32 ≤ c ∧ c ≤ 63))) ∧ FlagField.yes ≠ .neither ∧
    (∀ k ∈ [0, 14], ¬(1 ≤ k ∧ k ≤ 13)) ∧ (∀ k ∈ [0, 4], ¬(1 ≤ k ∧ k ≤ 3)) ∧
    (OrderKind.toCode .deisolate = 1 ∧ OrderKind.toCode .readDetail = 13 ∧ GateClass.toCode .forward = 1 ∧
      GateClass.toCode .supervisorOnly = 3) ∧
    (4 ≤ 4 ∧ (GroupField.rampStep, 30) ∈ [(GroupField.rampStep, 30)] ∧ ∀ v, (GroupField.rampStep, v) ∈
      [(GroupField.rampStep, 80), (GroupField.replyWindow, 99)] → v = 80) ∧
    ((GroupField.replyWindow, 99) ∈ [(GroupField.rampStep, 80), (GroupField.replyWindow, 99)] ∧ 99 < 100 ∧
      ∀ v, (GroupField.replyWindow, v) ∈ [(GroupField.replyWindow, 100)] → ¬(v < 100 ∨ 5000 < v)) ∧
    (2 ≤ 2 ∧ portCode .f = 1 ∧ (PortField.bitRate, 9600) ∈ [(PortField.bitRate, 9600)] ∧ (∀ v, (PortField.bitRate, v) ∈
      [(PortField.bitRate, 19200), (PortField.guard, 16)] → v = 19200) ∧ 15 < 16 ∧ ¬15 < 15) := by
  refine ⟨⟨asks (by decide +kernel), fun _ => asks rfl, fun _ => asks rfl⟩,
    fun x h => asks (by revert x; decide +kernel), by decide, by decide, by decide, by decide, by decide, by decide,
    ⟨by decide, by decide, fun v h => by simpa using h⟩, ⟨by decide, by decide, fun v h => ?_⟩,
    by decide, by decide, by decide, fun v h => by simpa using h, by decide, by decide⟩
  simp only [List.mem_singleton, Prod.mk.injEq, true_and] at h
  omega

/-! The Ageing Engine. -/

theorem witness_WearAndTemperatureFactorAreExact :
    ((startAgeing 2).rCal < 256 ∧ 256 * (startAgeing 2).wCal + (startAgeing 2).rCal +
      ([(3600, 8192), (0, 1)].map (fun x : Nat × Nat => x.1 * x.2)).sum < 256 * 2 ^ 40) ∧
    ((-200 : Int) ≤ 700 ∧ (-200 : Int) ≤ 699 ∧ 8 < 9 ∧ 99 < 100 ∧ (699 : Int) + 200 = 100 * (8 : Nat) + (99 : Nat)) ∧
    ((-200 : Int) + 200 = 100 * (0 : Nat) + (0 : Nat)) ∧ ∀ k : Fin 10, 1 ≤ defaultAgeing.factors[k] := by decide +kernel

theorem witness_UpdateStepsFollowTheirRules :
    let a : Ageing := { startAgeing 2 with base := .valid, lastMs := 1000 }
    let r : Ageing := { startAgeing 2 with activity := .recharge }
    let d : Ageing := { startAgeing 2 with activity := .discharge }
    ((startAgeing 2).base = .fresh ∧ ({ a with base := .broken }).base = .broken ∧ a.base = .valid ∧
      ((301999 : Word32) - a.lastMs).toNat / 1000 ≤ defaultAgeing.dtLimit ∧
      defaultAgeing.dtLimit < ((302000 : Word32) - a.lastMs).toNat / 1000) ∧
    ((710 : Int) ∈ [-400, 710, -32768] ∧ (710 : Int) ≠ -32768 ∧ (∀ x ∈ [(-400 : Int), 710, -32768], x ≠ -32768 → x ≤ 710) ∧
      ∀ t ∈ [(-32768 : Int)], ¬t ≠ -32768) ∧
    (50 ≠ 0 ∧ 50 ≤ 70 ∧ 30 ≤ 50) ∧
    ((startAgeing 2).activity = .float ∧ (20 : Int) ≤ defaultAgeing.dTh ∧ defaultAgeing.dTh < (21 : Int) ∧
      (startAgeing 2).confirm = 0 ∧ 1 ≤ ({ a with confirm := 1 }).confirm) ∧
    (r.activity = .recharge ∧ (-21 : Int) < -defaultAgeing.dTh ∧ -defaultAgeing.dTh ≤ (-20 : Int)) ∧
    (d.activity = .discharge ∧ r.activity ≠ .discharge) ∧ 1 ≤ 100 ∧ (startAgeing 2).charge = 0 ∧
    (let m := fun (act : Activity) (confirm : Nat) (i : Int) =>
       activityMove defaultAgeing { startAgeing 2 with activity := act, confirm := confirm } i
     m .float 0 20 = .stay 0 ∧ m .float 0 21 = .stay 1 ∧ m .float 1 21 = .beginEvent ∧ m .discharge 0 21 = .stay 0 ∧
       m .discharge 1 20 = .endEvent ∧ m .recharge 0 20 = .toFloat) ∧
    (∀ x ∈ [((0 : Fin 4), 0), (0, 99), (1, 100), (1, 299), (2, 300), (2, 599), (3, 600), (3, 1000)],
      let d := min 1000 (x.2 * 3600 * 1000 / (100 * 36000))
      (x.1 = 0 ∧ d < 100) ∨ (x.1 = 1 ∧ 100 ≤ d ∧ d < 300) ∨ (x.1 = 2 ∧ 300 ≤ d ∧ d < 600) ∨ (x.1 = 3 ∧ 600 ≤ d)) ∧
    (let named := fun j : Nat => [((2 : Nat), (1000 : Nat))].find? (fun x => x.1 == j + 1)
     (startAgeing 2).baseline[0]? = some 0 ∧ (startAgeing 2).rises[1]? = some 0 ∧ named 0 = none ∧
       named 1 = some (2, 1000)) := by decide +kernel

theorem witness_LifeGradeAndReserveFollowTheFractions :
    defaultAgeing.t1 < defaultAgeing.t2 ∧ defaultAgeing.t2 < defaultAgeing.t3 ∧ (startAgeing 2).soc ≤ 1000 := by decide

/-- The floor with the ageing record of string 0 changed. -/
def aged (f : Ageing → Ageing) : State := modAge 0 f online

/-- A report of string 0 handed to the Ageing Engine, with its serial, at a floor. -/
def handed (serial : Word32) (s : State) : State :=
  s.withHand ⟨[], [⟨0, 61000, 21, [255, -32768], serial, [(2, 1000)]⟩], []⟩

theorem witness_AgeingUpdateRunsItsSteps :
    (∀ serial : Word32, ∀ s ∈ [online, setStr online 0 { strUp with serial := 0 }], (handed serial s).bridge = .opened ∧
      (handed serial s).hand.ageing = [⟨0, 61000, 21, [255, -32768], serial, [(2, 1000)]⟩]) ∧
    (let after := fun (serial : Word32) (s : State) =>
       (str? (swapDetection 0 serial { s with hand := { (handed serial s).hand with ageing := [] } }) 0).map
         (·.ageing.frozen)
     after 5 online = some false ∧ after 9 online = some true ∧
       after 9 (setStr online 0 { strUp with serial := 0 }) = some false) ∧
    strNode? online 0 = some strRole ∧
    ((timeStep defaultAgeing strUp.ageing 61000).gap = false ∧
      (timeStep defaultAgeing { strUp.ageing with base := .broken } 61000).gap = true) := by
  refine ⟨fun _ s hs => ?_, by decide +kernel⟩
  simp only [List.mem_cons, List.not_mem_nil, or_false] at hs
  rcases hs with rfl | rfl <;> exact ⟨rfl, rfl⟩

theorem witness_RecoveryExpiryAndGradeChange :
    let w : Timer := ⟨0, 28800000⟩
    let s := later 28800000 (aged (fun a => { a with recovery := some w, soc := 900 }))
    (s.bridge = .opened ∧ (∃ r, str? s 0 = some r ∧ r.ageing.recovery = some w ∧
      (withLife s.params.active { r.ageing with soc := 1000, recovery := none }).grade = r.ageing.grade) ∧
      strNode? s 0 = some strRole ∧ w.len ≤ (s.clock.ms - w.start).toNat) ∧
    (∃ r, str? (modAge 0 (fun a => { a with worstRise := 400 }) s) 0 = some r ∧ r.ageing.recovery = some w ∧
      (withLife s.params.active { r.ageing with soc := 1000, recovery := none }).grade ≠ r.ageing.grade) ∧
    ∃ r, str? (aged (fun a => { a with worstRise := 400 })) 0 = some r ∧
      (withLife online.params.active r.ageing).grade ≠ r.ageing.grade :=
  ⟨⟨by decide +kernel, ⟨_, rfl, by decide +kernel⟩, by decide +kernel⟩, ⟨_, rfl, by decide +kernel⟩, ⟨_, rfl, by decide +kernel⟩⟩

/-- The floor with string 0 FROZEN and the serial 9 pending. -/
def frozen : State := aged (fun a => { a with frozen := true, pendingSerial := some 9 })

theorem witness_SwapsFreezeUntilAccepted :
    (str? online 0 = some strUp ∧ strUp.ageing.frozen = false ∧ strUp.serial = 5 ∧
      ((9 : Word32) ≠ 0 ∧ strUp.serial ≠ 0 ∧ (9 : Word32) ≠ strUp.serial) ∧
      ¬∃ k v, visitEntry? online k = some v ∧ v.state = .active ∧ 0 ∈ v.strings) ∧
    (str? (visited .active 0) 0 = some strUp ∧
      ∃ k v, visitEntry? (visited .active 0) k = some v ∧ v.state = .active ∧ 0 ∈ v.strings) ∧
    (∃ r, str? (setStr online 0 { strUp with serial := 0 }) 0 = some r ∧ r.serial = 0) ∧
    Asks 20 (plainForm 20) frozen ∧ frozen.resp.mode = .supervising ∧ 0 < 32 ∧
    (Asks 20 (plainForm 20) online ∧ online.resp.mode = .supervising ∧ (∀ choice ∈ [0, 3, 255], choice ≠ 1 ∧ choice ≠ 2) ∧
      32 ≤ 32 ∧ 31 < 32 ∧ str? (asked 20 (plainForm 20) online) 31 = none ∧
      ∃ r, str? (asked 20 (plainForm 20) online) 0 = some r ∧ r.ageing.frozen = false) ∧
    ∃ r, str? (asked 20 (plainForm 20) frozen) 0 = some r ∧ r.ageing.frozen = true ∧ r.ageing.pendingSerial = some 9 ∧
      r.ageing.pendingSerial ≠ some 7 :=
  ⟨⟨by decide +kernel, rfl, rfl, by decide, fun ⟨k, v, h, _⟩ => by simp [online, no_visit] at h⟩,
    ⟨by decide +kernel, 7, visitIn .active 0, rfl, rfl, by decide⟩, ⟨_, rfl, by decide +kernel⟩, asks (by decide +kernel),
    by decide +kernel, by decide, ⟨asks (by decide +kernel), by decide +kernel, by decide, by decide, by decide,
      by decide +kernel, _, rfl, by decide +kernel⟩, ⟨_, rfl, by decide +kernel⟩⟩

theorem witness_StageWritesTheStagedCopy :
    (∀ fs, Asks 12 (stageForm fs) State.reset) ∧
    (storeAgeingFields State.reset.params.staged [.t1 800]).1.t2 ≤ (storeAgeingFields State.reset.params.staged [.t1 800]).1.t1 ∧
    (AgeingField.factor 10 0 ∈ [AgeingField.factor 10 0] ∧ 10 ≤ 10) ∧
    (∀ i v, .factor i v ∈ [AgeingField.factor 9 8193] → i = 9) ∧ (∀ i v, .weight i v ∉ [AgeingField.factor 9 8193]) ∧
    (∀ v, .trimStep v ∉ [AgeingField.factor 9 8193]) ∧
    (storeAgeingFields State.reset.params.staged [.factor 9 8193]).1.ascending = true := by
  refine ⟨fun _ => asks rfl, by decide +kernel, by decide, ?_, ?_, ?_, by decide +kernel⟩
  · intro i v h
    simp only [List.mem_singleton, AgeingField.factor.injEq] at h
    exact h.1
  all_goals simp

theorem witness_CommitAndReadTheParameterCopies :
    let s := State.reset.withParams ⟨defaultAgeing, { defaultAgeing with factors := #v[1, 1, 1, 1, 1, 1, 1, 1, 1, 0] }⟩
    (Asks 13 (.exactly []) s ∧ s.params.staged.factors[(9 : Fin 10)] = 0 ∧
      ∀ j : Fin 10, j < 9 → s.params.staged.factors[j] ≠ 0) ∧
    (Asks 13 (.exactly []) State.reset ∧ ∀ i : Fin 10, State.reset.params.staged.factors[i] ≠ 0) ∧
    ∀ copy ∈ [0, 1, 2, 3], Asks 14 (.exactly [copy]) s :=
  ⟨⟨asks (by decide +kernel), by decide +kernel⟩, ⟨asks (by decide +kernel), by decide +kernel⟩,
    fun c h => asks (by revert c; decide +kernel)⟩

theorem witness_StringRestoreAddsTheHistory :
    let h : RestoreReq := ⟨2 ^ 40, 256, 0, #v[65535, 1, 0, 0], [1000, 0], 1, 16⟩
    Asks 19 (restoreForm h) online ∧ Asks 19 (restoreForm h) frozen ∧ online.resp.mode = .supervising ∧
      str? (asked 19 (restoreForm h) online) 0 = some strUp ∧
      strNode? (asked 19 (restoreForm h) online) 0 = some strRole ∧ BaselineState.ofCode h.baselineState = some .learned ∧
      h.baseline.length = strRole.blocks ∧ strUp.ageing.frozen = false ∧ strUp.ageing.unrestored = true ∧
      (∀ c ∈ [2, 255], BaselineState.ofCode c = none) ∧ str? (asked 19 (restoreForm h) online) 31 = none ∧
      [1000].length ≠ strRole.blocks :=
  ⟨asks (by decide +kernel), asks (by decide +kernel), by decide +kernel⟩

/-! The Order Gate and the Order Tracker. -/

/-- A site order at the Port S head of a floor. -/
def ordered (f : Frame) (s : State) : State := came .s f s

/-- The floor with one tracked order in a state, to cabinet 1 under the sequence 9. -/
def tracked (e : OrderEntry) (s : State) : State := setOrders [e] s
def siteOf (st : EntryState) (sends : Nat) : OrderEntry :=
  ⟨.site, 12, 9, .setShare, some 1000, 0, sends, st, none, some (.reply, ⟨0, 500⟩)⟩

/-- The Gate may take an order at a floor. -/
abbrev Judged (s : State) (f : Frame) : Prop := OrderAtHead f (ordered f s)

theorem witness_SiteOrderIsForwardedOrAnswered :
    let share := order 12 9 1001
    let visit := visited .preparing 1
    let fwd := online.withGate (online.gate.set 3 .forward)
    let gates := fun s : State => (s.gate[OrderKind.index .setShare], s.gate[OrderKind.index .outputOpen],
      s.gate[OrderKind.index .outputClose])
    (Judged online (wireFrame 12 0 .order 9 [14, 0, 0]) ∧ parseOrder [14, 0, 0] = none ∧
      parseOrder (wireFrame 12 0 .order 9 [9, 0]).payload = none) ∧
    (Judged online (order 255 9 0) ∧ parseOrder (order 255 9 0).payload = some (.setShare, 0) ∧
      online.gate[OrderKind.index .setShare] = .interlocked) ∧
    (Judged online (order 255 12 0) ∧ online.gate[OrderKind.index .alarmSilence] = .forward ∧ anyVisit online = false) ∧
    (anyVisit visit = true ∧ OrderKind.returnsToService .outputClose = true) ∧
    (Judged online (order 21 9 0) ∧ cabAt? online 21 = none ∧ cabAt? online 240 = none) ∧
    (Judged online share ∧ parseOrder share.payload = some (.setShare, 1001) ∧ share.dest.toNat ≠ 255 ∧
      cabAt? online share.dest.toNat = some 1 ∧ cab? online 1 = some (cabIn 1 .online) ∧
      order? online ⟨.site, 12, 9⟩ = none ∧ interlockCause online .setShare 1001 1 (cabIn 1 .online) = none ∧
      gates online = (.interlocked, .supervisorOnly, .interlocked) ∧ fwd.gate[OrderKind.index .outputOpen] = .forward) ∧
    (Judged visit (order 12 3 0) ∧ cabCovered visit 1 = true ∧ cabCovered visit 0 = false) ∧
    (Judged online (order 12 3 0) ∧ interlockCause online .outputClose 0 1 (cabIn 1 .online) = some .state) := by
  refine ⟨?_, ?_, ?_, ?_, ?_, ?_, ?_, ?_⟩ <;> decide +kernel

/-- The interlock checks of R113 to R115, each the first to fail. -/
theorem witness_SiteOrderInterlocks :
    let plan := newPlan 1 .withdraw 0 (some 1)
    let r := cabIn 1 .online
    let silent := setCab online 2 { cabIn 2 .online with liveness := .silent }
    let loaded := setCab online 0 { cabIn 0 .online with load := 1500, rating := 200 }
    let battery := setCab online 0 (cabIn 0 .onBattery)
    let cause := fun (s : State) (k : OrderKind) (v : Nat) (r : CabRec) => interlockCause s k v 1 r
    let frozenOwner := aged (fun a => { a with frozen := true })
    let twelve := setOrders (List.replicate 12 (siteOf .waiting 1)) online
    cause (setPlan 0 (some plan) online) .setShare 0 r = some .planBusy ∧ cause silent .setShare 0 r = some .silent ∧
    cause loaded .setShare 0 r = some .capacity ∧ cause online .outputClose 0 r = some .state ∧
    cause online .batteryTestStart 0 (cabIn 1 .standby) = some .state ∧
    cause battery .batteryTestStart 0 r = some .busy ∧
    cause online .batteryTestStart 0 { r with bypass := .poor } = some .bypass ∧
    interlockCause frozenOwner .batteryTestStart 0 0 (cabIn 0 .online) = some .reserve ∧
    cause twelve .setShare 1000 r = some .trackingFull ∧ cause online .batteryTestStart 0 r = none := by decide +kernel

theorem witness_SiteRepeatsAreLimitedToFourSends :
    let share := order 12 9 1001
    (∀ st ∈ [EntryState.waiting, .accepted], ∀ n ∈ [1, 3, 4], let s := ordered share (tracked (siteOf st n) online)
      OrderAtHead share s ∧ parseOrder share.payload = some (.setShare, 1001) ∧ share.dest.toNat ≠ 255 ∧
        cabAt? s share.dest.toNat = some 1 ∧ cab? s 1 = some (cabIn 1 .online) ∧
        order? s ⟨.site, share.dest.toNat, share.seq⟩ = some (siteOf st n) ∧ (siteOf st n).kind = .setShare ∧
        (siteOf st n).value = some (min 1001 1000)) ∧
    (OrderAtHead (order 12 9 5) (ordered (order 12 9 5) (tracked (siteOf .waiting 1) online)) ∧
      (siteOf .waiting 1).value ≠ some (min 5 1000)) ∧
    (let close := order 12 3 0
     let e := { siteOf .waiting 1 with kind := .outputClose, value := none }
     let s := ordered close (tracked e (visited .active 1))
     OrderAtHead close s ∧ order? s ⟨.site, 12, 9⟩ = some e ∧ cabCovered s 1 = true) := by decide +kernel

/-- A cabinet's reply of an answer code under the sequence 9. -/
def reply (dest answer : Byte) : Frame := wireFrame dest 12 .reply 9 [answer, 9, 0, 3]

theorem witness_RepliesToTheSiteActOnTheirEntry :
    (∀ st ∈ [EntryState.waiting, .accepted], ∀ a ∈ [(1 : Byte), 2, 3], let s := came .f (reply 0 a) (tracked (siteOf st 1) online)
      ReplyAtHead (reply 0 a) s ∧ (reply 0 a).dest.toNat = 0 ∧ order? s ⟨.site, 12, 9⟩ = some (siteOf st 1) ∧
        (siteOf st 1).state ≠ .lapsed ∧ cabAt? s (siteOf st 1).target = some 1 ∧ cab? s 1 = some (cabIn 1 .online)) ∧
    (parseReply (reply 0 1).payload = some (.accepted, 3) ∧ parseReply (reply 0 2).payload = some (.done, 3) ∧
      parseReply (reply 0 3).payload = some (.rejected, 3) ∧ parseReply (reply 0 4).payload = none) ∧
    (ReplyAtHead (reply 0 4) (came .f (reply 0 4) online) ∧ order? online ⟨.site, 12, 9⟩ = none) ∧
    (∀ d ∈ [(1 : Byte), 239, 255], ReplyAtHead (reply d 1) (came .f (reply d 1) online) ∧
      (reply d 1).dest.toNat ≠ 0 ∧ (reply d 1).dest.toNat ≠ 240) ∧
    ((∃ m, lead? (floor .maintBypass .standby .standby) 0 = some m ∧ m.2.reported = some .maintBypass) ∧
      ∃ m, lead? online 0 = some m ∧ m.2.reported = some .online) :=
  ⟨by decide +kernel, by decide +kernel, by decide +kernel, by decide +kernel, ⟨_, rfl, by decide +kernel⟩,
    ⟨_, rfl, by decide +kernel⟩⟩

/-! The Transfer Sequencer. -/

/-- The plan of slot 0 in a state and stage, with its order to cabinet 1 under the sequence 9, a settle and sends. -/
def planAt (k : PlanKind) (st : PlanState) (stage : Stage) (settle sends : Nat) : Plan :=
  { newPlan 7 k 0 (some 1) with
    state := st, stage := some stage, order := some ⟨.isolate, 12, 9, none⟩, sends := sends, settle := settle }

/-- A plan in slot 0 of a floor. -/
def planned (p : Plan) (s : State) : State := setPlan 0 (some p) s

/-- The entry of that plan's order with a window of 500 ms. -/
def planEntryIn (w : WindowKind) (sends : Nat) : OrderEntry :=
  ⟨.plan, 12, 9, .isolate, none, 0, sends, .waiting, some 0, some (w, ⟨0, 500⟩)⟩

theorem witness_RepliesToThePlanMoveIt :
    (∀ settle ∈ [0, 1], ∀ a ∈ [(2 : Byte), 3],
      let p := planAt .withdraw .issued .isolate settle 1
      let s := came .f (reply 240 a) (tracked (planEntryIn .reply 1) (planned p online))
      ReplyAtHead (reply 240 a) s ∧ (reply 240 a).dest.toNat = 240 ∧
        order? s ⟨.plan, 12, 9⟩ = some (planEntryIn .reply 1) ∧ (planEntryIn .reply 1).slot = some 0 ∧
        (planEntryIn .reply 1).state ≠ .lapsed ∧ plan? s 0 = some p ∧ p.state = .issued ∧ p.stage = some .isolate) ∧
    (∀ x ∈ [(EntryState.waiting, PlanState.issued), (.accepted, .issued), (.lapsed, .halted)], ∀ a ∈ [(1 : Byte), 2, 3],
      let e := { planEntryIn .reply 1 with state := x.1 }
      let p := planAt .withdraw x.2 .isolate 0 1
      let s := came .f (reply 240 a) (tracked e (planned p online))
      ReplyAtHead (reply 240 a) s ∧ order? s ⟨.plan, 12, 9⟩ = some e ∧ e.slot = some 0 ∧ plan? s 0 = some p ∧
        p.state = x.2 ∧ cabAt? s e.target = some 1 ∧ cab? s 1 = some (cabIn 1 .online)) ∧
    (∀ stage ∈ [Stage.rampDown, .rampUp],
      let ra : Ramp := ⟨1000, 20, 1000, some 0, none, none⟩
      let p := { planAt (if stage = .rampUp then .restore else .withdraw) .issued stage 0 1 with ramp := some ra }
      let s := came .f (reply 240 2) (tracked (planEntryIn .reply 1) (planned p online))
      plan? s 0 = some p ∧ p.state = .issued ∧ p.stage = some stage ∧ p.ramp = some ra) ∧
    (parseReply (reply 240 1).payload = some (.accepted, 3) ∧ parseReply (reply 240 2).payload = some (.done, 3) ∧
      parseReply (reply 240 3).payload = some (.rejected, 3)) ∧
    order? (came .f (reply 240 2) online) ⟨.plan, 12, 9⟩ = none := by
  refine ⟨?_, ?_, ?_, ?_, ?_⟩ <;> decide +kernel

theorem witness_WindowExpiryRemovesResendsOrHalts :
    (let s := later 500 (tracked (siteOf .waiting 1) online)
     s.bridge = .opened ∧ order? s ⟨.site, 12, 9⟩ = some (siteOf .waiting 1) ∧ RunOut ⟨0, 500⟩ s) ∧
    (let e := { siteOf .accepted 1 with window := some (.completion, ⟨0, 500⟩) }
     order? (tracked e online) ⟨.site, 12, 9⟩ = some e) ∧
    ∀ w ∈ [WindowKind.reply, .completion], ∀ n ∈ [3, 4],
      let p := planAt .withdraw .issued .isolate 1000 n
      let s := later 500 (tracked (planEntryIn w n) (planned p online))
      s.bridge = .opened ∧ plan? s 0 = some p ∧ p.state = .issued ∧ p.order = some ⟨.isolate, 12, 9, none⟩ ∧ p.sends = n ∧
        order? s ⟨.plan, 12, 9⟩ = some (planEntryIn w n) ∧ (planEntryIn w n).slot = some 0 ∧ cabAt? s 12 = some 1 ∧
        RunOut ⟨0, 500⟩ s := by decide +kernel

theorem witness_PlanRequestFillsTheSlot :
    ((∀ c, Asks 23 (planForm c) State.reset) ∧ (∀ c, Asks 23 (planForm c) online) ∧
      PlanKind.ofCode 0 = none ∧ PlanKind.ofCode 5 = none ∧ PlanKind.ofCode 1 = some .withdraw) ∧
    (¬4 < 4 ∧ ¬24 < 24 ∧ members online 1 = [] ∧ members online 0 ≠ [] ∧ groupOf? online 1 = some 0 ∧
      groupOf? online 3 ≠ some 0) ∧
    (plan? (planned (newPlan 1 .withdraw 0 (some 1)) online) 0 ≠ none ∧ plan? online 0 = none) ∧
    (cabCovered (visited .active 1) 1 = true ∧ members (visited .active 1) 0 = [0, 1, 2]) ∧
    (startingCondition online .withdraw 0 (some 1) = true ∧ startingCondition online .restore 0 (some 1) = false) ∧
    (1 ≤ online.seq.nextPlan ∧ online.seq.nextPlan ≤ 255 ∧ ¬∃ j p, plan? online j = some p ∧ p.id = 1) ∧
    (let s := setPlan 3 (some (newPlan 255 .withdraw 3 (some 23))) (online.withSeq { online.seq with nextPlan := 255 })
     1 ≤ s.seq.nextPlan ∧ s.seq.nextPlan ≤ 255 ∧ ∃ j p, plan? s j = some p ∧ p.id = s.seq.nextPlan) :=
  ⟨⟨fun _ => asks rfl, fun _ => asks rfl, by decide⟩, by decide +kernel, by decide +kernel, by decide +kernel,
    by decide +kernel, ⟨by decide +kernel, by decide +kernel, fun ⟨j, p, h, _⟩ => by simp [online, no_plan] at h⟩,
    by decide, by decide, 3, _, rfl, rfl⟩

theorem witness_StartingConditionsReadTheReportedModes : cab? online 1 = some (cabIn 1 .online) := by decide +kernel

/-- That a record with a property stands at an index is decidable. -/
theorem stands {s : State} {m : Nat} {q : CabRec → Prop} [DecidablePred q] :
    (∃ r, cab? s m = some r ∧ q r) ↔ (cab? s m).any (fun r => decide (q r)) = true := by
  simp [Option.any_eq_true]

/-- The floor, cabinet 0 so loaded that the group does not carry without cabinet 1. -/
def loaded : State := setCab online 0 { cabIn 0 .online with load := 1500, rating := 200 }

theorem witness_StepTriggerIssuesHaltsOrCompletes :
    (let p := { planAt .withdraw .checking .openOut 0 0 with order := none }
     let s := planned p online
     s.bridge = .opened ∧ plan? s 0 = some p ∧ p.group = 0 ∧ p.state = .checking ∧ p.stage = some .openOut ∧
       p.stepDone = false ∧ Stage.openOut ∉ [Stage.check, .rampDown, .rampUp] ∧ p.step < stageSteps s 0 .openOut ∧
       stepCabinet s p .openOut p.step = some 1 ∧ cab? s 1 = some (cabIn 1 .online) ∧
       stepSkipped .openOut p.step (cabIn 1 .online) = false ∧ recheck s p .openOut = none ∧
       recheck (setCab s 0 { cabIn 0 .online with load := 1500, rating := 200 }) p .openOut = some (.capacity, 0)) ∧
    (let p := planAt .withdraw .checking .openOut 0 0
     let s := planned p (floor .online .standby .online)
     plan? s 0 = some p ∧ p.stepDone = false ∧ p.step < stageSteps s 0 .openOut ∧
       stepCabinet s p .openOut p.step = some 1 ∧ cab? s 1 = some (cabIn 1 .standby) ∧
       stepSkipped .openOut p.step (cabIn 1 .standby) = true) ∧
    (let p := { planAt .restore .checking .close 0 0 with stepDone := true }
     let s := planned p online
     p.stage = some .close ∧ p.stepDone = true ∧ p.step + 1 < stageSteps s 0 .close ∧
       stageSteps s 0 .close ≤ { p with step := 1 }.step + 1 ∧ [Stage.deisolate, .close, .rampUp][1]? = some .close ∧
       [Stage.deisolate, .close, .rampUp][2]? = some .rampUp) ∧
    (let p := newPlan 7 .groupToMaint 0 none
     let bad := planned p (setCab online 2 { cabIn 2 .online with bypass := .absent })
     plan? bad 0 = some p ∧ p.stage = none ∧ p.kind = .groupToMaint ∧ recheck bad p .check = some (.bypass, 2) ∧
       recheck (planned p online) p .check = none) ∧
    (let p := { planAt .withdraw .checking .check 0 0 with stepDone := true }
     let s := planned p online
     p.stage = some .check ∧ p.stepDone = true ∧ [Stage.check, .rampDown][1]? = some .rampDown ∧ p.target = some 1 ∧
       cab? s 1 = some (cabIn 1 .online)) ∧
    (∀ x ∈ [(PlanKind.withdraw, Stage.isolate, 0), (.restore, .rampUp, 0), (.groupToMaint, .isolateAll, 2),
        (.groupFromMaint, .toInverter, 2)],
      let p := { planAt x.1 .checking x.2.1 0 0 with step := x.2.2, stepDone := true }
      let s := planned p online
      plan? s 0 = some p ∧ p.kind = x.1 ∧ p.stage = some x.2.1 ∧ p.stepDone = true ∧ (members s 0).length = 3) := by
  decide +kernel

/-- The re-checks of R132: the lowest SILENT member, the lowest whose bypass source is not GOOD, a WITHDRAW that the group
does not carry, and none of them. -/
theorem witness_StepTriggerRechecks :
    let silent := fun (s : State) m => ∃ r, cab? s m = some r ∧ r.group = 0 ∧ r.liveness = .silent
    let poor := fun (s : State) m => ∃ r, cab? s m = some r ∧ r.group = 0 ∧ r.bypass ≠ .good
    let quiet := setCab online 2 { cabIn 2 .online with liveness := .silent }
    let bad := setCab online 2 { cabIn 2 .online with bypass := .poor }
    (silent quiet 2 ∧ ∀ j < 2, ¬silent quiet j) ∧ (poor bad 2 ∧ ∀ j < 2, ¬poor bad j) ∧ (∀ m, ¬silent bad m) ∧
    (∀ m, ¬silent loaded m) ∧ ¬carries loaded 0 1 0 ∧ (∀ m, ¬silent online m) ∧ (∀ m, ¬poor online m) ∧
    carries online 0 1 0 := by
  have none' : ∀ s ∈ [online, loaded, setCab online 2 { cabIn 2 .online with bypass := .poor }],
      ∀ m r, cab? s m = some r → r.liveness ≠ .silent := fun s hs m r h =>
    of_decide_eq_true (every s.cabs (fun _ r => decide (r.liveness ≠ .silent)) (by clear h; revert s; decide +kernel) h)
  have good : ∀ m r, cab? online m = some r → r.bypass = .good := fun m r h =>
    of_decide_eq_true (every online.cabs (fun _ r => decide (r.bypass = .good)) (by decide +kernel) h)
  refine ⟨⟨stands.mpr ?_, fun j hj => fun x => ?_⟩, ⟨stands.mpr ?_, fun j hj => fun x => ?_⟩,
    fun m ⟨r, h, _, x⟩ => none' _ (by simp) m r h x, fun m ⟨r, h, _, x⟩ => none' _ (by simp) m r h x, ?_,
    fun m ⟨r, h, _, x⟩ => none' _ (by simp) m r h x, fun m ⟨r, h, _, x⟩ => x (good m r h), ?_⟩
  case refine_2 => have := stands.mp x; clear x; revert j; decide +kernel
  case refine_4 => have := stands.mp x; clear x; revert j; decide +kernel
  all_goals first | decide +kernel | (unfold carries; decide +kernel)

/-- A RAMPING plan of cabinet 1 at a limit with an interval and a match window, and the floor with cabinet 1 at a load. -/
def rampPlan (st : Stage) (limit : Nat) (timer : Option Timer) : Plan :=
  { planAt (if st = .rampUp then .restore else .withdraw) .ramping st 0 1 with
    ramp := some ⟨limit, 20, 1000, some 0, timer, some ⟨0, 15000⟩⟩ }
def ramping (p : Plan) (load : Nat) : State :=
  (planned p (setCab online 1 { cabIn 1 .online with load := load })).withHand ⟨[], [], [1]⟩

theorem witness_RampsAndPlanTimers :
    (∀ st ∈ [Stage.rampDown, .rampUp], ∀ limit ∈ [0, 1000], ∀ t ∈ [none, some ⟨0, 1000⟩], ∀ load ∈ [0, 1020, 1021],
      let p := rampPlan st limit t
      let s := ramping p load
      s.bridge = .opened ∧ s.hand.ramp = [1] ∧ groupOf? s 1 = some 0 ∧ plan? s 0 = some p ∧ p.state = .ramping ∧
        p.stage = some st ∧ p.ramp = some ⟨limit, 20, 1000, some 0, t, some ⟨0, 15000⟩⟩ ∧ p.target = some 1 ∧
        cab? s 1 = some { cabIn 1 .online with load := load } ∧ (memberRecs s 0).all (fun m => m.2.liveness == .live)) ∧
    (let s := ramping (rampPlan .rampDown 1000 none)
     (groupParams (s 0) 0).matchTolerance = 20 ∧ (cabIn 1 .online).restoreLimit = 600 ∧
       carries (s 100) 0 1 980 ∧ ¬carries (setCab (s 100) 0 { cabIn 0 .online with load := 1500, rating := 1000 }) 0 1 980 ∧
       (cab? (setCab (s 100) 2 { cabIn 2 .online with liveness := .silent }) 2).map (·.liveness) = some .silent ∧
       ((s 100).withHand ⟨[], [], [5]⟩).hand.ramp = [5] ∧ groupOf? (s 100) 5 = none) ∧
    (let s := planned (planAt .withdraw .checking .rampDown 0 1) online
     ∀ p, plan? s 0 = some p → p.state ≠ .ramping) ∧
    (let p := { planAt .withdraw .settling .openOut 1000 1 with settleTimer := some ⟨0, 1000⟩ }
     let s := later 1000 (planned p online)
     s.bridge = .opened ∧ plan? s 0 = some p ∧ p.state = .settling ∧ p.settleTimer = some ⟨0, 1000⟩ ∧
       RunOut ⟨0, 1000⟩ s) ∧
    RunOut ⟨0, 15000⟩ (later 15000 (ramping (rampPlan .rampUp 80 none) 30)) ∧
    RunOut ⟨0, 1000⟩ (later 1000 (ramping (rampPlan .rampUp 80 (some ⟨0, 1000⟩)) 30)) := by
  refine ⟨by decide +kernel, ?_, fun p h => ?_, by decide +kernel, by decide +kernel, by decide +kernel⟩
  · unfold carries
    decide +kernel
  · cases Option.some.inj h
    decide

theorem witness_ResumeAndAbandonActOnThePlan : ∀ st ∈ [PlanState.checking, .halted], ∀ late ∈ [true, false],
    ∀ stage ∈ [Stage.isolate, .rampUp], ∀ settle ∈ [0, 1],
    let p := { planAt .withdraw st stage settle 1 with lateSinceHalt := late }
    let s := planned p online
    Asks 24 (plainForm 24) s ∧ Asks 25 (plainForm 25) s ∧ s.resp.mode = .supervising ∧ planById s 7 = some (0, p) ∧
      p.state = st := by
  intro st hst late hl stage hs settle ht
  refine ⟨asks rfl, asks rfl, rfl, ?_, rfl⟩
  revert st late stage settle
  decide +kernel

/-! The Visit Register. -/

/-- The fields of a Visit Open that pass its BAD_VALUE check. -/
abbrev Formed (r : VisitReq) : Prop := (1 ≤ r.id ∧ r.id ≤ 255) ∧ r.cabinets ≠ [] ∧ (∀ c ∈ r.cabinets, c < 24) ∧
  (∀ i ∈ r.strings, i < 32) ∧ 1 ≤ r.depth ∧ r.depth ≤ 3

theorem witness_VisitOpenIsCheckedThenPrepares :
    let good := fun d : Nat => (⟨255, [1, 0], [0], d, 721, 0⟩ : VisitReq)
    let s := asked 27 (visitForm (good 1)) (visited .closing 2)
    let full := { online.visits with entries := Vector.replicate 8 (some (visitIn .active 2)) }
    (∀ d, Asks 27 (visitForm (good d)) State.reset ∧ Asks 27 (visitForm (good d)) (visited .closing 2) ∧
      s.resp.mode = .supervising) ∧
    ((∀ d ∈ [1, 3], Formed (good d)) ∧ ∀ r ∈ [good 0, good 4, ⟨0, [1], [], 1, 1, 1⟩, ⟨256, [1], [], 1, 1, 1⟩,
      ⟨1, [], [], 1, 1, 1⟩, ⟨1, [24], [], 1, 1, 1⟩, ⟨1, [1], [32], 1, 1, 1⟩], ¬Formed r) ∧
    (¬∃ k < 8, visitEntry? (online.withVisits full) k = none) ∧
    ((∀ k v, visitEntry? s k = some v → v.id ≠ (good 1).id) ∧ (visitEntry? s 7).map (·.id) = some 5) ∧
    (cab? s 3 = none ∧ str? s 1 = none) ∧
    ((∀ c ∈ (good 1).cabinets, ¬cab? s c = none) ∧
      ∀ i ∈ (good 1).strings, ¬(str? s i = none ∨ ¬∃ n, strNode? s i = some n ∧ n.owner ∈ (good 1).cabinets)) ∧
    ((∀ c ∈ (good 1).cabinets, ¬∃ k v, visitEntry? s k = some v ∧ v.state.covers = true ∧ c ∈ v.cabinets) ∧
      (∀ i ∈ (good 1).strings, ¬∃ k v, visitEntry? s k = some v ∧ v.state.covers = true ∧ i ∈ v.strings) ∧
      ∃ k v, visitEntry? s k = some v ∧ v.state.covers = true ∧ 2 ∈ v.cabinets) ∧
    ((∀ g, plan? s g = none) ∧ ∃ g p, plan? (planned (newPlan 1 .restore 0 (some 1)) s) g = some p ∧
      p.kind = .restore ∧ p.target = some 1) ∧
    (Depth.toCode .doorOnly = 1 ∧ visitEntry? s 0 = none ∧ ∀ j < 0, visitEntry? s j ≠ none) := by
  intro good s
  have only : ∀ k v, visitEntry? s k = some v → v = visitIn .closing 2 := fun k v h => (only_visit .closing 2 k v h).2
  refine ⟨fun _ => ⟨asks rfl, asks rfl, rfl⟩, by decide +kernel, by decide +kernel, ⟨fun k v h => ?_, by decide +kernel⟩, by decide +kernel,
    ⟨by decide +kernel, ?_⟩, ⟨?_, ?_, ⟨7, visitIn .closing 2, by decide +kernel⟩⟩, ⟨fun g => no_plan .online .online .online g, ⟨0, _, rfl, by
      decide +kernel⟩⟩, by decide +kernel, by decide +kernel, fun j hj => absurd hj (Nat.not_lt_zero j)⟩
  · rw [only k v h]
    decide
  · intro i hi
    have : i = 0 := by simpa [good] using hi
    subst this
    have h : str? s 0 ≠ none := by decide +kernel
    have n : strNode? s 0 = some strRole := by decide +kernel
    exact fun x => x.elim h (fun y => y ⟨strRole, n, by decide⟩)
  · rintro c hc ⟨k, v, h, -, hv⟩
    rw [only k v h] at hv
    revert hc hv c
    decide
  · rintro i hi ⟨k, v, h, -, hv⟩
    rw [only k v h] at hv
    revert hi hv i
    decide

theorem witness_VisitEndsByRequestOrTimer :
    (∀ st ∈ [VisitState.preparing, .active, .closing], let s := visited st 1
      s.resp.mode = .supervising ∧ visitById s 5 = some (7, visitIn st 1) ∧ (visitIn st 1).state = st ∧
        ∀ n ∈ [28, 29, 30], Asks n (plainForm n) s) ∧
    ((cab? (visited .active 1) 1).any (fun r => r.door == .opened) = false ∧
      (cab? (setCab (visited .active 1) 1 { cabIn 1 .online with door := .opened }) 1).any
        (fun r => r.door == .opened) = true) ∧
    ((visitIn .preparing 1).prepareTimer = some ⟨0, 1800000⟩ ∧ RunOut ⟨0, 1800000⟩ (later 1800000 online)) ∧
    ((visitIn .active 1).durationTimer = some ⟨0, 3600000⟩ ∧ RunOut ⟨0, 3600000⟩ (later 3600000 online)) ∧
    (visitIn .closing 1).closeTimer = some ⟨0, 1800000⟩ := by
  refine ⟨fun st h => ⟨rfl, ?_, rfl, fun n hn => asks (by revert st n; decide +kernel)⟩, by decide +kernel⟩
  revert st
  decide +kernel

/-- A hand-off of a cabinet with its door, at a state. -/
def handOff (c : Nat) (d : Door) (s : State) : State := s.withHand ⟨[⟨c, .isolated, d⟩], [], []⟩

theorem witness_VisitHandOffWorksThenJudgesTheDoor :
    (∀ d ∈ [Door.opened, .closed], (handOff 2 d (visited .active 1)).bridge = .opened ∧
      (handOff 2 d (visited .active 1)).hand.visit = [⟨2, .isolated, d⟩]) ∧
    (∀ k v, visitEntry? (visited .active 1) k = some v → 2 ∉ v.cabinets) ∧
    (∀ st ∈ [VisitState.preparing, .active, .closing], VisitsDisjoint (handOff 1 .closed (visited st 1)) ∧
      visitEntry? (handOff 1 .closed (visited st 1)) 7 = some (visitIn st 1) ∧ 1 ∈ (visitIn st 1).cabinets) ∧
    ((cab? (visited .active 1) 1).bind (·.reported) = some .online ∧
      (cab? (setCab (visited .active 1) 1 (cabIn 1 .isolated)) 1).bind (·.reported) = some .isolated) ∧
    ((cab? (visited .closing 1) 1).map (·.door) = some .closed ∧
      (cab? (setCab (visited .closing 1) 1 { cabIn 1 .online with door := .opened }) 1).map (·.door) = some .opened) ∧
    (∃ k v, visitEntry? (visited .closing 1) k = some v ∧ (v.state = .active ∨ v.state = .closing) ∧ 1 ∈ v.cabinets) ∧
    (let s := online.withVisits { online.visits with forceClose := [(1, 5)] }
     s.visits.forceClose.find? (fun p => p.1 == 1) = some (1, 5) ∧ (∀ id, (1, id) ∉ online.visits.forceClose) ∧
       ¬∃ k v, visitEntry? s k = some v ∧ (v.state = .active ∨ v.state = .closing) ∧ 1 ∈ v.cabinets) := by
  refine ⟨by decide +kernel, fun k v h => ?_, fun st hst => ⟨⟨fun k v h => ?_, ?_, ?_, ?_⟩, rfl, List.mem_singleton.mpr rfl⟩, by decide +kernel,
    by decide +kernel, ⟨7, visitIn .closing 1, rfl, by decide⟩, by decide, fun id => by simp [online, floor, State.reset],
    ?_⟩
  · rw [(only_visit _ _ k v h).2]
    decide
  · rw [(only_visit _ _ k v h).2]
    clear h
    revert st
    decide
  · intro j k v w hv hw _
    rw [(only_visit _ _ j v hv).1, (only_visit _ _ k w hw).1]
  · intro j k v w c hv hw _ _
    rw [(only_visit _ _ j v hv).1, (only_visit _ _ k w hw).1]
  · intro j k v w i hv hw _ _
    rw [(only_visit _ _ j v hv).1, (only_visit _ _ k w hw).1]
  · rintro ⟨k, v, h, -⟩
    have : visitEntry? online k = some v := h
    simp [online, no_visit] at this

/-! The management requests on the directory, the mode, the records, the limits, the ports and the resets. -/

theorem witness_NodeEntriesAreWrittenClearedAndRead :
    ((∀ role ∈ [NodeRoleReq.cabinet 23 3 true 10 (some 1000), .cabinet 23 3 false 10 none, .stringMonitor 31 23 40 2000,
        .otherRole], ∀ s ∈ [State.reset, online], Asks 2 (nodeForm ⟨239, 500, 15, role⟩) s) ∧
      ∀ n ∈ [3, 4], Asks n (plainForm n) State.reset) ∧
    State.reset.resp.mode = .unconfigured ∧ online.resp.mode = .supervising ∧
    (55 < 56 ∧ 1 ≤ 239 ∧ 239 ≤ 239 ∧ 23 < 24 ∧ 3 < 4 ∧ 31 < 32 ∧ 40 ≤ 40) ∧
    (∀ a ∈ [0, 240], ¬(1 ≤ a ∧ a ≤ 239)) ∧ online.resp.dir[3]? = some (some strEntry) ∧
    online.resp.dir[55]? = some none :=
  ⟨⟨fun role hr s hs => asks (by revert role s; decide +kernel), fun n hn => asks (by revert n; decide +kernel)⟩,
    by decide +kernel⟩

theorem witness_DirectoryIsFrozenWhileSupervising :
    online.resp.mode = .supervising ∧ exec (.watchExpiry (.cabinet 23)) online = .next online ∧
    isFullReset (.watchExpiry (.cabinet 23)) = false ∧ Instr.watchExpiry (.cabinet 23) ≠ .stopSupervision :=
  ⟨rfl, rfl, rfl, by decide⟩

/-- UNCONFIGURED, with a directory of up to two entries in its first places. -/
def unstarted (x y : Option DirEntry) : State :=
  State.reset.withResp { State.reset.resp with dir := ((Vector.replicate 56 none).set 0 x).set 1 y }

/-- The entries of such a directory. -/
theorem only_entries (x y : Option DirEntry) (i : Nat) (e : DirEntry)
    (h : (asked 5 (.exactly []) (unstarted x y)).resp.dir[i]? = some (some e)) : (i = 0 ∧ x = some e) ∨ (i = 1 ∧ y = some e) := by
  by_cases h1 : i = 1
  · subst h1
    exact .inr ⟨rfl, Option.some.inj h⟩
  · by_cases h0 : i = 0
    · subst h0
      exact .inl ⟨rfl, Option.some.inj h⟩
    · have n : (unstarted x y).resp.dir[i]? = (Vector.replicate 56 (none : Option DirEntry))[i]? := by
        simp [unstarted, State.withResp, Ne.symm h0, Ne.symm h1]
      change (unstarted x y).resp.dir[i]? = _ at h
      rw [n, Vector.getElem?_replicate] at h
      split at h <;> cases h

theorem witness_StartSupervisionChecksThenBuilds :
    let s := fun x y => asked 5 (.exactly []) (unstarted x y)
    let cabAt := fun (s : State) (i : Nat) (e : DirEntry) (n : CabNode) =>
      s.resp.dir[i]? = some (some e) ∧ e.role = .cabinet n
    (∀ x ∈ [none, some (cabEntry 0)], ∀ y ∈ [none, some strEntry, some { strEntry with addr := 11 }],
      Asks 5 (.exactly []) (unstarted x y) ∧ (s x y).resp.mode = .unconfigured) ∧
    (∀ i e n, ¬cabAt (s none (some strEntry)) i e n) ∧
    (∃ i e n, cabAt (s (some (cabEntry 0)) (some strEntry)) i e n) ∧
    (∃ e x, (s (some (cabEntry 0)) (some { strEntry with addr := 11 })).resp.dir[1]? = some (some e) ∧
      (s (some (cabEntry 0)) (some { strEntry with addr := 11 })).resp.dir[0]? = some (some x) ∧ x.addr = e.addr) ∧
    leaves .startSupervision (s (some (cabEntry 0)) (some strEntry)) (fun t => decide (
      t.replyQ = [manageReplyFrame 7 ⟨5, .ok, none, none, .none⟩] ∧ t.resp.mode = .supervising ∧ members t 0 = [0] ∧
      (lead? t 0).map Prod.fst = some 0 ∧ groupRating t 0 = 100 ∧ stringsOfGroup t 0 = [0] ∧ members t 1 = [])) = true ∧
    (∀ i e n, cabAt (s (some (cabEntry 0)) (some strEntry)) i e n → n.index < 24) ∧
    leaves .startSupervision (s (some (cabEntry 0)) (some { strEntry with addr := 11 })) (fun t => decide (
      t.replyQ = [manageReplyFrame 7 ⟨5, .refused, some .directory, some 1, .none⟩])) = true := by
  refine ⟨fun x hx y hy => ⟨asks rfl, rfl⟩, ?_, ⟨0, cabEntry 0, cabRole 0, rfl, rfl⟩, ⟨_, cabEntry 0, rfl, rfl, rfl⟩,
    by decide +kernel, ?_, by decide +kernel⟩
  · rintro i e n ⟨h, r⟩
    rcases only_entries _ _ i e h with ⟨-, h⟩ | ⟨-, h⟩ <;> cases h
    cases r
  · rintro i e n ⟨h, r⟩
    rcases only_entries _ _ i e h with ⟨-, h⟩ | ⟨-, h⟩ <;> cases h <;> cases r
    decide

theorem witness_StopSupervisionEmptiesTheFloor :
    Asks 6 (.exactly []) online ∧ online.resp.mode = .supervising ∧
    (∃ g p, plan? (asked 6 (.exactly []) (planned (newPlan 1 .withdraw 0 (some 1)) online)) g = some p) ∧
    Asks 6 (.exactly []) (visited .active 1) ∧ (∃ k v, visitEntry? (asked 6 (.exactly []) (visited .active 1)) k = some v) ∧
    ¬((∃ g p, plan? (asked 6 (.exactly []) online) g = some p) ∨
      ∃ k v, visitEntry? (asked 6 (.exactly []) online) k = some v) := by
  refine ⟨asks rfl, rfl, ⟨0, _, rfl⟩, asks rfl, ⟨7, _, rfl⟩, ?_⟩
  rintro (⟨g, p, h⟩ | ⟨k, v, h⟩)
  · exact absurd ((no_plan .online .online .online g).symm.trans h) (by simp)
  · exact absurd ((no_visit .online .online .online k).symm.trans h) (by simp)

theorem witness_RecordReadsAnswerTheRecord :
    ((∀ n ∈ [15, 16, 17], Asks n (plainForm n) online) ∧ ∀ part, Asks 18 (ageingReadForm part) online) ∧
    (∀ first ∈ [0, 41], first < 1 ∨ 40 < first) ∧ (∀ first ∈ [1, 2, 40], ¬(first < 1 ∨ 40 < first)) ∧
    online.resp.mode = .supervising ∧
    (cab? online 23 = none ∧ cab? online 0 = some (cabIn 0 .online) ∧ str? online 31 = none ∧ str? online 0 = some strUp) ∧
    (strUp.volts.length = 2 ∧ strNode? online 0 = some strRole ∧ strRole.owner = 0) ∧
    (∀ n ∈ [0, 16], (List.replicate n (65535, 2000)).length ≤ 16) ∧
    ∀ k r, ¬(str? online k = some r ∧ ∃ n, strNode? online k = some n ∧ n.owner = 1) := by
  refine ⟨⟨fun n h => asks (by revert n; decide +kernel), fun _ => asks rfl⟩, by decide, by decide, rfl, by decide +kernel,
    by decide +kernel, by decide, ?_⟩
  rintro k r ⟨h, n, hn, ho⟩
  by_cases hk : k = 0
  · subst hk
    have : strNode? online 0 = some strRole := by decide +kernel
    rw [this] at hn
    cases hn
    cases ho
  · have e : str? online k = ((Vector.replicate 32 (none : Option StrRec))[k]?).join := by
      simp [str?, online, floor, Ne.symm hk]
    rw [e, Vector.getElem?_replicate] at h
    split at h <;> cases h

theorem witness_ReadIdentityNamesThePart : Asks 1 (.exactly []) State.reset := asks rfl

theorem witness_PlanVisitAndCounterReads :
    let s := planned (planAt .withdraw .checking .isolate 0 0) (visited .active 1)
    (∀ n ∈ [26, 31], Asks n (plainForm n) s) ∧
    (Takes 32 (.flag false) (askWith 32 [0]) (askedWith 32 [0] s) ∧
      ∀ x ∈ [(1 : Byte), 255], Takes 32 (.flag true) (askWith 32 [x]) (askedWith 32 [x] s)) ∧
    s.resp.mode = .supervising ∧ plan? s 3 = none ∧
    (∃ p, plan? s 0 = some p) ∧ 5 ≠ 0 ∧ visitById s 5 = some (7, visitIn .active 1) :=
  ⟨fun n h => asks (by revert n; decide +kernel), by decide +kernel, rfl, by decide +kernel, ⟨_, rfl⟩, by decide,
    by decide +kernel⟩

theorem witness_WriteLimitEntryReplacesTheEntry :
    let s := asked 8 (plainForm 8) (limited ⟨3, true⟩)
    (Asks 8 (plainForm 8) State.reset ∧ Asks 8 (plainForm 8) (limited ⟨3, true⟩)) ∧
    (∀ c ∈ [31, 64], c < 32 ∨ 63 < c) ∧ (∀ c ∈ [32, 63], 32 ≤ c ∧ c ≤ 63) ∧
    (∀ c ∈ [0, 9], Measurement.ofCode c = none) ∧ (∀ c ∈ [0, 3], Direction.ofCode c = none) ∧
    (Measurement.ofCode 4 = some .cabTemp ∧ Direction.ofCode 1 = some .high ∧ Direction.ofCode 2 = some .low) ∧
    (Measurement.cabTemp ∈ [Measurement.cabLoad, .cabInV, .cabOutV, .cabTemp] ∧
      Measurement.blockVMin ∉ [Measurement.cabLoad, .cabInV, .cabOutV, .cabTemp] ∧ 23 < 24 ∧ ¬24 < 24 ∧ ¬32 < 32) ∧
    (let trip := max (-400) (min 850 (900 : Int))
     trip = 850 ∧ (849 : Int) < trip ∧ ¬(850 : Int) < trip) ∧
    (limit? State.reset 31 = none ∧ limit? s 31 = some (hot 3)) ∧
    (let tripped := fun i : Nat => ∃ y, limitRec? s 31 (hot 3) (.cabinet i) = some y ∧ y.tripped = true
     let held := fun i : Nat => ∃ j x y, j ≠ 31 ∧ limit? s j = some x ∧ x.enabled = true ∧ x.code = (hot 3).code ∧
       limitRec? s j x (.cabinet i) = some y ∧ y.tripped = true
     [1].Pairwise (· < ·) ∧ ∀ i, i ∈ [1] ↔ i < 24 ∧ tripped i ∧ ¬held i) := by
  refine ⟨⟨asks (by decide +kernel), asks (by decide +kernel)⟩, by decide, by decide, by decide, by decide, by decide, by decide,
    by decide, by decide +kernel, by decide, fun i => ?_⟩
  have trips : ∀ i, i < 24 → ((limitRec? (limited ⟨3, true⟩) 31 (hot 3) (.cabinet i)).any (·.tripped) = true ↔ i = 1) := by
    decide +kernel
  have held : ¬∃ j x y, j ≠ 31 ∧ limit? (limited ⟨3, true⟩) j = some x ∧ x.enabled = true ∧ x.code = (hot 3).code ∧
      limitRec? (limited ⟨3, true⟩) j x (.cabinet i) = some y ∧ y.tripped = true := by
    rintro ⟨j, x, y, hj, h, -⟩
    exact hj (only_limit h).1
  constructor
  · intro h
    cases List.mem_singleton.mp h
    exact ⟨by decide, (Option.any_eq_true ..).mp ((trips 1 (by decide)).mpr rfl), held⟩
  · rintro ⟨lt, h, -⟩
    exact List.mem_singleton.mpr ((trips i lt).mp ((Option.any_eq_true ..).mpr h))

theorem witness_ManagementResetsActInOrder :
    (let s := planned (planAt .withdraw .issued .isolate 0 1) online
     (∀ kind ∈ [0, 1, 3], kind ≠ 2 ∧ Asks 33 (.exactly [kind]) s) ∧
      (plan? s 0).map (·.state) = some .issued) ∧
    Asks 33 (.exactly [2]) State.reset ∧
    (let s := (waits [someFrame] [] [] 0).withFullReset (.waiting 1)
     s.bridge = .opened ∧ s.fullReset = .waiting 1 ∧ s.replyQ = [someFrame] ∧ s.portS.tx = none ∧ s.fullReset ≠ .idle ∧
       isRequest .readIdentity = true) ∧
    (let x : Tx := ⟨someFrame, defaultLine, 0, 4⟩
     let s := (State.reset.withPortS { resetPort with tx := some x }).withFullReset .sending
     s.bridge = .opened ∧ s.fullReset = .sending ∧ s.portS.tx = some x ∧ x.refusals = 4) :=
  ⟨⟨fun k h => ⟨by revert k; decide, asks (by revert k; decide +kernel)⟩, by decide +kernel⟩, asks (by decide +kernel),
    by decide +kernel⟩

theorem witness_BadAndUntimelyRequestsAreRefused :
    (let head := fun p : List Byte =>
       let s := came .s (wireFrame 240 0 .manage 7 p) State.reset
       s.bridge = .opened ∧ s.fullReset = .idle ∧ s.replyQ.length < 4 ∧ manageHead? s = some (wireFrame 240 0 .manage 7 p)
     let parses := fun p : List Byte => ∃ i code form, requestForm i = some (code, form) ∧
       requestCode (wireFrame 240 0 .manage 7 p) = some code ∧
       form.fits (requestFieldBytes (wireFrame 240 0 .manage 7 p)) = true
     (∀ p ∈ [[], [0], [34], [99], [1, 0], [33], [33, 1, 0]], head p ∧ ¬parses p) ∧
       ∀ p ∈ [[1], [10, 3, 1], [33, 9]], head p ∧ parses p) ∧
    (Asks 5 (.exactly []) online ∧ ∀ n ∈ [3, 24, 25, 28, 29, 30, 31], Asks n (plainForm n) online) ∧
    online.resp.mode = .supervising ∧ (planById online 1 = none ∧ visitById online 1 = none) ∧
    (let h : RestoreReq := ⟨0, 0, 0, #v[0, 0, 0, 0], [0, 0], 0, 0⟩
     (∀ n ∈ [15, 16, 17, 20, 22, 24, 25, 26, 28, 29, 30, 31], Asks n (plainForm n) State.reset) ∧
       Asks 6 (.exactly []) State.reset ∧ (∀ part, Asks 18 (ageingReadForm part) State.reset) ∧
       Asks 19 (restoreForm h) State.reset ∧ (∀ c, Asks 23 (planForm c) State.reset) ∧
       Asks 27 (visitForm ⟨1, [0], [0], 1, 1, 1⟩) State.reset) ∧
    State.reset.resp.mode = .unconfigured := by
  refine ⟨⟨fun p hp => ⟨?_, fun h => ?_⟩, fun p hp => ⟨?_, ?_⟩⟩, ⟨asks rfl, fun n h => asks (by revert n; decide +kernel)⟩, rfl,
    by decide +kernel, ⟨fun n h => asks (by revert n; decide +kernel), asks rfl, fun _ => asks rfl, asks (by decide +kernel),
    fun _ => asks rfl, asks (by decide +kernel)⟩, rfl⟩
  · revert p; decide +kernel
  · have := (requestParses_iff _).mpr h
    clear h
    revert p; decide +kernel
  · revert p; decide +kernel
  · refine (requestParses_iff _).mp ?_
    revert p; decide +kernel

/-! Invariants. -/

/-- The step of `busy` that sends the waiting re-send. -/
def sending : State := busy.withPending [.transmitTake .f]

theorem witness_EveryStepKeepsWithinPlaces : WithinPlaces sending ∧ ∃ t, step sending = .next t := by
  have only : ∀ k v, visitEntry? sending k = some v → v = visitIn .active 1 := fun k v h =>
    of_decide_eq_true (every sending.visits.entries (fun _ v => decide (v = visitIn .active 1)) (by decide +kernel) h)
  refine ⟨⟨?_, ?_, ?_, ?_, ?_, ?_, ?_, ?_, ?_, ⟨?_, ?_⟩, ?_, ⟨?_, fun k v h => ?_⟩, ⟨?_, ?_⟩, ?_, ?_⟩, ⟨_, rfl⟩⟩
  case refine_10 =>
    intro e he _
    have : e.slot = some 0 ∨ e.origin = .site := by revert e; decide +kernel
    exact ⟨0, restoring, this.resolve_right (by simp_all), rfl, .inl rfl⟩
  case refine_14 =>
    rw [only k v h]
    decide
  case refine_18 => intro p; cases p <;> decide
  all_goals decide +kernel

theorem witness_EveryStepKeepsKeysDistinct :
    AlarmKeysDistinct sending ∧ SiteKeysDistinct sending ∧ ∃ t, step sending = .next t := by
  unfold AlarmKeysDistinct SiteKeysDistinct
  refine ⟨?_, ?_, ⟨_, rfl⟩⟩ <;> decide +kernel

theorem witness_EveryStepKeepsUnconfiguredEmpty :
    UnconfiguredHoldsNothing State.reset ∧ State.reset.resp.mode = .unconfigured ∧
    step (State.reset.withPending [.watchExpiry (.cabinet 23)]) = .next State.reset := by
  refine ⟨fun _ => ⟨fun c => ?_, fun i => ?_, fun g => ?_, fun k => ?_, rfl, rfl, rfl⟩, rfl, rfl⟩
  all_goals
    simp only [cab?, str?, plan?, visitEntry?, State.reset, Vector.getElem?_replicate]
    split <;> rfl

theorem witness_EveryStepKeepsVisitsAndPlansApart :
    VisitsDisjoint busy ∧ PlansInPlace busy ∧ UnconfiguredHoldsNothing busy ∧ PlansClearOfVisits busy ∧
    busy.resp.mode = .supervising ∧ ∃ t, step sending = .next t := by
  have only : ∀ {k v}, visitEntry? busy k = some v → k = 7 ∧ v = visitIn .active 1 := fun h =>
    of_decide_eq_true (every busy.visits.entries (fun k v => decide (k = 7 ∧ v = visitIn .active 1)) (by decide +kernel) h)
  refine ⟨⟨fun k v h => ?_, fun j k v w hv hw _ => ?_, fun j k v w c hv hw _ _ => ?_, fun j k v w i hv hw _ _ => ?_⟩,
    fun g p h => ?_, fun h => absurd h (by decide), busy_clear, rfl, ⟨_, rfl⟩⟩
  · rw [(only h).2]
    rfl
  · rw [(only hv).1, (only hw).1]
  · rw [(only hv).1, (only hw).1]
  · rw [(only hv).1, (only hw).1]
  · obtain ⟨rfl, rfl⟩ := only_restoring rfl h
    exact ⟨rfl, fun st hs => by cases hs; decide, fun h => nomatch h⟩

end Sys2Proof.Tests
end

