-- ==== Sys2Proof/Proofs/FloorClock.lean ====
section
/-! PROOF. The Floor Clock (R1) over a run of ticks: the clock advances by `FloorClock.tick` iterated, and the
iterated tick has a closed form in the phase the clock started from. -/

namespace Sys2Proof.Machine

/-! What several commands do, one command at a time. -/

theorem runs_cons_of_exec_eq_next {i : Instr} {s t : State} (h : exec i s = .next t) (rest : List Instr) :
    runs (i :: rest) s = runs rest t := by
  simp only [runs, h]

theorem whenRunning_of_opened {s : State} (h : s.bridge = .opened) (f : State → State) : whenRunning f s = f s :=
  if_pos h

theorem exec_floorClockTick_of_opened {s : State} (h : s.bridge = .opened) :
    exec .floorClockTick s = .next (s.withClock s.clock.tick) :=
  congrArg Host.Outcome.next (whenRunning_of_opened h _)

/-- A tick leaves the bridge open, so each of `n` ticks acts, and on the clock alone. -/
theorem runs_replicate_floorClockTick (n : Nat) {s : State} (h : s.bridge = .opened) :
    runs (List.replicate n .floorClockTick) s = .next (s.withClock (FloorClock.tick^[n] s.clock)) := by
  induction n generalizing s with
  | zero => rfl
  | succ n ih =>
    rw [List.replicate_succ, runs_cons_of_exec_eq_next (exec_floorClockTick_of_opened h),
      ih (by rwa [State.withClock_bridge]), State.withClock_clock, State.withClock_twice, Function.iterate_succ_apply]

/-! The closed form. -/

/-- The clock `n` milliseconds later: the seconds gain what phase and milliseconds together complete. -/
def FloorClock.after (c : FloorClock) (n : Nat) : FloorClock :=
  ⟨c.ms + BitVec.ofNat 32 n, c.sec + BitVec.ofNat 32 ((c.phase + n) / 1000), (c.phase + n) % 1000⟩

theorem FloorClock.after_zero {c : FloorClock} (h : c.phase < 1000) : c.after 0 = c := by
  simp [after, Nat.div_eq_of_lt h, Nat.mod_eq_of_lt h]

/-- One tick more is one millisecond more: it completes a second exactly when the phase stands at 999. -/
theorem FloorClock.tick_after (c : FloorClock) (n : Nat) : (c.after n).tick = c.after (n + 1) := by
  have ms : c.ms + BitVec.ofNat 32 n + 1 = c.ms + BitVec.ofNat 32 (n + 1) := by
    rw [BitVec.ofNat_add, BitVec.add_assoc]; rfl
  by_cases within : (c.phase + n) % 1000 + 1 < 1000
  · have div : (c.phase + (n + 1)) / 1000 = (c.phase + n) / 1000 := by omega
    have mod : (c.phase + (n + 1)) % 1000 = (c.phase + n) % 1000 + 1 := by omega
    simp only [tick, after, if_pos within, ms, div, mod]
  · have div : (c.phase + (n + 1)) / 1000 = (c.phase + n) / 1000 + 1 := by omega
    have mod : (c.phase + (n + 1)) % 1000 = 0 := by omega
    simp only [tick, after, if_neg within, ms, div, mod, BitVec.ofNat_add, BitVec.add_assoc]; rfl

theorem FloorClock.iterate_tick {c : FloorClock} (h : c.phase < 1000) (n : Nat) : tick^[n] c = c.after n := by
  induction n with
  | zero => exact (after_zero h).symm
  | succ n ih => rw [Function.iterate_succ_apply', ih, tick_after]

/-- From a whole second on the seconds count the milliseconds alone. -/
theorem FloorClock.after_of_phase_eq_zero {c : FloorClock} (h : c.phase = 0) (n : Nat) :
    c.after n = ⟨c.ms + BitVec.ofNat 32 n, c.sec + BitVec.ofNat 32 (n / 1000), n % 1000⟩ := by
  simp only [after, h, Nat.zero_add]

/-- Settles O4: the run of ticks iterates `FloorClock.tick`, whose closed form is read off at phase 0. -/
theorem ticksCountMillisecondsAndSeconds : Obligations.TicksCountMillisecondsAndSeconds := by
  intro n s opened whole
  have below : s.clock.phase < 1000 := by omega
  rw [runs_replicate_floorClockTick n opened, FloorClock.iterate_tick below, FloorClock.after_of_phase_eq_zero whole]
  rfl

end Sys2Proof.Machine
end

section
/-! PROOF. What each command may change: beside the full resets and the judgement of a site order, every command makes
moves within the components that `touches` names for it. -/

namespace Sys2Proof.Machine

/-! Effects that the laws of the blocks do not name. -/

theorem waitExpires_moves (p : Port) (bits : Nat) (s : State) : Moves [portField p, .alarm] s (waitExpires p bits s) := by
  unfold waitExpires
  exact Moves.ite (Moves.ite (((modPort_moves ..).mono (by simp)).trans (dropCounted_moves ..))
    ((modPort_moves ..).mono (by simp))) (Moves.refl ..)

theorem lengthTooLong_moves (p : Port) (s : State) : Moves [portField p, .alarm] s (lengthTooLong p s) :=
  Moves.ite (dropCounted_moves ..) (Moves.refl ..)

theorem abandonRx_moves (p : Port) (s : State) : Moves [portField p, .alarm] s (abandonRx p s) :=
  Moves.ite (dropCounted_moves ..) (Moves.refl ..)

theorem frameComplete_moves (p : Port) (s : State) : Moves [portField p, .alarm] s (frameComplete p s) :=
  Moves.ite (checkFrame_moves ..) (Moves.refl ..)

theorem characterRepeated_moves (p : Port) (char : Nat) (s : State) :
    Moves [portField p] s (characterRepeated p char s) := by
  unfold characterRepeated; split
  · exact modPort_moves ..
  · exact Moves.refl ..

/-- The end of a frame moves a Reset FULL on at Port S alone (R190). -/
theorem endSend_moves (p : Port) (count : Counters → Counters) (s : State) :
    Moves (touches (.frameSent p)) s (endSend p count s) := by
  cases p with
  | s => exact ((moves_withFullReset ..).mono (by decide)).trans ((modPort_moves .s ..).mono (by decide))
  | f => exact modPort_moves .f _ s

theorem frameSent_moves (p : Port) (s : State) : Moves (touches (.frameSent p)) s (frameSent p s) :=
  Moves.ite (endSend_moves ..) (Moves.refl ..)

theorem abandonTx_moves (p : Port) (s : State) : Moves (touches (.abandonedTx p)) s (abandonTx p s) := by
  unfold abandonTx; split
  · refine Moves.ite (((endSend_moves p ..).mono ?_).trans ((scoreUp_moves p _).mono ?_)) (Moves.refl ..) <;>
      cases p <;> decide
  · exact Moves.refl ..

theorem transmitTake_moves (p : Port) (s : State) : Moves (touches (.transmitTake p)) s (transmitTake p s) := by
  cases p with
  | s => exact Moves.ite (Moves.refl ..) (transmitS_moves s)
  | f => exact Moves.ite (Moves.refl ..) (transmitF_moves s)

theorem watchExpires_moves (n : NodeRef) (s : State) : Moves (touches (.watchExpiry n)) s (watchExpires n s) := by
  unfold watchExpires
  cases n with
  | cabinet c =>
    dsimp only; split
    · exact Moves.ite (cabinetFallsSilent_moves ..) (Moves.refl ..)
    · exact Moves.refl ..
  | string i =>
    dsimp only; split
    · exact Moves.ite (stringFallsSilent_moves ..) (Moves.refl ..)
    · exact Moves.refl ..

/-- A window's expiry acts by the origin of the key: the entry found has that key (R117). -/
theorem windowExpires_moves (w : WindowKind) {onPlan : Nat → State → State}
    (h : ∀ g u, Moves planFields u (onPlan g u)) (k : OrderKey) (s : State) :
    Moves (windowFields k.origin) s (windowExpires w onPlan k s) := by
  unfold windowExpires; split
  next e found =>
    have key : e.key = k := by simpa using List.find?_some found
    have origin : e.origin = k.origin := congrArg OrderKey.origin key
    refine Moves.ite ?_ (Moves.refl ..)
    rw [← origin]
    cases e.origin with
    | site => exact (removeOrder_moves k s).trans (moves_withTracker _ _ (.refl _))
    | plan => exact handPlan_moves e onPlan s h
  · exact Moves.refl ..

theorem badRequest_moves (s : State) : Moves (requestFields []) s (badRequest s) := by
  unfold badRequest; split
  · exact Moves.ite (((dropHead_moves .s s).mono (by decide)).trans ((enqueueReply_moves ..).mono (by decide)))
      (Moves.refl ..)
  · exact Moves.refl ..

/-! The checks that requests share leave the frame of what they guard. -/

theorem onRecord_moves {α : Type} {fs : List Field} (code index top : Nat) (rec? : State → Nat → Option α)
    {act : α → State → State × ManageReply} (h : ∀ r u, Moves fs u (act r u).1) (s : State) :
    Moves fs s (onRecord code index top rec? act s).1 := by
  refine refuseIf_moves _ _ _ s (refuseIf_moves _ _ _ s ?_)
  split
  · exact h ..
  · exact Moves.refl ..

theorem onPlan_moves {fs : List Field} (code id : Nat) {act : Nat → Plan → State → State × ManageReply}
    (h : ∀ g p u, Moves fs u (act g p u).1) (s : State) : Moves fs s (onPlan code id act s).1 := by
  refine refuseIf_moves _ _ _ s ?_
  split
  · exact Moves.refl ..
  · exact h ..

theorem onVisit_moves {fs : List Field} (code id : Nat) (allowed : VisitState → Bool)
    {act : Nat → Visit → State → State × ManageReply} (h : ∀ k v u, Moves fs u (act k v u).1) (s : State) :
    Moves fs s (onVisit code id allowed act s).1 := by
  refine refuseIf_moves _ _ _ s ?_
  split
  · exact Moves.refl ..
  · exact refuseIf_moves _ _ _ s (h ..)

theorem acceptChecked_moves (i : Nat) {act : StrRec → State → State} (h : ∀ r u, Moves [.strs, .alarm] u (act r u))
    (s : State) : Moves [.strs, .alarm] s (acceptChecked i act s).1 := by
  refine refuseIf_moves _ _ _ s ?_
  split
  · exact refuseIf_moves _ _ _ s ((h ..).trans ((clear_moves ..).mono (by decide)))
  · exact Moves.refl ..

theorem refuseOffender_moves {fs : List Field} (o : Option Nat) (c : Cause) {rest : State → State × ManageReply}
    {s : State} (h : Moves fs s (rest s).1) : Moves fs s (refuseOffender o c rest s).1 := by
  unfold refuseOffender; split
  · exact Moves.refl ..
  · exact h

/-! The effects of the requests. -/

theorem writeNodeEffect_moves (index : Nat) (r : NodeReq) (s : State) : Moves [.resp] s (writeNodeEffect index r s).1 :=
  refuseIf_moves _ _ _ s (refuseIf_moves _ _ _ s (setDir_moves ..))

theorem clearNodeEffect_moves (index : Nat) (s : State) : Moves [.resp] s (clearNodeEffect index s).1 :=
  refuseIf_moves _ _ _ s (refuseIf_moves _ _ _ s (setDir_moves ..))

theorem startEffect_moves (s : State) : Moves [.resp, .insp, .cabs, .strs, .alarm] s (startEffect s).1 := by
  refine refuseIf_moves _ _ _ s ?_
  split
  · exact Moves.refl ..
  · exact startSupervision_moves s

theorem stopEffect_moves (s : State) : Moves stopFields s (stopEffect s).1 :=
  refuseIf_moves _ _ _ s (refuseIf_moves _ _ _ s (stopSupervision_moves s))

theorem writeLimitEffect_moves (k : Nat) (r : LimitReq) (s : State) :
    Moves [.resp, .insp, .alarm] s (writeLimitEffect k r s).1 := by
  unfold writeLimitEffect; split
  · exact refuseIf_moves _ _ _ s (((releaseLimit_moves ..).mono (by decide)).trans ((storeLimit_moves ..).mono (by decide)))
  · exact Moves.refl ..

theorem writeClassEffect_moves (code level : Nat) (latching shelvable : FlagField) (s : State) :
    Moves [.alarm] s (writeClassEffect code level latching shelvable s).1 := by
  unfold writeClassEffect; split
  · exact moves_withAlarm _ _ (.relabel _ _ rfl rfl)
  · exact Moves.refl ..

theorem writeGateEffect_moves (kind cls : Nat) (s : State) : Moves [.gate] s (writeGateEffect kind cls s).1 := by
  unfold writeGateEffect; split
  · exact moves_withGate ..
  · exact Moves.refl ..

theorem writePortEffect_moves (port : Nat) (fs : List (PortField × Nat)) (s : State) :
    Moves [.portS, .portF] s (writePortEffect port fs s).1 := by
  unfold writePortEffect; split
  · exact Moves.refl ..
  next p _ =>
    have sub : [portField p] ⊆ [.portS, .portF] := by cases p <;> decide
    refine refuseIf_moves _ _ _ s ?_
    dsimp only
    exact (modPort_moves p _ s).mono sub

theorem commitEffect_moves (s : State) : Moves [.params] s (commitEffect s).1 := by
  unfold commitEffect; split
  · exact Moves.refl ..
  · exact moves_withParams ..

theorem readParamsEffect_moves (copy : Nat) (s : State) : Moves [] s (readParamsEffect copy s).1 := by
  unfold readParamsEffect; split <;> exact Moves.refl ..

theorem readBlocksEffect_moves (i first : Nat) (s : State) : Moves [] s (readBlocksEffect i first s).1 :=
  refuseIf_moves _ _ _ s (refuseIf_moves _ _ _ s (onRecord_moves _ _ _ _
    (fun _ u => refuseIf_moves _ _ _ u (Moves.refl ..)) s))

theorem readAgeingEffect_moves (i part first : Nat) (s : State) : Moves [] s (readAgeingEffect i part first s).1 :=
  refuseIf_moves _ _ _ s (refuseIf_moves _ _ _ s (onRecord_moves _ _ _ _
    (fun _ u => refuseIf_moves _ _ _ u (Moves.refl ..)) s))

theorem restoreEffect_moves (i : Nat) (h : RestoreReq) (s : State) :
    Moves [.strs, .alarm] s (restoreEffect i h s).1 := by
  refine refuseIf_moves _ _ _ s ?_
  dsimp only; split
  · exact Moves.refl ..
  · refine refuseIf_moves _ _ _ s ?_
    split
    · exact refuseIf_moves _ _ _ s (refuseIf_moves _ _ _ s (((modAge_moves ..).mono (by decide)).trans (recompute_moves ..)))
    · exact Moves.refl ..

theorem acceptNewEffect_moves (i choice : Nat) (s : State) : Moves [.strs, .alarm] s (acceptNewEffect i choice s).1 :=
  refuseIf_moves _ _ _ s (refuseIf_moves _ _ _ s (acceptChecked_moves i (fun _ _ => replaceString_moves ..) s))

theorem acceptSameEffect_moves (i : Nat) (s : State) : Moves [.strs, .alarm] s (acceptSameEffect i s).1 :=
  refuseIf_moves _ _ _ s (acceptChecked_moves i (fun _ _ => (setStr_moves ..).mono (by decide)) s)

/-- An entry rewritten in place keeps its code and subject (R47). -/
theorem AlarmUnit.modify_relabels (a : AlarmUnit) (code : Nat) (sub : Subject) (f : AlarmEntry → AlarmEntry)
    (h : ∀ e, (f e).code = e.code ∧ (f e).subject = e.subject) : AlarmActs a (a.modify code sub f) := by
  refine .relabel _ _ ?_ rfl
  rw [AlarmUnit.modify, List.map_map]
  refine List.map_congr_left fun e _ => ?_
  dsimp only [Function.comp_apply]
  split
  · rw [(h e).1, (h e).2]
  · rfl

theorem acknowledge_moves (code : Nat) (sub : Subject) (s : State) : Moves [.alarm] s (acknowledge code sub s).1 := by
  unfold acknowledge; split
  · exact Moves.refl ..
  · split
    · exact moves_withAlarm _ _ (AlarmUnit.modify_relabels _ _ _ _ (fun _ => ⟨rfl, rfl⟩))
    · exact Moves.refl ..
    · exact moves_withAlarm _ _ (.shrink _ _ List.filter_sublist (Nat.le_refl _))
    · exact Moves.refl ..

theorem acknowledgeEffect_moves (code kind index : Nat) (s : State) :
    Moves [.alarm] s (acknowledgeEffect code kind index s).1 := by
  refine refuseIf_moves _ _ _ s ?_
  split
  · exact acknowledge_moves ..
  · exact Moves.refl ..

theorem planRequestEffect_moves (kind g : Nat) (t : Option Nat) (s : State) :
    Moves [.seq] s (planRequestEffect kind g t s).1 := by
  refine refuseIf_moves _ _ _ s ?_
  dsimp only; split
  · exact Moves.refl ..
  · exact refuseIf_moves _ _ _ s (refuseIf_moves _ _ _ s (refuseIf_moves _ _ _ s (refuseIf_moves _ _ _ s
      (refuseIf_moves _ _ _ s (moves_withSeq ..)))))

theorem visitOpenEffect_moves (r : VisitReq) (s : State) : Moves [.visits, .alarm] s (visitOpenEffect r s).1 := by
  refine refuseIf_moves _ _ _ s ?_
  dsimp only; split
  · exact Moves.refl ..
  · refine refuseIf_moves _ _ _ s ?_
    split
    · exact Moves.refl ..
    · exact refuseIf_moves _ _ _ s (refuseOffender_moves _ _ (refuseOffender_moves _ _ (refuseOffender_moves _ _
        (openVisit_moves ..))))

theorem readVisitEffect_moves (id : Nat) (s : State) : Moves [] s (readVisitEffect id s).1 := by
  refine refuseIf_moves _ _ _ s ?_
  split
  · exact Moves.refl ..
  · split <;> exact Moves.refl ..

theorem clearCounts_moves (s : State) : Moves [.portS, .portF, .tracker] s (clearCounts s) := by
  unfold clearCounts
  exact ((modPort_moves .s _ s).mono (by decide)).trans (((modPort_moves .f _ _).mono (by decide)).trans
    ((moves_withTracker _ _ (by exact .refl _)).mono (gs := [.portS, .portF, .tracker]) (by decide)))

/-! The commands. -/

/-- A request's command makes the moves of its effect (R182). -/
theorem exec_request_moves {code : Nat} {form : FieldForm} {effect : State → State × ManageReply} {s t : State}
    {fs gs : List Field} (h : Host.Outcome.next (φ := Fault) (ρ := Refusal) (request code form effect s) = .next t)
    (effectMoves : ∀ u, Moves fs u (effect u).1) (sub : requestFields fs ⊆ gs) : Moves gs s t :=
  Host.Outcome.next.inj h ▸ (request_moves code form effect effectMoves s).mono sub

/-- A command that acts while the loop bridge is open makes the moves of its act (R175). -/
theorem exec_running_moves {f : State → State} {s t : State} {fs gs : List Field}
    (h : Host.Outcome.next (φ := Fault) (ρ := Refusal) (whenRunning f s) = .next t) (acts : Moves fs s (f s))
    (sub : fs ⊆ gs) : Moves gs s t :=
  Host.Outcome.next.inj h ▸ (whenRunning_moves acts).mono sub

theorem exec_visitHandOff_moves {s t : State} (h : exec .visitHandOff s = .next t) :
    Moves (touches .visitHandOff) s t := by
  refine exec_running_moves h ?_ (List.Subset.refl _)
  dsimp only; split
  · exact ((moves_withHand ..).mono (by decide)).trans ((takeVisitHand_moves ..).mono (by decide))
  · exact Moves.refl ..

theorem exec_ageingUpdate_moves {s t : State} (h : exec .ageingUpdate s = .next t) :
    Moves (touches .ageingUpdate) s t := by
  refine exec_running_moves h ?_ (List.Subset.refl _)
  dsimp only; split
  · exact ((moves_withHand ..).mono (by decide)).trans ((takeAgeingHand_moves ..).mono (by decide))
  · exact Moves.refl ..

theorem exec_rampStepJudgement_moves {s t : State} (h : exec .rampStepJudgement s = .next t) :
    Moves (touches .rampStepJudgement) s t := by
  refine exec_running_moves h ?_ (List.Subset.refl _)
  dsimp only; split
  · exact ((moves_withHand ..).mono (by decide)).trans ((takeRampHand_moves ..).mono (by decide))
  · exact Moves.refl ..

/-- Every command but the full resets and the judgement of a site order makes moves within its components. -/
theorem exec_moves {i : Instr} {s t : State} (h : exec i s = .next t) (noReset : isFullReset i = false)
    (noOrder : i ≠ .siteOrderJudgement) : Moves (touches i) s t := by
  have all : ∀ fs : List Field, fs ⊆ fs := List.Subset.refl
  cases i with
  | powerOn | resetLineReleased | fullResetTaken => cases noReset
  | siteOrderJudgement => exact absurd rfl noOrder
  | resetLineAsserted =>
    exact Host.Outcome.next.inj h ▸ ((moves_withResetLine ..).mono (by decide)).trans
      ((moves_withBridge ..).mono (by decide))
  | idleDetected p bits => exact exec_running_moves h (modPort_moves p _ s) (all _)
  | frameComplete p => exact exec_running_moves h (frameComplete_moves p s) (all _)
  | payloadLengthTooLong p => exact exec_running_moves h (lengthTooLong_moves p s) (all _)
  | characterWaitExpiry p bits => exact exec_running_moves h (waitExpires_moves p bits s) (all _)
  | abandonedRx p => exact exec_running_moves h (abandonRx_moves p s) (all _)
  | reportInspection =>
    exact exec_running_moves h (takeHead_moves (fs := touches .reportInspection) .f _ _ (by decide)
      (fun f u => ((inspect_moves f u).mono (by decide)).trans ((enqueueForward_moves ..).mono (by decide))) s) (all _)
  | visitHandOff => exact exec_visitHandOff_moves h
  | ageingUpdate => exact exec_ageingUpdate_moves h
  | rampStepJudgement => exact exec_rampStepJudgement_moves h
  | replyMatch =>
    exact exec_running_moves h (takeHead_moves (fs := touches .replyMatch) .f _ _ (by decide)
      (fun f u => (trackReply_moves f u).mono (by decide)) s) (all _)
  | frameForward p =>
    exact exec_running_moves h (takeHead_moves (fs := [.portS, .portF]) p _ _ (by cases p <;> decide)
      (fun f u => (enqueueForward_moves ..).mono (by cases p <;> decide)) s) (all _)
  | transmitTake p => exact exec_running_moves h (transmitTake_moves p s) (all _)
  | frameSent p => exact exec_running_moves h (frameSent_moves p s) (all _)
  | abandonedTx p => exact exec_running_moves h (abandonTx_moves p s) (all _)
  | watchExpiry n => exact exec_running_moves h (watchExpires_moves n s) (all _)
  | quietTimerExpiry => exact exec_running_moves h (quietExpires_moves s) (all _)
  | replyWindowExpiry k =>
    exact exec_running_moves h (windowExpires_moves .reply planReplyExpiry_moves k s) (all _)
  | completionWindowExpiry k =>
    exact exec_running_moves h (windowExpires_moves .completion planCompletionExpiry_moves k s) (all _)
  | settleExpiry g => exact exec_running_moves h (settleExpires_moves g s) (all _)
  | rampIntervalExpiry g => exact exec_running_moves h (intervalExpires_moves g s) (all _)
  | matchWindowExpiry g => exact exec_running_moves h (matchExpires_moves g s) (all _)
  | stepTrigger g => exact exec_running_moves h (trigger_moves g s) (all _)
  | recoveryTimerExpiry i => exact exec_running_moves h (recoveryExpires_moves i s) (all _)
  | prepareTimerExpiry id => exact exec_running_moves h (prepareExpires_moves id s) (all _)
  | durationTimerExpiry id => exact exec_running_moves h (durationExpires_moves id s) (all _)
  | closeTimerExpiry id => exact exec_running_moves h (closeExpires_moves id s) (all _)
  | manageBadRequest => exact exec_running_moves h (badRequest_moves s) (all _)
  | readIdentity => exact exec_request_moves h (fun u => Moves.refl [] u) (all _)
  | writeNodeEntry index r => exact exec_request_moves h (writeNodeEffect_moves index r) (all _)
  | clearNodeEntry index => exact exec_request_moves h (clearNodeEffect_moves index) (all _)
  | readNodeEntry index =>
    exact exec_request_moves h (fun u => refuseIf_moves _ _ _ u (Moves.refl [] u)) (all _)
  | startSupervision => exact exec_request_moves h startEffect_moves (all _)
  | stopSupervision => exact exec_request_moves h stopEffect_moves (all _)
  | writeGroupParameters g fs =>
    exact exec_request_moves h (fun u => refuseIf_moves _ _ _ u (moves_withSeq ..)) (all _)
  | writeLimitEntry k r => exact exec_request_moves h (writeLimitEffect_moves k r) (all _)
  | writeAlarmClass code level la sh => exact exec_request_moves h (writeClassEffect_moves code level la sh) (all _)
  | writeGateEntry kind cls => exact exec_request_moves h (writeGateEffect_moves kind cls) (all _)
  | writePortSettings port fs => exact exec_request_moves h (writePortEffect_moves port fs) (by simp [touches, requestFields])
  | stageAgeingParameters fs =>
    exact exec_request_moves h (fun u => refuseIf_moves _ _ _ u (moves_withParams ..)) (all _)
  | commitAgeingParameters => exact exec_request_moves h commitEffect_moves (all _)
  | readAgeingParameters copy => exact exec_request_moves h (readParamsEffect_moves copy) (all _)
  | readCabinetRecord c =>
    exact exec_request_moves h (onRecord_moves 15 c 24 cab? (fun _ u => Moves.refl [] u)) (all _)
  | readStringRecord i =>
    exact exec_request_moves h (onRecord_moves 16 i 32 str? (fun _ u => Moves.refl [] u)) (all _)
  | readStringBlocks i first => exact exec_request_moves h (readBlocksEffect_moves i first) (all _)
  | readStringAgeing i part first => exact exec_request_moves h (readAgeingEffect_moves i part first) (all _)
  | stringRestore i r => exact exec_request_moves h (restoreEffect_moves i r) (all _)
  | acceptReplacementNew i choice =>
    have e := Host.Outcome.next.inj h
    split at e
    · exact e ▸ Moves.refl ..
    · exact e ▸ request_moves _ _ _ (acceptNewEffect_moves i choice) s
  | acceptReplacementSame i => exact exec_request_moves h (acceptSameEffect_moves i) (all _)
  | readAlarmList start =>
    exact exec_request_moves h (fun u => moves_withAlarm u _ (.relabel _ _ rfl rfl)) (all _)
  | acknowledgeAlarm code kind index => exact exec_request_moves h (acknowledgeEffect_moves code kind index) (all _)
  | planRequest kind g target => exact exec_request_moves h (planRequestEffect_moves kind g target) (all _)
  | planResume id =>
    exact exec_request_moves h (onPlan_moves 24 id (fun g p u => refuseIf_moves _ _ _ u (resumePlan_moves g p u))) (all _)
  | planAbandon id => exact exec_request_moves h (onPlan_moves 25 id abandonPlan_moves) (all _)
  | readPlan g =>
    exact exec_request_moves h (fun u => refuseIf_moves _ _ _ u (refuseIf_moves _ _ _ u (Moves.refl [] u))) (all _)
  | visitOpen r => exact exec_request_moves h (visitOpenEffect_moves r) (all _)
  | visitClose id => exact exec_request_moves h (onVisit_moves 28 id _ closeVisit_moves) (all _)
  | visitForceClose id => exact exec_request_moves h (onVisit_moves 29 id _ forceCloseVisit_moves) (all _)
  | visitCancel id =>
    exact exec_request_moves h (onVisit_moves 30 id _ (fun k v u => leaveRegister_moves k v .cancelled false u)) (all _)
  | readVisit id => exact exec_request_moves h (readVisitEffect_moves id) (all _)
  | readPortCounters clear =>
    exact exec_request_moves h (fun u => Moves.ite (clearCounts_moves u) (Moves.refl ..))
      (by simp [touches, requestFields])
  | resetTraffic kind =>
    have e := Host.Outcome.next.inj h
    split at e
    · exact e ▸ Moves.refl ..
    · exact e ▸ (request_moves _ _ _ (fun u => refuseIf_moves _ _ _ u (trafficReset_moves u)) s).mono
        (by simp [touches, requestFields, trafficFields])
  | resetFull => exact exec_request_moves h (fun u => moves_withFullReset ..) (all _)
  | floorClockTick => exact exec_running_moves h (moves_withClock ..) (all _)
  | characterReceived p data parity stop => exact exec_running_moves h (modPort_moves p _ s) (all _)
  | characterRepeated p char => exact exec_running_moves h (characterRepeated_moves p char s) (all _)

end Sys2Proof.Machine
end

section
/-! PROOF. While SUPERVISING the directory and the shape of the two tables stand (R4, R7): every command but the full resets
and four requests keeps them in every state, and those requests are refused or are Stop Supervision. -/

namespace Sys2Proof.Machine

/-- The fields of a cabinet record that it copies from its directory entry (R7). -/
def CabRec.shape (r : CabRec) : Nat × Nat × Bool × Nat × Nat := (r.addr, r.group, r.lead, r.rating, r.restoreLimit)

/-- The mode, the directory and the shape of the two tables are the same in two states. -/
structure SameFloor (s t : State) : Prop where
  mode : t.resp.mode = s.resp.mode
  dir : t.resp.dir = s.resp.dir
  strs : ∀ k, (str? t k).isSome = (str? s k).isSome
  cabs : ∀ c, (cab? t c).map CabRec.shape = (cab? s c).map CabRec.shape

theorem SameFloor.refl (s : State) : SameFloor s s := ⟨rfl, rfl, fun _ => rfl, fun _ => rfl⟩

theorem SameFloor.trans {s t u : State} (h : SameFloor s t) (k : SameFloor t u) : SameFloor s u :=
  ⟨k.mode.trans h.mode, k.dir.trans h.dir, fun i => (k.strs i).trans (h.strs i), fun c => (k.cabs c).trans (h.cabs c)⟩

theorem SameFloor.ite {s t u : State} {c : Prop} [Decidable c] (h : SameFloor s t) (k : SameFloor s u) :
    SameFloor s (if c then t else u) := by
  split <;> assumption

theorem Only.sameFloor {fs : List Field} {s t : State} (h : Only fs s t) (resp : .resp ∉ fs) (cabs : .cabs ∉ fs)
    (strs : .strs ∉ fs) : SameFloor s t := by
  have hr : t.resp = s.resp := h.same .resp resp
  have hc : t.cabs = s.cabs := h.same .cabs cabs
  have hs : t.strs = s.strs := h.same .strs strs
  exact ⟨by rw [hr], by rw [hr], fun k => by rw [str?, str?, hs], fun c => by rw [cab?, cab?, hc]⟩

/-- Moves that leave the Responder and the two tables alone. -/
theorem Moves.sameFloor {fs : List Field} {s t : State} (h : Moves fs s t) (resp : .resp ∉ fs) (cabs : .cabs ∉ fs)
    (strs : .strs ∉ fs) : SameFloor s t := h.only.sameFloor resp cabs strs

/-- An act at the Alarm Unit. -/
theorem Moves.sameFloor_of_alarm {s t : State} (h : Moves [.alarm] s t) : SameFloor s t :=
  h.sameFloor (by decide) (by decide) (by decide)

/-! Writes of the tables. -/

theorem setCab_sameFloor {s : State} {c : Nat} {r : CabRec} (h : (cab? s c).map CabRec.shape = some r.shape) :
    SameFloor s (setCab s c r) := by
  refine ⟨rfl, rfl, fun _ => rfl, fun j => ?_⟩
  rw [cab?_setCab]
  split
  next at_c => rw [← at_c.1, h]; rfl
  · rfl

theorem modCab_sameFloor (c : Nat) {f : CabRec → CabRec} (h : ∀ r, (f r).shape = r.shape) (s : State) :
    SameFloor s (modCab c f s) := by
  unfold modCab; split
  next r found => exact setCab_sameFloor (by rw [found, Option.map_some, h])
  · exact SameFloor.refl s

theorem setStr_sameFloor {s : State} {i : Nat} {q : StrRec} (r : StrRec) (h : str? s i = some q) :
    SameFloor s (setStr s i r) := by
  refine ⟨rfl, rfl, fun j => ?_, fun _ => rfl⟩
  rw [str?_setStr]
  split
  next at_i => rw [← at_i.1, h]; rfl
  · rfl

theorem modStr_sameFloor (i : Nat) (f : StrRec → StrRec) (s : State) : SameFloor s (modStr i f s) := by
  unfold modStr; split
  next r found => exact setStr_sameFloor _ found
  · exact SameFloor.refl s

/-! The Ageing Engine. -/

theorem recompute_sameFloor (p : AgeingParams) (i : Nat) (s : State) : SameFloor s (recompute p i s) := by
  unfold recompute; split
  next r found =>
    have acts := gradeActs_moves i r.ageing.grade (withLife p r.ageing) s
    have same : str? (gradeActs i r.ageing.grade (withLife p r.ageing) s) i = some r := by
      rw [str?, acts.only.same .strs (by decide)]; exact found
    exact acts.sameFloor_of_alarm.trans ((setStr_sameFloor _ same).trans (judgeOwnerReserve_moves i _).sameFloor_of_alarm)
  · exact SameFloor.refl s

theorem replaceString_sameFloor (i : Nat) (serial : Word32) (s : State) : SameFloor s (replaceString i serial s) :=
  (modStr_sameFloor ..).trans ((queueNotice_moves ..).sameFloor_of_alarm.trans (recompute_sameFloor ..))

theorem swapDetection_sameFloor (i : Nat) (serial : Word32) (s : State) : SameFloor s (swapDetection i serial s) := by
  unfold swapDetection; split
  · exact SameFloor.refl s
  next r found =>
    have pends : ∀ (f : Ageing → Ageing) (x y : Word32), SameFloor s (swapActs i x y (modAge i f s)) := fun f x y =>
      (modStr_sameFloor ..).trans (swapActs_moves ..).sameFloor_of_alarm
    refine .ite (.refl s) (.ite (.ite (.refl s) (pends ..)) (.ite (setStr_sameFloor _ found) (.ite (.refl s) ?_)))
    exact .ite (replaceString_sameFloor ..) (pends ..)

theorem ageingStep_sameFloor (h : AgeingHand) (s : State) : SameFloor s (ageingStep h s) := by
  unfold ageingStep; split
  next r n found _ =>
    exact (setStr_sameFloor _ found).trans ((raiseOrClear_moves ..).sameFloor_of_alarm.trans (recompute_sameFloor ..))
  · exact SameFloor.refl s

theorem takeAgeingHand_sameFloor (h : AgeingHand) (s : State) : SameFloor s (takeAgeingHand h s) :=
  (swapDetection_sameFloor ..).trans (.ite (.refl _) (ageingStep_sameFloor ..))

theorem recoveryExpires_sameFloor (i : Nat) (s : State) : SameFloor s (recoveryExpires i s) := by
  unfold recoveryExpires; split
  · exact .ite ((modStr_sameFloor ..).trans (recompute_sameFloor ..)) (.refl s)
  · exact SameFloor.refl s

/-! The Report Inspector. -/

theorem watchExpires_sameFloor (n : NodeRef) (s : State) : SameFloor s (watchExpires n s) := by
  cases n with
  | cabinet c =>
    unfold watchExpires; dsimp only; split
    next r found =>
      have silent : SameFloor s (setCab s c { r with liveness := .silent, watch := none }) :=
        setCab_sameFloor (by rw [found]; rfl)
      exact .ite (silent.trans (raise_moves ..).sameFloor_of_alarm) (.refl s)
    · exact SameFloor.refl s
  | string i =>
    unfold watchExpires; dsimp only; split
    next r found => exact .ite ((setStr_sameFloor _ found).trans (raise_moves ..).sameFloor_of_alarm) (.refl s)
    · exact SameFloor.refl s

/-- The mismatch count is stored in the record that was judged (R40). -/
theorem judgeMismatch_sameFloor {c : Nat} {r : CabRec} {s : State} (h : (cab? s c).map CabRec.shape = some r.shape) :
    SameFloor s (judgeMismatch c r s) := by
  have stores : ∀ n, SameFloor s (setCab s c { r with mismatch := n }) := fun n => setCab_sameFloor h
  unfold judgeMismatch
  exact (stores _).trans (.ite (.refl _) (.ite (clear_moves ..).sameFloor_of_alarm
    (.ite (raise_moves ..).sameFloor_of_alarm (.refl _))))

theorem acceptCabinet_sameFloor {c : Nat} {r : CabRec} {s : State} (e : DirEntry) (p : CabReport)
    (found : cab? s c = some r) : SameFloor s (acceptCabinet e c r p s) := by
  let a := r.accept e s.now p
  let judged := judgeBypass c a (judgeOnBattery c a (judgeFault c a (judgeLimits (.cabinet c) a.measured
    (clearIfSilent r.liveness codeCabinetSilent (.cabinet c) (setCab s c a)))))
  have stored : SameFloor s (setCab s c a) := setCab_sameFloor (by rw [found]; rfl)
  have acts : SameFloor (setCab s c a) judged :=
    (clearIfSilent_moves ..).sameFloor_of_alarm.trans
      (((judgeLimits_moves ..).sameFloor (by decide) (by decide) (by decide)).trans
        ((judgeFault_moves ..).sameFloor_of_alarm.trans
          ((judgeOnBattery_moves ..).sameFloor_of_alarm.trans (judgeBypass_moves ..).sameFloor_of_alarm)))
  have toJudged : SameFloor s judged := stored.trans acts
  have record : (cab? judged c).map CabRec.shape = some a.shape := by rw [toJudged.cabs, found]; rfl
  have ended : ∀ x : CabRec, x.endTest.shape = x.shape := fun x => by unfold CabRec.endTest; split <;> rfl
  exact toJudged.trans ((judgeMismatch_sameFloor record).trans ((modCab_sameFloor c ended _).trans
    ((moves_withHand ..).sameFloor (by decide) (by decide) (by decide))))

theorem acceptString_sameFloor {i : Nat} {r : StrRec} {s : State} (e : DirEntry) (p : StrReport)
    (found : str? s i = some r) : SameFloor s (acceptString e i r p s) :=
  (setStr_sameFloor _ found).trans ((clearIfSilent_moves ..).sameFloor_of_alarm.trans
    ((clear_moves ..).sameFloor_of_alarm.trans (((judgeLimits_moves ..).sameFloor (by decide) (by decide) (by decide)).trans
      ((moves_withHand ..).sameFloor (by decide) (by decide) (by decide)))))

theorem inspect_sameFloor (f : Frame) (s : State) : SameFloor s (inspect f s) := by
  have unexpected : SameFloor s (unexpectedNode f.src s) :=
    (unexpectedNode_moves ..).sameFloor (by decide) (by decide) (by decide)
  unfold inspect; split
  · exact unexpected
  · split
    · unfold inspectCabinet; split
      · split
        next found => exact acceptCabinet_sameFloor _ _ found
        · exact .refl s
      · exact unexpected
    · unfold inspectString; split
      · exact (raise_moves ..).sameFloor_of_alarm
      · refine .ite ?_ (raise_moves ..).sameFloor_of_alarm
        split
        next found => exact acceptString_sameFloor _ _ found
        · exact .refl s

/-! The Order Tracker. -/

/-- A walk over the members of a group writes records that differ from those listed in their expected mode alone (R12). -/
theorem walkMembers_sameFloor (g : Nat) (p : CabRec → Bool) (m : Mode) (s : State) : SameFloor s (walkMembers g p m s) := by
  have from_here : ∀ (l : List (Nat × CabRec)) (u : State), SameFloor s u → (∀ x ∈ l, cab? s x.1 = some x.2) →
      SameFloor s (l.foldl (fun u x => if p x.2 then setCab u x.1 { x.2 with expected := some m } else u) u) := by
    intro l
    induction l with
    | nil => exact fun u h _ => h
    | cons x l ih =>
      intro u h members
      have record : (cab? u x.1).map CabRec.shape = some x.2.shape := by
        rw [h.cabs, members x List.mem_cons_self]; rfl
      exact ih _ (h.trans (.ite (setCab_sameFloor record) (.refl u))) (fun y hy => members y (List.mem_cons_of_mem x hy))
  exact from_here _ s (.refl s) (fun x hx => (mem_memberRecs hx).1)

theorem doneUpdate_sameFloor {t : Nat} {r : CabRec} {s : State} (k : OrderKind) (v : Option Nat)
    (found : cab? s t = some r) : SameFloor s (doneUpdate k v t r s) := by
  have stores : ∀ q : CabRec, q.shape = r.shape → SameFloor s (setCab s t q) := fun q same =>
    setCab_sameFloor (by rw [found, same]; rfl)
  unfold doneUpdate; split
  · exact walkMembers_sameFloor ..
  · exact walkMembers_sameFloor ..
  · exact stores _ rfl
  · exact stores _ rfl
  · exact stores _ rfl
  · split
    · exact stores _ rfl
    · exact .refl s

theorem doneEntry_sameFloor (e : OrderEntry) (s : State) : SameFloor s (doneEntry e s) := by
  unfold doneEntry; split
  · split
    next found => exact doneUpdate_sameFloor _ _ found
    · exact .refl s
  · exact .refl s

/-- What a plan is handed changes nothing of the tables (R119). -/
theorem handPlan_sameFloor (e : OrderEntry) (f : Nat → State → State) (s : State)
    (h : ∀ g u, Moves planFields u (f g u)) : SameFloor s (handPlan e f s) :=
  (handPlan_moves e f s h).sameFloor (by decide) (by decide) (by decide)

theorem removeOrder_sameFloor (k : OrderKey) (s : State) : SameFloor s (removeOrder k s) :=
  (removeOrder_moves k s).sameFloor (by decide) (by decide) (by decide)

theorem replyOnEntry_sameFloor (e : OrderEntry) (k : ReplyKind) (reason : Nat) (s : State) :
    SameFloor s (replyOnEntry e k reason s) := by
  unfold replyOnEntry; split
  · exact .ite ((modOrder_moves _ _ (by intro; rfl) s).sameFloor (by decide) (by decide) (by decide)) (.refl s)
  · exact (doneEntry_sameFloor ..).trans ((removeOrder_sameFloor ..).trans (handPlan_sameFloor _ _ _ planDone_moves))
  · exact (removeOrder_sameFloor ..).trans (handPlan_sameFloor _ _ _ (fun g => planRejected_moves g reason))

theorem replyOnLapsed_sameFloor (e : OrderEntry) (k : ReplyKind) (s : State) : SameFloor s (replyOnLapsed e k s) := by
  unfold replyOnLapsed; split
  · exact (doneEntry_sameFloor ..).trans (handPlan_sameFloor _ _ _ planLateDone_moves)
  · exact .refl s

theorem matchReply_sameFloor {o : Origin} {f : Frame} {s t : State} (h : matchReply o f s = some t) : SameFloor s t := by
  unfold matchReply at h
  split at h
  · cases h
  · split at h
    · cases h
    · cases h
      exact .ite (replyOnLapsed_sameFloor ..) (replyOnEntry_sameFloor ..)

theorem matchReply_getD_sameFloor (o : Origin) (f : Frame) {s u : State} (h : SameFloor s u) :
    SameFloor s ((matchReply o f s).getD u) := by
  cases found : matchReply o f s with
  | none => exact h
  | some t => exact matchReply_sameFloor found

theorem trackReply_sameFloor (f : Frame) (s : State) : SameFloor s (trackReply f s) := by
  have forwards : ∀ u, SameFloor u (enqueueForward .s f u) := fun u =>
    (enqueueForward_moves .s f u).sameFloor (by decide) (by decide) (by decide)
  have counts : SameFloor s (countUnmatched s) := ⟨rfl, rfl, fun _ => rfl, fun _ => rfl⟩
  exact .ite (matchReply_getD_sameFloor _ _ counts)
    (.ite ((matchReply_getD_sameFloor _ _ (.refl s)).trans (forwards _)) (forwards s))

/-! Requests. -/

/-- What can come of a request: nothing, or its answer behind its effect on the state without the head frame (R182). -/
theorem request_cases (code : Nat) (form : FieldForm) (effect : State → State × ManageReply) (s : State) :
    request code form effect s = s ∨ ∃ f, request code form effect s =
      answered f (effect (dropHead .s s)).2 (effect (dropHead .s s)).1 := by
  unfold request whenRunning
  split
  · dsimp only; split
    next f _ =>
      split
      · exact .inr ⟨f, rfl⟩
      · exact .inl rfl
    · exact .inl rfl
  · exact .inl rfl

theorem answered_sameFloor (f : Frame) (r : ManageReply) (t : State) : SameFloor t (answered f r t) :=
  ⟨rfl, rfl, fun _ => rfl, fun _ => rfl⟩

theorem dropHead_sameFloor (p : Port) (s : State) : SameFloor s (dropHead p s) := by
  cases p <;> exact ⟨rfl, rfl, fun _ => rfl, fun _ => rfl⟩

/-- A request keeps what its effect keeps on the state that the head frame has left. -/
theorem request_sameFloor {code : Nat} {form : FieldForm} {effect : State → State × ManageReply} {s : State}
    (h : SameFloor (dropHead .s s) (effect (dropHead .s s)).1) : SameFloor s (request code form effect s) := by
  rcases request_cases code form effect s with idle | ⟨f, taken⟩
  · rw [idle]; exact .refl s
  · rw [taken]; exact (dropHead_sameFloor .s s).trans (h.trans (answered_sameFloor ..))

theorem refuseIf_sameFloor (b : Bool) (r : ManageReply) {rest : State → State × ManageReply} {s : State}
    (h : SameFloor s (rest s).1) : SameFloor s (refuseIf b r rest s).1 := by
  unfold refuseIf; split
  · exact .refl s
  · exact h

theorem restoreEffect_sameFloor (i : Nat) (h : RestoreReq) (s : State) : SameFloor s (restoreEffect i h s).1 := by
  refine refuseIf_sameFloor _ _ ?_
  split
  · exact .refl s
  · refine refuseIf_sameFloor _ _ ?_
    dsimp only; split
    · exact refuseIf_sameFloor _ _ (refuseIf_sameFloor _ _ ((modStr_sameFloor ..).trans (recompute_sameFloor ..)))
    · exact .refl s

theorem acceptChecked_sameFloor {i : Nat} {act : StrRec → State → State} {s : State}
    (h : ∀ r, str? s i = some r → SameFloor s (act r s)) : SameFloor s (acceptChecked i act s).1 := by
  refine refuseIf_sameFloor _ _ ?_
  split
  next r found => exact refuseIf_sameFloor _ _ ((h r found).trans (clear_moves ..).sameFloor_of_alarm)
  · exact .refl s

theorem acceptNewEffect_sameFloor (i choice : Nat) (s : State) : SameFloor s (acceptNewEffect i choice s).1 :=
  refuseIf_sameFloor _ _ (refuseIf_sameFloor _ _ (acceptChecked_sameFloor fun _ _ => replaceString_sameFloor ..))

theorem acceptSameEffect_sameFloor (i : Nat) (s : State) : SameFloor s (acceptSameEffect i s).1 :=
  refuseIf_sameFloor _ _ (acceptChecked_sameFloor fun _ found => setStr_sameFloor _ found)

theorem writeLimitEffect_sameFloor (k : Nat) (r : LimitReq) (s : State) : SameFloor s (writeLimitEffect k r s).1 := by
  have stores : ∀ (e : LimitEntry) (u : State), SameFloor u (storeLimit k e u) := fun _ _ =>
    ⟨rfl, rfl, fun _ => rfl, fun _ => rfl⟩
  unfold writeLimitEffect; split
  · exact refuseIf_sameFloor _ _ (((releaseLimit_moves ..).sameFloor (by decide) (by decide) (by decide)).trans (stores ..))
  · exact .refl s

/-! The commands. -/

/-- The requests that write the directory, the mode or the tables (R3, R4, R18, R19). -/
def writesFloor : Instr → Bool
  | .writeNodeEntry _ _ => true
  | .clearNodeEntry _ => true
  | .startSupervision => true
  | .stopSupervision => true
  | _ => false

/-- A head frame that a block takes leaves the floor as the block's act does. -/
theorem takeHead_sameFloor (p : Port) (ready : State → Frame → Bool) {act : Frame → State → State}
    (h : ∀ f u, SameFloor u (act f u)) (s : State) : SameFloor s (takeHead p ready act s) := by
  unfold takeHead; split
  · exact .ite ((dropHead_sameFloor p s).trans (h ..)) (.refl s)
  · exact .refl s

theorem exec_running_sameFloor {f : State → State} {s t : State}
    (h : Host.Outcome.next (φ := Fault) (ρ := Refusal) (whenRunning f s) = .next t) (acts : SameFloor s (f s)) :
    SameFloor s t :=
  Host.Outcome.next.inj h ▸ SameFloor.ite acts (.refl s)

theorem exec_request_sameFloor {code : Nat} {form : FieldForm} {effect : State → State × ManageReply} {s t : State}
    (h : Host.Outcome.next (φ := Fault) (ρ := Refusal) (request code form effect s) = .next t)
    (effectKeeps : ∀ u, SameFloor u (effect u).1) : SameFloor s t :=
  Host.Outcome.next.inj h ▸ request_sameFloor (effectKeeps _)

theorem portField_ne_resp (p : Port) : Field.resp ≠ portField p := by cases p <;> decide
theorem portField_ne_cabs (p : Port) : Field.cabs ≠ portField p := by cases p <;> decide
theorem portField_ne_strs (p : Port) : Field.strs ≠ portField p := by cases p <;> decide

/-- Beside the full resets and the requests that write the floor, every command keeps the mode, the directory and the shape
of the tables, in either mode. -/
theorem exec_sameFloor {i : Instr} {s t : State} (h : exec i s = .next t) (noReset : isFullReset i = false)
    (noWrite : writesFloor i = false) : SameFloor s t := by
  cases i with
  | powerOn | resetLineReleased | fullResetTaken => cases noReset
  | writeNodeEntry | clearNodeEntry | startSupervision | stopSupervision => cases noWrite
  | siteOrderJudgement =>
    exact exec_running_sameFloor h (takeHead_sameFloor _ _
      (fun f u => (judgeOrder_only f u).sameFloor (by decide) (by decide) (by decide)) s)
  | reportInspection =>
    exact exec_running_sameFloor h (takeHead_sameFloor _ _ (fun f u => (inspect_sameFloor f u).trans
      ((enqueueForward_moves .s f _).sameFloor (by decide) (by decide) (by decide))) s)
  | replyMatch => exact exec_running_sameFloor h (takeHead_sameFloor _ _ trackReply_sameFloor s)
  | ageingUpdate =>
    refine exec_running_sameFloor h ?_
    dsimp only; split
    · exact ((moves_withHand ..).sameFloor (by decide) (by decide) (by decide)).trans (takeAgeingHand_sameFloor ..)
    · exact .refl s
  | watchExpiry n => exact exec_running_sameFloor h (watchExpires_sameFloor n s)
  | recoveryTimerExpiry k => exact exec_running_sameFloor h (recoveryExpires_sameFloor k s)
  | writeLimitEntry k r => exact exec_request_sameFloor h (writeLimitEffect_sameFloor k r)
  | stringRestore k r => exact exec_request_sameFloor h (restoreEffect_sameFloor k r)
  | acceptReplacementNew k choice =>
    have e := Host.Outcome.next.inj h
    split at e
    · exact e ▸ .refl s
    · exact e ▸ request_sameFloor (acceptNewEffect_sameFloor k choice _)
  | acceptReplacementSame k => exact exec_request_sameFloor h (acceptSameEffect_sameFloor k)
  | replyWindowExpiry k | completionWindowExpiry k =>
    refine (exec_moves h rfl (by nofun)).sameFloor ?_ ?_ ?_ <;> dsimp only [touches] <;>
      cases k.origin <;> decide
  | transmitTake p | frameSent p | abandonedTx p =>
    refine (exec_moves h rfl (by nofun)).sameFloor ?_ ?_ ?_ <;> cases p <;> decide
  | _ =>
    refine (exec_moves h rfl (by nofun)).sameFloor ?_ ?_ ?_ <;>
      simp [touches, requestFields, planFields, portField_ne_resp, portField_ne_cabs, portField_ne_strs]

/-- Write and Clear Node Entry and Start Supervision begin with the mode: SUPERVISING refuses them, so that nothing of the
floor moves (R3, R4, R17). -/
theorem exec_sameFloor_of_supervising {i : Instr} {s t : State} (sup : s.resp.mode = .supervising)
    (h : exec i s = .next t) (noReset : isFullReset i = false) (noStop : i ≠ .stopSupervision) : SameFloor s t := by
  have mode : (dropHead .s s).supervising = true := by simp [State.supervising, sup]
  have refused : ∀ (c : Nat) (rest : State → State × ManageReply),
      SameFloor (dropHead .s s) (refuseIf (dropHead .s s).supervising (replyRefused c .mode) rest (dropHead .s s)).1 :=
    fun c rest => by rw [refuseIf_true _ _ _ mode]; exact .refl _
  cases writes : writesFloor i with
  | false => exact exec_sameFloor h noReset writes
  | true =>
    cases i with
    | writeNodeEntry k r => exact Host.Outcome.next.inj h ▸ request_sameFloor (refused 2 _)
    | clearNodeEntry k => exact Host.Outcome.next.inj h ▸ request_sameFloor (refused 3 _)
    | startSupervision => exact Host.Outcome.next.inj h ▸ request_sameFloor (refused 5 _)
    | stopSupervision => exact absurd rfl noStop
    | _ => cases writes

/-- Stop Supervision writes the mode and leaves the directory (R19). -/
theorem stopEffect_dir (s : State) : (stopEffect s).1.resp.dir = s.resp.dir := by
  unfold stopEffect refuseIf
  split
  · rfl
  · split <;> rfl

/-- Settles O47: `SameFloor` for every command but Stop Supervision, whose effect keeps the directory. -/
theorem directoryIsFrozenWhileSupervising : Obligations.DirectoryIsFrozenWhileSupervising := by
  intro i s t sup h noReset
  by_cases stop : i = .stopSupervision
  · subst stop
    refine ⟨?_, fun noStop => absurd rfl noStop⟩
    cases Host.Outcome.next.inj h
    rcases request_cases 6 (.exactly []) stopEffect s with idle | ⟨f, taken⟩
    · rw [idle]
    · rw [taken]; exact stopEffect_dir (dropHead .s s)
  · have same := exec_sameFloor_of_supervising sup h noReset stop
    exact ⟨same.dir, fun _ => ⟨same.mode.trans sup, same.strs, same.cabs⟩⟩

end Sys2Proof.Machine
end

section
/-! PROOF. While UNCONFIGURED the part holds nothing of the floor (R16, R18, R19): every step keeps it. A command taken while
UNCONFIGURED finds no record, plan, visit or hand-off to act on; a step into UNCONFIGURED is a full reset or an accepted Stop
Supervision, which leave none. -/

namespace Sys2Proof.Machine

/-! The occupied places of a table. -/

/-- The members of a table's list of entries are what its places hold. -/
theorem mem_toList_filterMap_id {α : Type} {n : Nat} (v : Vector (Option α) n) (x : α) :
    x ∈ v.toList.filterMap id ↔ ∃ i : Nat, (v[i]?).join = some x := by
  rw [List.mem_filterMap]
  simp only [id_eq, exists_eq_right, List.mem_iff_getElem?, Vector.getElem?_toList, Option.join_eq_some_iff]

theorem mem_plansHeld_iff (s : State) (p : Plan) : p ∈ plansHeld s ↔ ∃ g, plan? s g = some p :=
  mem_toList_filterMap_id ..

theorem mem_visitsIn_all_iff (s : State) (v : Visit) :
    v ∈ visitsIn s (fun _ => true) ↔ ∃ k, visitEntry? s k = some v := by
  have all : (fun o : Option Visit => o.filter (fun _ => true)) = id := by funext o; cases o <;> rfl
  rw [visitsIn, all]
  exact mem_toList_filterMap_id ..

/-- The floor is busy exactly when a plan slot or a visit entry is occupied (R19). -/
theorem floorBusy_iff (s : State) :
    floorBusy s = true ↔ (∃ g p, plan? s g = some p) ∨ ∃ k v, visitEntry? s k = some v := by
  simp only [floorBusy, Bool.or_eq_true, Bool.not_eq_true', List.isEmpty_eq_false_iff_exists_mem, mem_plansHeld_iff,
    mem_visitsIn_all_iff]
  rw [exists_comm, exists_comm (α := Visit)]

theorem floorBusy_eq_false_iff (s : State) :
    floorBusy s = false ↔ (∀ g, plan? s g = none) ∧ ∀ k, visitEntry? s k = none := by
  rw [← Bool.not_eq_true, floorBusy_iff]
  simp only [not_or, not_exists, Option.eq_none_iff_forall_ne_some]

theorem siteOrders_eq_length_siteKeys (s : State) : siteOrders s = (siteKeys s).length := by
  rw [siteOrders, siteKeys, List.length_map, List.countP_eq_length_filter]

/-! States that hold nothing. -/

/-- Every place of a table without entries is free. -/
theorem getElem?_replicate_none_join {α : Type} (n i : Nat) :
    ((Vector.replicate n (none : Option α))[i]?).join = none := by
  rw [Vector.getElem?_replicate]; split <;> rfl

/-- A full reset leaves nothing of the floor (R190). -/
theorem fullReset_floorEmpty (s : State) : FloorEmpty (fullReset s) :=
  ⟨getElem?_replicate_none_join _, getElem?_replicate_none_join _, getElem?_replicate_none_join _,
    getElem?_replicate_none_join _, rfl, rfl, rfl⟩

theorem countP_site_filter_not_site (l : List OrderEntry) :
    (l.filter (fun e => !(e.origin == .site))).countP (fun e => e.origin == .site) = 0 := by
  rw [List.countP_eq_zero]
  intro e he
  simpa using (List.mem_filter.mp he).2

/-! Stop Supervision, a component at a time (R19). -/

section
variable (s : State)

theorem stopSupervision_resp : (stopSupervision s).resp = { s.resp with mode := .unconfigured } := by
  simp [stopSupervision, supervisionNotice, setOrders]

theorem stopSupervision_insp : (stopSupervision s).insp = ⟨resetRecords s.resp.limits, none⟩ := by
  simp [stopSupervision, supervisionNotice, setOrders]

theorem stopSupervision_cabs : (stopSupervision s).cabs = Vector.replicate 24 none := by
  simp [stopSupervision, supervisionNotice, setOrders]

theorem stopSupervision_strs : (stopSupervision s).strs = Vector.replicate 32 none := by
  simp [stopSupervision, supervisionNotice, setOrders]

theorem stopSupervision_tracker : (stopSupervision s).tracker =
    { s.tracker with orders := s.tracker.orders.filter (fun e => !(e.origin == .site)) } := by
  simp [stopSupervision, supervisionNotice, setOrders]

theorem stopSupervision_seq : (stopSupervision s).seq = s.seq := by
  simp [stopSupervision, supervisionNotice, setOrders]

theorem stopSupervision_visits : (stopSupervision s).visits = { s.visits with forceClose := [] } := by
  simp [stopSupervision, supervisionNotice, setOrders]

theorem stopSupervision_hand : (stopSupervision s).hand = ⟨[], [], []⟩ := by
  simp [stopSupervision, supervisionNotice, setOrders]

end

/-- Stop Supervision on a floor that is not busy leaves nothing (R19). -/
theorem stopSupervision_floorEmpty {s : State} (idle : floorBusy s = false) : FloorEmpty (stopSupervision s) := by
  obtain ⟨plans, visits⟩ := (floorBusy_eq_false_iff s).mp idle
  refine ⟨fun c => ?_, fun i => ?_, fun g => ?_, fun k => ?_, ?_, ?_, stopSupervision_hand s⟩
  · rw [cab?, stopSupervision_cabs]; exact getElem?_replicate_none_join ..
  · rw [str?, stopSupervision_strs]; exact getElem?_replicate_none_join ..
  · rw [plan?, stopSupervision_seq]; exact plans g
  · rw [visitEntry?, stopSupervision_visits]; exact visits k
  · rw [stopSupervision_visits]
  · rw [siteOrders, stopSupervision_tracker]; exact countP_site_filter_not_site _

/-- An empty floor is read from six components. -/
theorem FloorEmpty.of_same {s t : State} (empty : FloorEmpty s) (cabs : t.cabs = s.cabs) (strs : t.strs = s.strs)
    (seq : t.seq = s.seq) (visits : t.visits = s.visits) (hand : t.hand = s.hand) (site : siteOrders t = 0) :
    FloorEmpty t := by
  refine ⟨fun c => ?_, fun i => ?_, fun g => ?_, fun k => ?_, ?_, site, hand.trans empty.hands⟩
  · rw [cab?, cabs]; exact empty.cabs c
  · rw [str?, strs]; exact empty.strs i
  · rw [plan?, seq]; exact empty.plans g
  · rw [visitEntry?, visits]; exact empty.visits k
  · rw [visits]; exact empty.forceClose

/-- Moves that leave the tables, the plans, the visits and the hand-offs alone keep an empty floor: they add no site-origin
entry. -/
theorem Moves.floorEmpty {fs : List Field} {s t : State} (h : Moves fs s t) (empty : FloorEmpty s) (cabs : .cabs ∉ fs)
    (strs : .strs ∉ fs) (seq : .seq ∉ fs) (visits : .visits ∉ fs) (hand : .hand ∉ fs) : FloorEmpty t := by
  refine empty.of_same (h.only.same .cabs cabs) (h.only.same .strs strs) (h.only.same .seq seq)
    (h.only.same .visits visits) (h.only.same .hand hand) ?_
  have before := empty.siteEntries
  have fewer := h.keys.length_le
  rw [siteOrders_eq_length_siteKeys] at before ⊢
  omega

theorem dropHead_s_floorEmpty {s : State} (empty : FloorEmpty s) : FloorEmpty (dropHead .s s) :=
  (dropHead_moves .s s).floorEmpty empty (by decide) (by decide) (by decide) (by decide) (by decide)

theorem answered_floorEmpty {t : State} (f : Frame) (r : ManageReply) (empty : FloorEmpty t) :
    FloorEmpty (answered f r t) :=
  (enqueueReply_moves ..).floorEmpty empty (by decide) (by decide) (by decide) (by decide) (by decide)

/-- A request keeps an empty floor when its effect does. -/
theorem request_floorEmpty {code : Nat} {form : FieldForm} {effect : State → State × ManageReply} {s : State}
    (empty : FloorEmpty s) (h : FloorEmpty (effect (dropHead .s s)).1) : FloorEmpty (request code form effect s) := by
  rcases request_cases code form effect s with idle | ⟨f, taken⟩
  · rw [idle]; exact empty
  · rw [taken]; exact answered_floorEmpty f _ h

/-! On an empty floor there is nothing to act on. -/

/-- A search of the register finds nothing when no entry is occupied. -/
theorem findVisit_eq_none {s : State} (h : ∀ k, visitEntry? s k = none) (p : Visit → Bool) : findVisit s p = none := by
  simp [findVisit, h]

/-- A head frame that its block may not take waits (R169). -/
theorem takeHead_eq_of_not_ready {p : Port} {ready : State → Frame → Bool} {s : State} (act : Frame → State → State)
    (h : ∀ f, ready s f = false) : takeHead p ready act s = s := by
  unfold takeHead; split
  · simp [h]
  · rfl

/-- What a plan-origin entry's plan is handed does nothing when it does nothing in any slot. -/
theorem handPlan_eq_of_idle {f : Nat → State → State} {s : State} (h : ∀ g, f g s = s) (e : OrderEntry) :
    handPlan e f s = s := by
  unfold handPlan; split
  · rw [h, ite_self]
  · rfl

/-- A window's expiry on an empty floor removes a site-origin entry at most (R117). -/
theorem windowExpires_floorEmpty {w : WindowKind} {onPlan : Nat → State → State} {k : OrderKey} {s : State}
    (empty : FloorEmpty s) (idle : ∀ g, onPlan g s = s) : FloorEmpty (windowExpires w onPlan k s) := by
  unfold windowExpires; split
  next e _ =>
    split
    · split
      · refine Moves.floorEmpty (fs := [.tracker]) ((removeOrder_moves k s).trans (moves_withTracker _ _ ?_)) empty
          (by decide) (by decide) (by decide) (by decide) (by decide)
        exact .refl _
      · rw [handPlan_eq_of_idle idle]; exact empty
    · exact empty
  · exact empty

/-- Without plans a Reset TRAFFIC halts none (R191). -/
theorem haltIssued_eq_of_no_plan {s : State} (h : ∀ g, plan? s g = none) : haltIssued s = s :=
  List.foldl_fixed' (fun g => by simp [h]) _

theorem resetTrafficEffect_cases (kind : Nat) (s : State) :
    (resetTrafficEffect kind s).1 = s ∨ (resetTrafficEffect kind s).1 = trafficReset s := by
  unfold resetTrafficEffect refuseIf
  split
  · exact .inl rfl
  · exact .inr rfl

theorem trafficReset_floorEmpty {s : State} (empty : FloorEmpty s) : FloorEmpty (trafficReset s) := by
  have emptied : FloorEmpty (clear codeLinkErrors (.port .f) (clear codeLinkErrors (.port .s)
      (emptyTracker (emptyPorts s)))) := by
    refine empty.of_same ?_ ?_ ?_ ?_ ?_ (countP_site_filter_not_site _) <;>
      simp [emptyTracker, emptyPorts, modPort, State.withPort]
  rw [trafficReset, haltIssued_eq_of_no_plan emptied.plans]
  exact emptied

theorem portField_ne_seq (p : Port) : Field.seq ≠ portField p := by cases p <;> decide
theorem portField_ne_visits (p : Port) : Field.visits ≠ portField p := by cases p <;> decide
theorem portField_ne_hand (p : Port) : Field.hand ≠ portField p := by cases p <;> decide

/-! The commands. -/

/-- Taken while UNCONFIGURED on an empty floor, every command but Start Supervision leaves the floor empty. -/
theorem exec_floorEmpty {i : Instr} {s t : State} (unconf : s.resp.mode = .unconfigured) (empty : FloorEmpty s)
    (h : exec i s = .next t) (noReset : isFullReset i = false) (noStart : i ≠ .startSupervision) : FloorEmpty t := by
  have running : ∀ {f : State → State}, Host.Outcome.next (φ := Fault) (ρ := Refusal) (whenRunning f s) = .next t →
      FloorEmpty (f s) → FloorEmpty t := fun e acted => by
    rw [← Host.Outcome.next.inj e, whenRunning]; split <;> assumption
  have idle : ∀ {f : State → State}, Host.Outcome.next (φ := Fault) (ρ := Refusal) (whenRunning f s) = .next t →
      f s = s → FloorEmpty t := fun e same => running e (by rw [same]; exact empty)
  have dropped := dropHead_s_floorEmpty empty
  have refused : ∀ {code : Nat} {form : FieldForm} {c : Nat} {rest : State → State × ManageReply},
      request code form (refuseIf (!(dropHead .s s).supervising) (replyRefused c .mode) rest) s = t → FloorEmpty t :=
    fun e => e ▸ request_floorEmpty empty (by
      rw [refuseIf_true _ _ _ (by simp [State.supervising, unconf])]; exact dropped)
  have noVisit : ∀ p, findVisit s p = none := findVisit_eq_none empty.visits
  cases i with
  | powerOn | resetLineReleased | fullResetTaken => cases noReset
  | startSupervision => exact absurd rfl noStart
  | siteOrderJudgement =>
    exact idle h (takeHead_eq_of_not_ready _ (fun f => by simp [gateReady, State.supervising, unconf]))
  | reportInspection =>
    exact idle h (takeHead_eq_of_not_ready _ (fun f => by simp [inspectorReady, State.supervising, unconf]))
  | replyMatch =>
    exact idle h (takeHead_eq_of_not_ready _ (fun f => by simp [trackerReady, State.supervising, unconf]))
  | visitHandOff | ageingUpdate | rampStepJudgement => exact idle h (by simp [empty.hands])
  | watchExpiry n => exact idle h (by cases n <;> simp [watchExpires, empty.cabs, empty.strs])
  | recoveryTimerExpiry k => exact idle h (by simp [recoveryExpires, empty.strs])
  | replyWindowExpiry k =>
    exact running h (windowExpires_floorEmpty empty (fun g => by simp [planReplyExpiry, empty.plans]))
  | completionWindowExpiry k =>
    exact running h (windowExpires_floorEmpty empty (fun g => by simp [planCompletionExpiry, empty.plans]))
  | settleExpiry g => exact idle h (by simp [settleExpires, empty.plans])
  | rampIntervalExpiry g => exact idle h (by simp [intervalExpires, empty.plans])
  | matchWindowExpiry g => exact idle h (by simp [matchExpires, empty.plans])
  | stepTrigger g => exact idle h (by simp [trigger, empty.plans])
  | prepareTimerExpiry id => exact idle h (by simp [prepareExpires, visitById, noVisit])
  | durationTimerExpiry id => exact idle h (by simp [durationExpires, visitById, noVisit])
  | closeTimerExpiry id => exact idle h (by simp [closeExpires, visitById, noVisit])
  | writeGroupParameters g fs =>
    refine Host.Outcome.next.inj h ▸ request_floorEmpty empty ?_
    unfold writeGroupEffect refuseIf; split
    · exact dropped
    · exact ⟨empty.cabs, empty.strs, empty.plans, empty.visits, empty.forceClose, empty.siteEntries, empty.hands⟩
  | stringRestore k r => exact refused (Host.Outcome.next.inj h)
  | acceptReplacementNew k choice =>
    have e := Host.Outcome.next.inj h
    split at e
    · exact e ▸ empty
    · exact refused e
  | acceptReplacementSame k => exact refused (Host.Outcome.next.inj h)
  | planRequest kind g target => exact refused (Host.Outcome.next.inj h)
  | planResume id => exact refused (Host.Outcome.next.inj h)
  | planAbandon id => exact refused (Host.Outcome.next.inj h)
  | visitOpen r => exact refused (Host.Outcome.next.inj h)
  | visitClose id => exact refused (Host.Outcome.next.inj h)
  | visitForceClose id => exact refused (Host.Outcome.next.inj h)
  | visitCancel id => exact refused (Host.Outcome.next.inj h)
  | stopSupervision => exact refused (Host.Outcome.next.inj h)
  | resetTraffic kind =>
    have e := Host.Outcome.next.inj h
    split at e
    · exact e ▸ empty
    · refine e ▸ request_floorEmpty empty ?_
      rcases resetTrafficEffect_cases kind (dropHead .s s) with refusal | reset
      · rw [refusal]; exact dropped
      · rw [reset]; exact trafficReset_floorEmpty dropped
  | transmitTake p | frameSent p | abandonedTx p =>
    refine (exec_moves h rfl (by nofun)).floorEmpty empty ?_ ?_ ?_ ?_ ?_ <;> cases p <;> decide
  | _ =>
    refine (exec_moves h rfl (by nofun)).floorEmpty empty ?_ ?_ ?_ ?_ ?_ <;>
      simp [touches, requestFields, portField_ne_cabs, portField_ne_strs, portField_ne_seq, portField_ne_visits,
        portField_ne_hand]

/-- A full reset that acts leaves an empty floor, and one that does not act leaves the state (R20, R190). -/
theorem exec_fullReset {i : Instr} {s t : State} (h : exec i s = .next t) (isReset : isFullReset i = true) :
    t = s ∨ FloorEmpty t := by
  have empty := fullReset_floorEmpty s
  have same : ∀ b x, FloorEmpty ((fullReset s).withBridge b) ∧ FloorEmpty ((fullReset s).withResetLine x) := fun _ _ =>
    ⟨empty.of_same rfl rfl rfl rfl rfl empty.siteEntries, empty.of_same rfl rfl rfl rfl rfl empty.siteEntries⟩
  cases i with
  | powerOn => exact .inr (Host.Outcome.next.inj h ▸ (same _ true).1)
  | resetLineReleased =>
    have e := Host.Outcome.next.inj h
    split at e
    · exact .inr (e ▸ (same .opened _).2)
    · exact .inl e.symm
  | fullResetTaken =>
    have e := Host.Outcome.next.inj h
    unfold whenRunning at e
    split at e
    · dsimp only at e; split at e
      · exact .inr (e ▸ empty)
      · exact .inl e.symm
    · exact .inl e.symm
  | _ => cases isReset

/-- Start Supervision is refused, or the part is SUPERVISING after it (R18). -/
theorem startEffect_cases (s : State) : (startEffect s).1 = s ∨ (startEffect s).1.resp.mode = .supervising := by
  unfold startEffect refuseIf
  split
  · exact .inl rfl
  · dsimp only; split
    · exact .inl rfl
    · exact .inr rfl

/-- Stop Supervision is refused, or leaves an empty floor (R19). -/
theorem stopEffect_cases (s : State) : (stopEffect s).1 = s ∨ FloorEmpty (stopEffect s).1 := by
  unfold stopEffect refuseIf
  split
  · exact .inl rfl
  · split
    · exact .inl rfl
    next idle => exact .inr (stopSupervision_floorEmpty (by simpa using idle))

theorem exec_startSupervision_unconfiguredEmpty {s t : State} (empty : FloorEmpty s)
    (h : exec .startSupervision s = .next t) : UnconfiguredHoldsNothing t := by
  intro unconf
  cases Host.Outcome.next.inj h
  rcases request_cases 5 (.exactly []) startEffect s with idle | ⟨f, taken⟩
  · rw [idle]; exact empty
  · rw [taken] at unconf ⊢
    refine answered_floorEmpty f _ ?_
    rcases startEffect_cases (dropHead .s s) with refused | started
    · rw [refused]; exact dropHead_s_floorEmpty empty
    · cases started.symm.trans unconf

theorem exec_stopSupervision_unconfiguredEmpty {s t : State} (sup : s.resp.mode = .supervising)
    (h : exec .stopSupervision s = .next t) : UnconfiguredHoldsNothing t := by
  intro unconf
  cases Host.Outcome.next.inj h
  rcases request_cases 6 (.exactly []) stopEffect s with idle | ⟨f, taken⟩
  · rw [idle] at unconf; cases sup.symm.trans unconf
  · rw [taken] at unconf ⊢
    refine answered_floorEmpty f _ ?_
    rcases stopEffect_cases (dropHead .s s) with refused | stopped
    · have mode : (stopEffect (dropHead .s s)).1.resp.mode = .unconfigured := unconf
      rw [refused] at mode; cases sup.symm.trans mode
    · exact stopped

/-- Every command keeps the rule of R16. -/
theorem exec_keeps_unconfiguredHoldsNothing {i : Instr} {s t : State} (inv : UnconfiguredHoldsNothing s)
    (h : exec i s = .next t) : UnconfiguredHoldsNothing t := by
  cases isReset : isFullReset i with
  | true =>
    rcases exec_fullReset h isReset with rfl | empty
    · exact inv
    · exact fun _ => empty
  | false =>
    cases mode : s.resp.mode with
    | unconfigured =>
      by_cases start : i = .startSupervision
      · subst start; exact exec_startSupervision_unconfiguredEmpty (inv mode) h
      · exact fun _ => exec_floorEmpty mode (inv mode) h isReset start
    | supervising =>
      by_cases stop : i = .stopSupervision
      · subst stop; exact exec_stopSupervision_unconfiguredEmpty mode h
      · have same := exec_sameFloor_of_supervising mode h isReset stop
        intro unconf
        cases (same.mode.trans mode).symm.trans unconf

/-- Settles O58: a step idles or runs the command at the front, whose waiting queue is no part of the floor. -/
theorem everyStepKeepsUnconfiguredEmpty : Obligations.EveryStepKeepsUnconfiguredEmpty := by
  intro s t inv h
  unfold step at h
  split at h
  next c rest _ =>
    have taken : UnconfiguredHoldsNothing (s.withPending rest) := fun unconf =>
      (inv unconf).of_same rfl rfl rfl rfl rfl (inv unconf).siteEntries
    exact exec_keeps_unconfiguredHoldsNothing taken h
  · exact Host.Outcome.next.inj h ▸ inv

end Sys2Proof.Machine
end

section
/-! PROOF. Stop Supervision (R19, R24): refused while the floor is busy, and otherwise what each component becomes. -/

namespace Sys2Proof.Machine

/-- A request command that can be taken answers with its effect. -/
theorem next_request_takes {code : Nat} {form : FieldForm} {f : Frame} {s : State} (effect : State → State × ManageReply)
    (h : Takes code form f s) : Host.Outcome.next (φ := Fault) (ρ := Refusal) (request code form effect s) =
      .next (answered f (effect (dropHead .s s)).2 (effect (dropHead .s s)).1) :=
  congrArg Host.Outcome.next (request_takes effect h)

/-- The answer of a request whose effect is known. -/
theorem next_request_of_effect {code : Nat} {form : FieldForm} {f : Frame} {s t : State} {m : ManageReply}
    {effect : State → State × ManageReply} (h : Takes code form f s) (eq : effect (dropHead .s s) = (t, m)) :
    Host.Outcome.next (φ := Fault) (ρ := Refusal) (request code form effect s) = .next (answered f m t) := by
  rw [next_request_takes effect h, eq]

/-- The records of an entry after Start and Stop Supervision (R32). -/
theorem resetRecords_getElem? {s : State} {k : Nat} {e : LimitEntry} (h : limit? s k = some e) :
    (resetRecords s.resp.limits)[k]? = some e.freshRecords := by
  have stands : s.resp.limits[k]? = some (some e) := Option.join_eq_some_iff.mp h
  rw [resetRecords, Vector.getElem?_map, stands]
  rfl

/-- Every alarm but LINK_ERRORS goes, and then the notice is queued (R19). -/
theorem stopSupervision_alarm (s : State) : (stopSupervision s).alarm =
    (queueNotice .supervisionState [0] (s.withAlarm { s.alarm with list := keepLinkErrors s.alarm.list })).alarm :=
  queueNotice_alarm_congr _ _ (by simp [setOrders]) (by simp [setOrders])

theorem stopEffect_of_busy {s : State} (sup : s.resp.mode = .supervising) (busy : floorBusy s = true) :
    stopEffect s = (s, replyRefused 6 .busy) := by
  rw [stopEffect, refuseIf_false _ _ _ (by simp [State.supervising, sup]), refuseIf_true _ _ _ busy]

theorem stopEffect_of_idle {s : State} (sup : s.resp.mode = .supervising) (idle : floorBusy s = false) :
    stopEffect s = (stopSupervision s, replyOk 6) := by
  rw [stopEffect, refuseIf_false _ _ _ (by simp [State.supervising, sup]), refuseIf_false _ _ _ idle]

/-- Settles O49: the state after the answer is `stopSupervision`, read a component at a time. -/
theorem stopSupervisionEmptiesTheFloor : Obligations.StopSupervisionEmptiesTheFloor := by
  intro f s takes sup u got busy
  have answer : got = .next (answered f (stopEffect u).2 (stopEffect u).1) := next_request_takes stopEffect takes
  have sup' : u.resp.mode = .supervising := sup
  have test : floorBusy u = true ↔ busy := floorBusy_iff u
  refine ⟨fun occupied => ?_, fun idle => ⟨stopSupervision u, ?_, ?_⟩⟩
  · rw [answer, stopEffect_of_busy sup' (test.mpr occupied)]; rfl
  · rw [answer, stopEffect_of_idle sup' (Bool.eq_false_iff.mpr (mt test.mp idle))]; rfl
  · have empty : FloorEmpty (stopSupervision u) := stopSupervision_floorEmpty (Bool.eq_false_iff.mpr (mt test.mp idle))
    refine ⟨stopSupervision_resp u, empty.cabs, empty.strs, stopSupervision_visits u, stopSupervision_tracker u, ?_, ?_, ?_,
      empty.hands, (stopSupervision_moves u).only⟩
    · rw [stopSupervision_insp]
    · intro k e found
      rw [stopSupervision_insp]
      exact resetRecords_getElem? found
    · exact (stopSupervision_alarm u).trans (queueNotice_alarm_congr _ _ rfl rfl)

end Sys2Proof.Machine
end

section
/-! PROOF. Start Supervision (R17, R18): what the directory check looks for, what the two tables hold after a directory that
passes, and what the groups are then (R6). -/

namespace Sys2Proof.Machine

/-! What an entry of the directory offends against (R17). -/

/-- A cabinet entry stands at an index of the directory. -/
def CabAt (dir : Vector (Option DirEntry) 56) (i : Nat) (e : DirEntry) (n : CabNode) : Prop :=
  dir[i]? = some (some e) ∧ e.role = .cabinet n

/-- A string-monitor entry stands at an index of the directory. -/
def StrAt (dir : Vector (Option DirEntry) 56) (i : Nat) (e : DirEntry) (n : StrNode) : Prop :=
  dir[i]? = some (some e) ∧ e.role = .stringMonitor n

/-- A lower entry holds the address. -/
def AddressTaken (dir : Vector (Option DirEntry) 56) (i : Nat) (e : DirEntry) : Prop :=
  ∃ j x, j < i ∧ dir[j]? = some (some x) ∧ x.addr = e.addr

/-- A cabinet entry repeats a lower index, is the ninth of its group or its second lead, or is the first of a group that has
no lead. -/
def CabinetOffends (dir : Vector (Option DirEntry) 56) (i : Nat) (n : CabNode) : Prop :=
  (∃ j x m, j < i ∧ CabAt dir j x m ∧ m.index = n.index) ∨
    8 ≤ (List.range i).countP (fun j => (dir[j]?).join.any (fun e => e.cab?.any (fun m => m.group == n.group))) ∨
    (n.lead = true ∧ ∃ j x m, j < i ∧ CabAt dir j x m ∧ m.group = n.group ∧ m.lead = true) ∨
    ((∀ j x m, CabAt dir j x m → m.group = n.group → m.lead = false) ∧
      ∀ j x m, j < i → CabAt dir j x m → m.group ≠ n.group)

/-- A string-monitor entry repeats a lower index, has no cabinet as its owner, or is the fifth of its owner. -/
def StringOffends (dir : Vector (Option DirEntry) 56) (i : Nat) (n : StrNode) : Prop :=
  (∃ j x m, j < i ∧ StrAt dir j x m ∧ m.index = n.index) ∨ (∀ j x m, CabAt dir j x m → m.index ≠ n.owner) ∨
    4 ≤ (List.range i).countP (fun j => (dir[j]?).join.any (fun e => e.str?.any (fun m => m.owner == n.owner)))

/-- The entry at an index offends. -/
def Offends (dir : Vector (Option DirEntry) 56) (i : Nat) : Prop :=
  (∃ e, dir[i]? = some (some e) ∧ AddressTaken dir i e) ∨ (∃ e n, CabAt dir i e n ∧ CabinetOffends dir i n) ∨
    ∃ e n, StrAt dir i e n ∧ StringOffends dir i n

theorem DirEntry.cab?_eq_some_iff (e : DirEntry) (n : CabNode) : e.cab? = some n ↔ e.role = .cabinet n := by
  unfold DirEntry.cab?; cases e.role <;> simp

theorem DirEntry.str?_eq_some_iff (e : DirEntry) (n : StrNode) : e.str? = some n ↔ e.role = .stringMonitor n := by
  unfold DirEntry.str?; cases e.role <;> simp

/-! The lists the check reads. -/

section
variable (dir : Vector (Option DirEntry) 56)

theorem mem_indexedEntries_iff (i : Nat) (e : DirEntry) : (i, e) ∈ indexedEntries dir ↔ dir[i]? = some (some e) := by
  have place : dir[i]? = some (some e) → i < 56 := fun h => join_lt (Option.join_eq_some_iff.mpr h)
  simp only [indexedEntries, List.mem_filterMap, List.mem_range, Option.map_eq_some_iff, Prod.mk.injEq,
    Option.join_eq_some_iff]
  constructor
  · rintro ⟨j, -, x, found, rfl, rfl⟩; exact found
  · exact fun found => ⟨i, place found, e, found, rfl, rfl⟩

/-- The entries below an index are those of the lower places. -/
theorem indexedEntries_filter_lt {i : Nat} (h : i ≤ 56) : (indexedEntries dir).filter (fun x => decide (x.1 < i)) =
    (List.range i).filterMap (fun j => ((dir[j]?).join).map (fun e => (j, e))) := by
  have lower : List.range i = (List.range 56).filter (fun j => decide (j < i)) := by
    obtain ⟨k, hk⟩ : ∃ k, 56 = i + k := ⟨56 - i, by omega⟩
    rw [hk, List.range_add, List.filter_append, List.filter_eq_self.mpr (by simp), List.filter_eq_nil_iff.mpr (by simp),
      List.append_nil]
  rw [lower, indexedEntries, List.filter_filterMap, List.filterMap_filter]
  refine List.filterMap_congr fun j _ => ?_
  cases (dir[j]?).join <;> simp [Option.filter]

/-- The entries that the check of index `i` has below it. -/
def entriesBelow (i : Nat) : List DirEntry :=
  ((indexedEntries dir).filter (fun x => decide (x.1 < i))).map Prod.snd

theorem mem_entriesBelow_iff (i : Nat) (x : DirEntry) :
    x ∈ entriesBelow dir i ↔ ∃ j, j < i ∧ dir[j]? = some (some x) := by
  simp only [entriesBelow, List.mem_map, List.mem_filter, decide_eq_true_eq, Prod.exists, mem_indexedEntries_iff,
    exists_eq_right]
  exact exists_congr fun j => and_comm

/-- A node of a role below an index that passes a test. -/
theorem any_below_iff {α : Type} (i : Nat) (role : DirEntry → Option α) (p : α → Bool) :
    ((entriesBelow dir i).filterMap role).any p = true ↔
      ∃ j x m, j < i ∧ (dir[j]? = some (some x) ∧ role x = some m) ∧ p m = true := by
  simp only [List.any_eq_true, List.mem_filterMap, mem_entriesBelow_iff]
  constructor
  · rintro ⟨m, ⟨x, ⟨j, lt, stands⟩, node⟩, passes⟩; exact ⟨j, x, m, lt, ⟨stands, node⟩, passes⟩
  · rintro ⟨j, x, m, lt, ⟨stands, node⟩, passes⟩; exact ⟨m, ⟨x, ⟨j, lt, stands⟩, node⟩, passes⟩

/-- A cabinet of the directory that passes a test. -/
theorem any_allCabs_iff (p : CabNode → Bool) : ((indexedEntries dir).filterMap (fun x => x.2.cab?)).any p = true ↔
    ∃ j x m, CabAt dir j x m ∧ p m = true := by
  simp only [List.any_eq_true, List.mem_filterMap, Prod.exists, mem_indexedEntries_iff, DirEntry.cab?_eq_some_iff, CabAt]
  constructor
  · rintro ⟨m, ⟨j, x, stands⟩, passes⟩; exact ⟨j, x, m, stands, passes⟩
  · rintro ⟨j, x, m, stands, passes⟩; exact ⟨m, ⟨j, x, stands⟩, passes⟩

/-- How many nodes of a role stand below an index and pass a test is counted over the places below it. -/
theorem countP_below {α : Type} {i : Nat} (h : i ≤ 56) (role : DirEntry → Option α) (p : α → Bool) :
    ((entriesBelow dir i).filterMap role).countP p =
      (List.range i).countP (fun j => (dir[j]?).join.any (fun e => (role e).any p)) := by
  rw [entriesBelow, indexedEntries_filter_lt dir h, List.countP_filterMap, List.countP_map, List.countP_filterMap]
  refine List.countP_congr fun j _ => ?_
  cases (dir[j]?).join with
  | none => simp
  | some e => cases node : role e <;> simp [node]

/-! The check tests what the rule says (R17). -/

theorem addressTest_iff (i : Nat) (e : DirEntry) :
    (entriesBelow dir i).any (fun x => x.addr == e.addr) = true ↔ AddressTaken dir i e := by
  simp only [List.any_eq_true, mem_entriesBelow_iff, beq_iff_eq, AddressTaken]
  constructor
  · rintro ⟨x, ⟨j, lt, stands⟩, same⟩; exact ⟨j, x, lt, stands, same⟩
  · rintro ⟨j, x, lt, stands, same⟩; exact ⟨x, ⟨j, lt, stands⟩, same⟩

theorem cabinetOffends_iff {i : Nat} (h : i ≤ 56) (n : CabNode) :
    cabinetOffends ((entriesBelow dir i).filterMap (·.cab?)) ((indexedEntries dir).filterMap (fun x => x.2.cab?)) n = true ↔
      CabinetOffends dir i n := by
  simp only [cabinetOffends, CabinetOffends, CabAt, Bool.or_eq_true, Bool.and_eq_true, Bool.not_eq_true', ← Bool.not_eq_true,
    any_below_iff, any_allCabs_iff, DirEntry.cab?_eq_some_iff, countP_below dir h, decide_eq_true_eq, beq_iff_eq, not_exists,
    not_and, or_assoc, ne_eq]

theorem stringOffends_iff {i : Nat} (h : i ≤ 56) (n : StrNode) :
    stringOffends ((entriesBelow dir i).filterMap (·.str?)) ((indexedEntries dir).filterMap (fun x => x.2.cab?)) n = true ↔
      StringOffends dir i n := by
  simp only [stringOffends, StringOffends, StrAt, Bool.or_eq_true, Bool.not_eq_true', ← Bool.not_eq_true, any_below_iff,
    any_allCabs_iff, DirEntry.str?_eq_some_iff, countP_below dir h, decide_eq_true_eq, beq_iff_eq, not_exists, not_and,
    or_assoc, ne_eq]

theorem entryOffends_iff {i : Nat} {e : DirEntry} (stands : dir[i]? = some (some e)) :
    entryOffends (indexedEntries dir) i e = true ↔ Offends dir i := by
  have place : i ≤ 56 := Nat.le_of_lt (join_lt (Option.join_eq_some_iff.mpr stands))
  have only : ∀ x, dir[i]? = some (some x) ↔ e = x := fun x => by rw [stands]; simp
  have test : entryOffends (indexedEntries dir) i e = ((entriesBelow dir i).any (fun x => x.addr == e.addr) ||
    (match e.role with
    | .cabinet n =>
      cabinetOffends ((entriesBelow dir i).filterMap (·.cab?)) ((indexedEntries dir).filterMap (fun x => x.2.cab?)) n
    | .stringMonitor n =>
      stringOffends ((entriesBelow dir i).filterMap (·.str?)) ((indexedEntries dir).filterMap (fun x => x.2.cab?)) n)) := rfl
  rw [test, Bool.or_eq_true, addressTest_iff]
  simp only [Offends, CabAt, StrAt, only]
  cases role : e.role with
  | cabinet n => simp [role, cabinetOffends_iff dir place]
  | stringMonitor n => simp [role, stringOffends_iff dir place]

/-- An index without an entry does not offend. -/
theorem Offends.stands {i : Nat} (h : Offends dir i) : ∃ e, dir[i]? = some (some e) := by
  rcases h with ⟨e, stands, -⟩ | ⟨e, n, ⟨stands, -⟩, -⟩ | ⟨e, n, ⟨stands, -⟩, -⟩ <;> exact ⟨e, stands⟩

/-- The check of a place finds what `Offends` says of its index. -/
theorem placeOffends_iff (i : Nat) : (((dir[i]?).join).map (fun e => (i, e))).any
    (fun x => entryOffends (indexedEntries dir) x.1 x.2) = true ↔ Offends dir i := by
  cases found : (dir[i]?).join with
  | none =>
    refine ⟨fun h => by simp at h, fun h => ?_⟩
    obtain ⟨e, stands⟩ := h.stands
    simp [stands] at found
  | some e => exact entryOffends_iff dir (Option.join_eq_some_iff.mp found)

theorem hasCabinet_iff : (indexedEntries dir).any (fun x => x.2.cab?.isSome) = true ↔ ∃ i e n, CabAt dir i e n := by
  simp only [List.any_eq_true, Prod.exists, mem_indexedEntries_iff, Option.isSome_iff_exists, DirEntry.cab?_eq_some_iff, CabAt,
    exists_and_left]

theorem directoryFault_of_no_cabinet (h : ∀ i e n, ¬CabAt dir i e n) : directoryFault dir = some 255 := by
  have none_stands : ¬(indexedEntries dir).any (fun x => x.2.cab?.isSome) = true := by
    rw [hasCabinet_iff]; rintro ⟨i, e, n, stands⟩; exact h i e n stands
  exact if_neg none_stands

/-- The check of a directory with a cabinet is a search of its places in order. -/
theorem directoryFault_of_cabinet (h : ∃ i e n, CabAt dir i e n) : directoryFault dir =
    (((List.range 56).find? (fun i => (((dir[i]?).join).map (fun e => (i, e))).any
      (fun x => entryOffends (indexedEntries dir) x.1 x.2))).bind
        (fun i => ((dir[i]?).join).map (fun e => (i, e)))).map Prod.fst := by
  have stands := (hasCabinet_iff dir).mpr h
  refine (if_pos stands).trans ?_
  conv_lhs => rw [indexedEntries, List.find?_filterMap]
  rfl

theorem directoryFault_of_offends (h : ∃ i e n, CabAt dir i e n) {i : Nat} (offends : Offends dir i)
    (lowest : ∀ j < i, ¬Offends dir j) : directoryFault dir = some i := by
  obtain ⟨e, stands⟩ := offends.stands
  have place : i < 56 := join_lt (Option.join_eq_some_iff.mpr stands)
  have found := List.find?_range_eq_some.mpr ⟨(placeOffends_iff dir i).mpr offends, List.mem_range.mpr place, fun j lt => by
    rw [Bool.not_eq_true', ← Bool.not_eq_true, placeOffends_iff]; exact lowest j lt⟩
  rw [directoryFault_of_cabinet dir h, found]
  simp [stands]

theorem directoryFault_of_sound (h : ∃ i e n, CabAt dir i e n) (sound : ∀ i, ¬Offends dir i) :
    directoryFault dir = none := by
  have found := (List.find?_range_eq_none (n := 56)).mpr fun i _ => by
    rw [Bool.not_eq_true', ← Bool.not_eq_true, placeOffends_iff dir i]; exact sound i
  rw [directoryFault_of_cabinet dir h, found]
  rfl

end

end Sys2Proof.Machine
end

section
/-! PROOF. Start Supervision on a directory that passes (R18): the records of the two tables, the groups (R6), and the
settlement. -/

namespace Sys2Proof.Machine

/-! Nodes of a role. The lemmas are about a role of an entry and the table index that a node of it holds: cabinets and
string monitors are the two. -/

/-- An entry that holds a node of a role stands at an index of the directory. -/
def NodeAt {α : Type} (dir : Vector (Option DirEntry) 56) (role : DirEntry → Option α) (i : Nat) (e : DirEntry) (n : α) :
    Prop := dir[i]? = some (some e) ∧ role e = some n

theorem cabAt_iff_nodeAt (dir : Vector (Option DirEntry) 56) (i : Nat) (e : DirEntry) (n : CabNode) :
    CabAt dir i e n ↔ NodeAt dir DirEntry.cab? i e n := by
  rw [CabAt, NodeAt, DirEntry.cab?_eq_some_iff]

theorem strAt_iff_nodeAt (dir : Vector (Option DirEntry) 56) (i : Nat) (e : DirEntry) (n : StrNode) :
    StrAt dir i e n ↔ NodeAt dir DirEntry.str? i e n := by
  rw [StrAt, NodeAt, DirEntry.str?_eq_some_iff]

/-- The entries of a role that agree in its table index are one entry. -/
def OneEntryEach {α : Type} (dir : Vector (Option DirEntry) 56) (role : DirEntry → Option α) (index : α → Nat) : Prop :=
  ∀ i j e x n m, NodeAt dir role i e n → NodeAt dir role j x m → index n = index m → e = x

theorem mem_dirEntries_iff (dir : Vector (Option DirEntry) 56) (e : DirEntry) :
    e ∈ dirEntries dir ↔ ∃ i : Nat, dir[i]? = some (some e) := by
  simp only [dirEntries, mem_toList_filterMap_id, Option.join_eq_some_iff]

section
variable {α : Type} {dir : Vector (Option DirEntry) 56} {role : DirEntry → Option α}

/-- Nodes that may not stand at two places, whichever is the lower, are one node. -/
theorem nodeAt_eq_of_related {R : α → α → Prop} (symm : ∀ n m, R n m → R m n)
    (apart : ∀ i j e x n m, i < j → NodeAt dir role i e n → NodeAt dir role j x m → ¬R n m) {i j : Nat} {e x : DirEntry}
    {n m : α} (h : NodeAt dir role i e n) (k : NodeAt dir role j x m) (related : R n m) : e = x ∧ n = m := by
  rcases Nat.lt_trichotomy i j with lt | rfl | gt
  · exact absurd related (apart i j e x n m lt h k)
  · obtain rfl : e = x := by simpa using h.1.symm.trans k.1
    exact ⟨rfl, Option.some.inj (h.2.symm.trans k.2)⟩
  · exact absurd (symm n m related) (apart j i x e m n gt k h)

variable {index : α → Nat}

/-- The lookup of a table index finds the entry of that index (R6). -/
theorem find?_dirEntries_eq_some_iff (unique : OneEntryEach dir role index) (c : Nat) (e : DirEntry) :
    (dirEntries dir).find? (fun e => (role e).any (fun n => index n == c)) = some e ↔
      ∃ i n, NodeAt dir role i e n ∧ index n = c := by
  have sound : ∀ x, (dirEntries dir).find? (fun e => (role e).any (fun n => index n == c)) = some x →
      ∃ i n, NodeAt dir role i x n ∧ index n = c := by
    intro x found
    obtain ⟨i, stands⟩ := (mem_dirEntries_iff dir x).mp (List.mem_of_find?_eq_some found)
    obtain ⟨n, node, same⟩ := (Option.any_eq_true ..).mp
      (List.find?_some (p := fun e => (role e).any (fun n => index n == c)) found)
    exact ⟨i, n, ⟨stands, node⟩, beq_iff_eq.mp same⟩
  refine ⟨sound e, ?_⟩
  rintro ⟨i, n, stands, rfl⟩
  have listed : e ∈ dirEntries dir := (mem_dirEntries_iff dir e).mpr ⟨i, stands.1⟩
  have passes : (role e).any (fun m => index m == index n) = true := by rw [stands.2]; simp
  obtain ⟨x, found⟩ := Option.isSome_iff_exists.mp
    ((List.find?_isSome (p := fun e => (role e).any (fun m => index m == index n))).mpr ⟨e, listed, passes⟩)
  obtain ⟨j, m, at_j, same⟩ := sound x found
  rw [found, unique i j e x n m stands at_j same.symm]

/-- The node of a table index. -/
theorem find?_dirEntries_bind_eq_some_iff (unique : OneEntryEach dir role index) (c : Nat) (n : α) :
    ((dirEntries dir).find? (fun e => (role e).any (fun n => index n == c))).bind role = some n ↔
      ∃ i e, NodeAt dir role i e n ∧ index n = c := by
  simp only [Option.bind_eq_some_iff, find?_dirEntries_eq_some_iff unique]
  constructor
  · rintro ⟨e, ⟨i, m, stands, same⟩, node⟩
    cases Option.some.inj (stands.2.symm.trans node)
    exact ⟨i, e, stands, same⟩
  · rintro ⟨i, e, stands, same⟩
    exact ⟨e, ⟨i, n, stands, same⟩, stands.2⟩

/-- A table built from the directory holds at a place the record made of the entry of that index, and nothing where none
stands. -/
theorem table_eq_some_iff {β : Type} {places : Nat} (unique : OneEntryEach dir role index) (record : DirEntry → α → β)
    (c : Nat) (r : β) :
    (((Vector.range places).map (fun c => ((dirEntries dir).find? (fun e => (role e).any (fun n => index n == c))).bind
      (fun e => (role e).map (record e))))[c]?).join = some r ↔
      c < places ∧ ∃ i e n, NodeAt dir role i e n ∧ index n = c ∧ r = record e n := by
  by_cases place : c < places
  · rw [Vector.getElem?_eq_getElem place, Option.join_some, Vector.getElem_map, Vector.getElem_range]
    simp only [Option.bind_eq_some_iff, find?_dirEntries_eq_some_iff unique, Option.map_eq_some_iff, place, true_and]
    constructor
    · rintro ⟨e, ⟨i, m, stands, same⟩, n, node, made⟩
      cases Option.some.inj (stands.2.symm.trans node)
      exact ⟨i, e, m, stands, same, made.symm⟩
    · rintro ⟨i, e, n, stands, same, made⟩
      exact ⟨e, ⟨i, n, stands, same⟩, n, stands.2, made.symm⟩
  · rw [Vector.getElem?_eq_none (by omega)]
    simp [place]

end

/-! What a directory that passes has (R17). -/

section
variable {dir : Vector (Option DirEntry) 56} (sound : ∀ i, ¬Offends dir i)
include sound

theorem cab?_oneEntryEach : OneEntryEach dir DirEntry.cab? CabNode.index := by
  intro i j e x n m h k same
  refine (nodeAt_eq_of_related (R := fun n m => n.index = m.index) (fun _ _ => Eq.symm) ?_ h k same).1
  intro i j e x n m lt h k same
  rw [← cabAt_iff_nodeAt] at h k
  exact sound j (.inr (.inl ⟨x, m, k, .inl ⟨i, e, n, lt, h, same⟩⟩))

theorem str?_oneEntryEach : OneEntryEach dir DirEntry.str? StrNode.index := by
  intro i j e x n m h k same
  refine (nodeAt_eq_of_related (R := fun n m => n.index = m.index) (fun _ _ => Eq.symm) ?_ h k same).1
  intro i j e x n m lt h k same
  rw [← strAt_iff_nodeAt] at h k
  exact sound j (.inr (.inr ⟨x, m, k, .inl ⟨i, e, n, lt, h, same⟩⟩))

/-- Two lead entries of one group are one entry. -/
theorem lead_unique {i j : Nat} {e x : DirEntry} {n m : CabNode} (h : CabAt dir i e n) (k : CabAt dir j x m)
    (group : n.group = m.group) (hl : n.lead = true) (kl : m.lead = true) : n = m := by
  rw [cabAt_iff_nodeAt] at h k
  refine (nodeAt_eq_of_related (R := fun n m => n.group = m.group ∧ n.lead = true ∧ m.lead = true)
    (fun _ _ r => ⟨r.1.symm, r.2.2, r.2.1⟩) ?_ h k ⟨group, hl, kl⟩).2
  rintro i j e x n m lt h k ⟨group, hl, kl⟩
  rw [← cabAt_iff_nodeAt] at h k
  exact sound j (.inr (.inl ⟨x, m, k, .inr (.inr (.inl ⟨kl, i, e, n, lt, h, group, hl⟩))⟩))

/-- A group of a cabinet entry has a lead entry: the lowest entry of the group does not offend. -/
theorem exists_lead_entry {g : Nat} (h : ∃ i e n, CabAt dir i e n ∧ n.group = g) :
    ∃ i e n, CabAt dir i e n ∧ n.group = g ∧ n.lead = true := by
  classical
  obtain ⟨e, n, stands, rfl⟩ := Nat.find_spec h
  by_contra none_leads
  refine sound (Nat.find h) (.inr (.inl ⟨e, n, stands, .inr (.inr (.inr
    ⟨fun j x m k same => ?_, fun j x m lt k same => ?_⟩))⟩))
  · exact Bool.eq_false_iff.mpr fun leads => none_leads ⟨j, x, m, k, same, leads⟩
  · exact Nat.find_min h lt ⟨x, m, k, same⟩

end

/-! The tables that Start Supervision builds (R7, R13, R14, R18). -/

section
variable {s : State} (sound : ∀ i, ¬Offends s.resp.dir i)
include sound

theorem startCabs_eq_some_iff (c : Nat) (r : CabRec) : ((startCabs s)[c]?).join = some r ↔
    c < 24 ∧ ∃ i e n, CabAt s.resp.dir i e n ∧ n.index = c ∧ r = startCabinet s.now e n := by
  simp only [cabAt_iff_nodeAt]
  exact table_eq_some_iff (cab?_oneEntryEach sound) (startCabinet s.now) c r

theorem startStrs_eq_some_iff (k : Nat) (r : StrRec) : ((startStrs s)[k]?).join = some r ↔
    k < 32 ∧ ∃ i e n, StrAt s.resp.dir i e n ∧ n.index = k ∧ r = startString s.now e n := by
  simp only [strAt_iff_nodeAt]
  exact table_eq_some_iff (str?_oneEntryEach sound) (startString s.now) k r

theorem strNode?_eq_some_iff (k : Nat) (n : StrNode) :
    strNode? s k = some n ↔ ∃ i e, StrAt s.resp.dir i e n ∧ n.index = k := by
  simp only [strAt_iff_nodeAt]
  exact find?_dirEntries_bind_eq_some_iff (str?_oneEntryEach sound) k n

end

/-! The groups (R6). -/

/-- The members of a group stand by ascending index. -/
theorem members_pairwise_lt (s : State) (g : Nat) : (members s g).Pairwise (· < ·) := by
  rw [members, List.pairwise_map, memberRecs, List.pairwise_filterMap]
  refine List.pairwise_lt_range.imp fun {a b} lt x hx y hy => ?_
  have index : ∀ {c : Nat} {z : Nat × CabRec},
      ((cab? s c).bind (fun r => if r.group = g then some (c, r) else none)) = some z → z.1 = c := by
    intro c z hz
    obtain ⟨r, -, made⟩ := Option.bind_eq_some_iff.mp hz
    split at made
    · cases made; rfl
    · cases made
  rw [index hx, index hy]
  exact lt

/-- The group rating is summed over the members. -/
theorem groupRating_eq (s : State) (g : Nat) :
    groupRating s g = ((members s g).map (fun c => ((cab? s c).map (·.rating)).getD 0)).sum := by
  rw [groupRating, members, List.map_map]
  congr 1
  refine List.map_congr_left fun x hx => ?_
  simp [(mem_memberRecs hx).1]

/-- A group with a member that leads has a lead with its record. -/
theorem exists_lead? {s : State} {g c : Nat} {r : CabRec} (record : cab? s c = some r) (group : r.group = g)
    (leads : r.lead = true) : ∃ c r, lead? s g = some (c, r) ∧ cab? s c = some r ∧ r.group = g ∧ r.lead = true := by
  have listed : (c, r) ∈ memberRecs s g :=
    List.mem_filterMap.mpr ⟨c, List.mem_range.mpr (cab?_lt record), by simp [record, group]⟩
  obtain ⟨x, found⟩ := Option.isSome_iff_exists.mp
    ((List.find?_isSome (p := fun m : Nat × CabRec => m.2.lead)).mpr ⟨(c, r), listed, leads⟩)
  have member := mem_memberRecs (List.mem_of_find?_eq_some found)
  exact ⟨x.1, x.2, found, member.1, member.2, List.find?_some (p := fun m : Nat × CabRec => m.2.lead) found⟩

/-! Start Supervision, a component at a time (R18). -/

section
variable (s : State)

theorem startSupervision_resp : (startSupervision s).resp = { s.resp with mode := .supervising } := by
  simp [startSupervision, supervisionNotice]

theorem startSupervision_insp :
    (startSupervision s).insp = { s.insp with records := resetRecords s.resp.limits } := by
  simp [startSupervision, supervisionNotice]

theorem startSupervision_cabs : (startSupervision s).cabs = startCabs s := by
  simp [startSupervision, supervisionNotice]

theorem startSupervision_strs : (startSupervision s).strs = startStrs s := by
  simp [startSupervision, supervisionNotice]

theorem startSupervision_alarm :
    (startSupervision s).alarm = (queueNotice .supervisionState [1] s).alarm :=
  queueNotice_alarm_congr _ _ (by simp) (by simp)

theorem startEffect_of_fault {s : State} (unconf : s.resp.mode = .unconfigured) {d : Nat}
    (fault : directoryFault s.resp.dir = some d) : startEffect s = (s, replyRefusedAt 5 .directory d) := by
  rw [startEffect, refuseIf_false _ _ _ (by simp [State.supervising, unconf])]
  simp only [fault]

theorem startEffect_of_pass {s : State} (unconf : s.resp.mode = .unconfigured) (pass : directoryFault s.resp.dir = none) :
    startEffect s = (startSupervision s, replyOk 5) := by
  rw [startEffect, refuseIf_false _ _ _ (by simp [State.supervising, unconf])]
  simp only [pass]

end

/-! The floor that a directory that passes gives. -/

section
variable {s : State} (sound : ∀ i, ¬Offends s.resp.dir i)
include sound

theorem cab?_startSupervision_iff (c : Nat) (r : CabRec) : cab? (startSupervision s) c = some r ↔
    c < 24 ∧ ∃ i e n, CabAt s.resp.dir i e n ∧ n.index = c ∧ r = startCabinet s.now e n := by
  rw [cab?, startSupervision_cabs]; exact startCabs_eq_some_iff sound c r

theorem str?_startSupervision_iff (k : Nat) (r : StrRec) : str? (startSupervision s) k = some r ↔
    k < 32 ∧ ∃ i e n, StrAt s.resp.dir i e n ∧ n.index = k ∧ r = startString s.now e n := by
  rw [str?, startSupervision_strs]; exact startStrs_eq_some_iff sound k r

/-- The members of a group are the cabinets of its entries. -/
theorem mem_members_startSupervision_iff (inRange : ∀ i e n, CabAt s.resp.dir i e n → n.index < 24) (g c : Nat) :
    c ∈ members (startSupervision s) g ↔ ∃ i e n, CabAt s.resp.dir i e n ∧ n.index = c ∧ n.group = g := by
  simp only [mem_members_iff, cab?_startSupervision_iff sound]
  constructor
  · rintro ⟨r, ⟨-, i, e, n, stands, index, rfl⟩, group⟩; exact ⟨i, e, n, stands, index, group⟩
  · rintro ⟨i, e, n, stands, rfl, group⟩; exact ⟨_, ⟨inRange i e n stands, i, e, n, stands, rfl, rfl⟩, group⟩

/-- A group with members has one lead. -/
theorem lead?_startSupervision (inRange : ∀ i e n, CabAt s.resp.dir i e n → n.index < 24) {g : Nat}
    (occupied : members (startSupervision s) g ≠ []) :
    ∃ c r, lead? (startSupervision s) g = some (c, r) ∧ cab? (startSupervision s) c = some r ∧ r.group = g ∧
      r.lead = true ∧ ∀ c' r', cab? (startSupervision s) c' = some r' → r'.group = g → r'.lead = true → c' = c := by
  obtain ⟨c₀, member⟩ := List.exists_mem_of_ne_nil _ occupied
  obtain ⟨i₀, e₀, n₀, stands₀, -, group₀⟩ := (mem_members_startSupervision_iff sound inRange g c₀).mp member
  obtain ⟨i, e, n, stands, group, leads⟩ := exists_lead_entry sound ⟨i₀, e₀, n₀, stands₀, group₀⟩
  have record := (cab?_startSupervision_iff sound n.index _).mpr ⟨inRange i e n stands, i, e, n, stands, rfl, rfl⟩
  obtain ⟨c, r, lead, found, inGroup, isLead⟩ := exists_lead? record group leads
  refine ⟨c, r, lead, found, inGroup, isLead, fun c' r' found' inGroup' isLead' => ?_⟩
  obtain ⟨-, j, x, m, standsC, rfl, rfl⟩ := (cab?_startSupervision_iff sound c r).mp found
  obtain ⟨-, j', x', m', standsC', rfl, rfl⟩ := (cab?_startSupervision_iff sound c' r').mp found'
  rw [lead_unique sound standsC standsC' (inGroup.trans inGroup'.symm) isLead isLead']

end

/-- Settles O48: the check finds the lowest entry that offends, and a directory without one gives each table place the
record of its one entry. -/
theorem startSupervisionChecksThenBuilds : Obligations.StartSupervisionChecksThenBuilds := by
  intro f s takes unconf u got cabAt strAt cabHolds strHolds offends refused
  have answer : got = .next (answered f (startEffect u).2 (startEffect u).1) := next_request_takes startEffect takes
  have unconf' : u.resp.mode = .unconfigured := unconf
  have refuses : ∀ d, directoryFault u.resp.dir = some d → got = refused d := fun d fault => by
    rw [answer, startEffect_of_fault unconf' fault]; rfl
  refine ⟨fun none_stands => refuses 255 (directoryFault_of_no_cabinet _ none_stands), fun stands => ⟨fun i off lowest =>
    refuses i (directoryFault_of_offends _ stands off lowest), fun sound => ?_⟩⟩
  intro start
  replace sound : ∀ i, ¬Offends u.resp.dir i := sound
  refine ⟨startSupervision u, ?_, startSupervision_resp u, ?_, ?_, ?_, ?_, ?_, ?_, ?_, (startSupervision_moves u).only, ?_⟩
  · rw [answer, startEffect_of_pass unconf' (directoryFault_of_sound _ stands sound)]; rfl
  · exact fun i e n at_i place => (cab?_startSupervision_iff sound _ _).mpr ⟨place, i, e, n, at_i, rfl, rfl⟩
  · refine fun c absent => Option.eq_none_iff_forall_ne_some.mpr fun r found => ?_
    obtain ⟨-, i, e, n, at_i, index, -⟩ := (cab?_startSupervision_iff sound c r).mp found
    exact absent i e n at_i index
  · exact fun i e n at_i place => (str?_startSupervision_iff sound _ _).mpr ⟨place, i, e, n, at_i, rfl, rfl⟩
  · refine fun k absent => Option.eq_none_iff_forall_ne_some.mpr fun r found => ?_
    obtain ⟨-, i, e, n, at_i, index, -⟩ := (str?_startSupervision_iff sound k r).mp found
    exact absent i e n at_i index
  · intro k e found
    rw [startSupervision_insp]
    exact resetRecords_getElem? found
  · rw [startSupervision_insp]; rfl
  · exact (startSupervision_alarm u).trans (queueNotice_alarm_congr _ _ rfl rfl)
  · intro inRange g
    refine ⟨members_pairwise_lt _ g, mem_members_startSupervision_iff sound inRange g,
      lead?_startSupervision sound inRange, groupRating_eq _ g, fun k place => ?_⟩
    have nodes : ∀ n, strNode? (startSupervision u) k = some n ↔ ∃ i e, StrAt u.resp.dir i e n ∧ n.index = k :=
      strNode?_eq_some_iff (by rw [startSupervision_resp]; exact sound) k
    simp only [mem_stringsOfGroup_iff, nodes, place, true_and]
    constructor
    · rintro ⟨n, ⟨i, e, at_i, index⟩, owner⟩; exact ⟨i, e, n, at_i, index, owner⟩
    · rintro ⟨i, e, n, at_i, index, owner⟩; exact ⟨n, ⟨i, e, at_i, index⟩, owner⟩

end Sys2Proof.Machine
end

section
/-! PROOF. The full resets and the reset line (R20, R175, R190): what each full reset leaves, and that nothing else moves
while the loop bridge is closed (log entry 12). -/

namespace Sys2Proof.Machine

theorem whenRunning_of_closed {s : State} (h : s.bridge = .closed) (f : State → State) : whenRunning f s = s :=
  if_neg (by simp [h])

/-- No command but power-on and the two of the reset line acts while the bridge is closed: every other one, a request too,
runs its act under `whenRunning`, and two take no frame of the kind that another command takes. -/
theorem exec_of_closed {i : Instr} {s : State} (closed : s.bridge = .closed) (noPower : i ≠ .powerOn)
    (noAssert : i ≠ .resetLineAsserted) (noRelease : i ≠ .resetLineReleased) : exec i s = .next s := by
  have waits : ∀ f, whenRunning f s = s := whenRunning_of_closed closed
  cases i with
  | powerOn => exact absurd rfl noPower
  | resetLineAsserted => exact absurd rfl noAssert
  | resetLineReleased => exact absurd rfl noRelease
  | acceptReplacementNew | resetTraffic =>
    exact congrArg Host.Outcome.next ((congrArg _ (waits _)).trans (ite_self s))
  | _ => exact congrArg Host.Outcome.next (waits _)

/-- Settles O3: each full reset is `fullReset` with the line and the bridge it leaves. -/
theorem resetsAndTheResetLine : Obligations.ResetsAndTheResetLine := by
  refine ⟨fun s => ⟨rfl, fun held => ?_, fun opened finished => ?_⟩, fun s => rfl, fun i s => exec_of_closed⟩
  · exact congrArg Host.Outcome.next (if_pos held)
  · exact congrArg Host.Outcome.next ((whenRunning_of_opened opened _).trans (if_pos finished))

end Sys2Proof.Machine
end

section
/-! PROOF. Write, Clear and Read Node Entry (R3, R4). -/

namespace Sys2Proof.Machine

/-! Clamping. -/

theorem clamped_snd_iff {lo hi : Nat} (h : lo ≤ hi) (v : Nat) : (clamped lo hi v).2 = true ↔ v < lo ∨ hi < v := by
  simp only [clamped, clamp, bne_iff_ne, ne_eq]
  omega

theorem clamp_zero (hi v : Nat) : clamp 0 hi v = min hi v := Nat.zero_max ..

/-! The role fields of a request (R2, R3). -/

theorem roleClamped_cabinet_iff (index group : Nat) (lead : Bool) (rating : Nat) (limit : Option Nat) :
    roleClamped (.cabinet index group lead rating limit) = true ↔ rating < 10 ∨ 1000 < rating ∨ 1000 < limit.getD 0 := by
  have given : limit.any (fun v => (clamped 0 1000 v).2) = true ↔ 1000 < limit.getD 0 := by
    cases limit with
    | none => simp
    | some v => simp [clamped_snd_iff]
  rw [roleClamped, Bool.or_eq_true, clamped_snd_iff (by omega), given, or_assoc]

theorem roleClamped_stringMonitor_iff (index owner blocks capacity : Nat) :
    roleClamped (.stringMonitor index owner blocks capacity) = true ↔ capacity < 1 ∨ 2000 < capacity :=
  clamped_snd_iff (by omega) capacity

/-- The role that a request stores and when a numeric field of it is clamped, for a role in its range (R2, R3). -/
def carriedRole : NodeRoleReq → Option (NodeRole × Prop)
  | .cabinet i g lead rating limit => if i < 24 ∧ g < 4 then
      some (.cabinet ⟨i, g, lead, max 10 (min 1000 rating), min 1000 (limit.getD 1000)⟩,
        rating < 10 ∨ 1000 < rating ∨ 1000 < limit.getD 0) else none
  | .stringMonitor i owner blocks capacity => if i < 32 ∧ owner < 24 ∧ 1 ≤ blocks ∧ blocks ≤ 40 then
      some (.stringMonitor ⟨i, owner, blocks, max 1 (min 2000 capacity)⟩, capacity < 1 ∨ 2000 < capacity) else none
  | .otherRole => none

theorem roleBad_of_carriedRole_none {r : NodeRoleReq} (h : carriedRole r = none) : roleBad r = true := by
  unfold carriedRole at h
  cases r with
  | cabinet i g lead rating limit =>
    have out : ¬(i < 24 ∧ g < 4) := by simpa using h
    simp only [roleBad, Bool.or_eq_true, decide_eq_true_eq]; omega
  | stringMonitor i owner blocks capacity =>
    have out : ¬(i < 32 ∧ owner < 24 ∧ 1 ≤ blocks ∧ blocks ≤ 40) := by simpa using h
    simp only [roleBad, Bool.or_eq_true, decide_eq_true_eq]; omega
  | otherRole => rfl

/-- A role in its range is stored clamped. -/
theorem storedRole_of_carriedRole {r : NodeRoleReq} {x : NodeRole} {cut : Prop} (h : carriedRole r = some (x, cut)) :
    roleBad r = false ∧ storedRole r = some x ∧ (roleClamped r = true ↔ cut) := by
  unfold carriedRole at h
  cases r with
  | cabinet i g lead rating limit =>
    dsimp only at h
    split at h
    next ok =>
      cases h
      exact ⟨by simp [roleBad, ok], by simp only [storedRole, clamp_zero]; rfl, roleClamped_cabinet_iff ..⟩
    · cases h
  | stringMonitor i owner blocks capacity =>
    dsimp only at h
    split at h
    next ok =>
      cases h
      exact ⟨by simp [roleBad, ok, Nat.one_le_iff_ne_zero.mp ok.2.2.1], rfl, roleClamped_stringMonitor_iff ..⟩
    · cases h
  | otherRole => cases h

/-- A request is accepted when the index and the address are in range and its role is one of the two, in range (R3). -/
theorem nodeBad_eq_false_iff (index : Nat) (r : NodeReq) :
    nodeBad index r = false ↔ (index < 56 ∧ 1 ≤ r.addr ∧ r.addr ≤ 239) ∧ roleBad r.role = false := by
  simp [nodeBad, and_assoc, Nat.one_le_iff_ne_zero]

theorem entryClamped_iff (r : NodeReq) : entryClamped r = true ↔ roleClamped r.role = true ∨ r.interval < 500 ∨
    60000 < r.interval ∨ r.missLimit < 1 ∨ 15 < r.missLimit := by
  rw [entryClamped, Bool.or_eq_true, Bool.or_eq_true, clamped_snd_iff (by omega), clamped_snd_iff (by omega)]
  tauto

/-! The effects. -/

theorem refuseIf_mode_of_unconfigured {s : State} (unconf : s.resp.mode = .unconfigured) (r : ManageReply)
    (rest : State → State × ManageReply) : refuseIf s.supervising r rest s = rest s :=
  refuseIf_false _ _ _ (by simp [State.supervising, unconf])

theorem writeNodeEffect_of_supervising (index : Nat) (r : NodeReq) {s : State} (sup : s.resp.mode = .supervising) :
    writeNodeEffect index r s = (s, replyRefused 2 .mode) :=
  refuseIf_true _ _ _ (by simp [State.supervising, sup])

theorem writeNodeEffect_of_bad {index : Nat} {r : NodeReq} {s : State} (unconf : s.resp.mode = .unconfigured)
    (bad : nodeBad index r = true) : writeNodeEffect index r s = (s, replyRefused 2 .badValue) :=
  (refuseIf_mode_of_unconfigured unconf _ _).trans (refuseIf_true _ _ _ bad)

theorem writeNodeEffect_of_good {index : Nat} {r : NodeReq} {s : State} (unconf : s.resp.mode = .unconfigured)
    (good : nodeBad index r = false) :
    writeNodeEffect index r s = (setDir index (storedEntry r) s, replyClamped 2 (entryClamped r)) :=
  (refuseIf_mode_of_unconfigured unconf _ _).trans (refuseIf_false _ _ _ good)

theorem clearNodeEffect_of_bad {index : Nat} {s : State} (unconf : s.resp.mode = .unconfigured) (bad : 56 ≤ index) :
    clearNodeEffect index s = (s, replyRefused 3 .badValue) :=
  (refuseIf_mode_of_unconfigured unconf _ _).trans (refuseIf_true _ _ _ (decide_eq_true bad))

theorem clearNodeEffect_of_good {index : Nat} {s : State} (unconf : s.resp.mode = .unconfigured) (good : index < 56) :
    clearNodeEffect index s = (setDir index none s, replyOk 3) :=
  (refuseIf_mode_of_unconfigured unconf _ _).trans (refuseIf_false _ _ _ (decide_eq_false (by omega)))

theorem readNodeEffect_of_bad {index : Nat} (s : State) (bad : 56 ≤ index) :
    readNodeEffect index s = (s, replyRefused 4 .badValue) := refuseIf_true _ _ _ (decide_eq_true bad)

theorem readNodeEffect_of_stands {index : Nat} {s : State} {e : Option DirEntry} (stands : s.resp.dir[index]? = some e) :
    readNodeEffect index s = (s, replyWith 4 (.nodeEntry e)) := by
  have place : index < 56 := by
    by_contra out
    rw [Vector.getElem?_eq_none (by omega)] at stands
    cases stands
  rw [readNodeEffect, refuseIf_false _ _ _ (decide_eq_false (by omega)), stands, Option.join_some]

/-- Settles O46: the model's tests and clamps are the ranges of R2, role by role. -/
theorem nodeEntriesAreWrittenClearedAndRead : Obligations.NodeEntriesAreWrittenClearedAndRead := by
  intro index r f s u held gives role inRange
  have carried : role = carriedRole r.role := rfl
  have mode : u.resp.mode = s.resp.mode := rfl
  refine ⟨fun takes sup => next_request_of_effect takes (writeNodeEffect_of_supervising index r (mode.trans sup)),
    fun takes unconf => ⟨fun bad => next_request_of_effect takes (writeNodeEffect_of_bad (mode.trans unconf) ?_),
      fun x cut ok given => ?_⟩,
    fun takes unconf => ⟨fun bad => next_request_of_effect takes (clearNodeEffect_of_bad (mode.trans unconf) bad),
      fun good => next_request_of_effect takes (clearNodeEffect_of_good (mode.trans unconf) good)⟩,
    fun takes => ⟨fun bad => next_request_of_effect takes (readNodeEffect_of_bad u bad),
      fun e stands => next_request_of_effect takes (readNodeEffect_of_stands stands)⟩⟩
  · rw [← Bool.not_eq_false, nodeBad_eq_false_iff]
    rintro ⟨ok, good⟩
    rcases bad with out | none_given
    · exact out ok
    · rw [roleBad_of_carriedRole_none (carried ▸ none_given)] at good; cases good
  · obtain ⟨good, stored, cuts⟩ := storedRole_of_carriedRole (carried ▸ given)
    have answer := next_request_of_effect takes
      (writeNodeEffect_of_good (mode.trans unconf) ((nodeBad_eq_false_iff index r).mpr ⟨ok, good⟩))
    have test := entryClamped_iff r
    rw [storedEntry, stored] at answer
    rw [cuts] at test
    intro clamped t
    refine ⟨fun hits => ?_, fun misses => ?_⟩
    · rw [test.mpr hits] at answer; exact answer
    · rw [Bool.eq_false_iff.mpr (mt test.mp misses)] at answer; exact answer

end Sys2Proof.Machine
end

section
/-! PROOF. The four reads of the floor's records (R15, R21, R68, R188). -/

namespace Sys2Proof.Machine

/-! The cabinet reserve (R15). -/

/-- The records of the strings that a cabinet owns. -/
theorem mem_ownedRecords_iff (s : State) (c : Nat) (x : StrRec) : x ∈ (stringsOf s c).filterMap (str? s) ↔
    ∃ k, str? s k = some x ∧ ∃ n, strNode? s k = some n ∧ n.owner = c := by
  simp only [stringsOf, List.mem_filterMap, List.mem_filter, List.mem_range, Option.any_eq_true, beq_iff_eq]
  constructor
  · rintro ⟨k, ⟨-, owner⟩, found⟩; exact ⟨k, found, owner⟩
  · rintro ⟨k, found, owner⟩; exact ⟨k, ⟨str?_lt found, owner⟩, found⟩

theorem cabReserve_eq_min? (s : State) (c : Nat) : cabReserve s c =
    ((((stringsOf s c).filterMap (str? s)).map StrRec.contribution).min?).getD 1000 := by
  unfold cabReserve
  split
  next none_owned => rw [none_owned]; rfl
  next x xs owned => rw [owned, List.min?_cons']; rfl

/-- The reserve of a cabinet is the least contribution of the strings it owns, and 1000 when it owns none. -/
theorem cabReserve_spec (s : State) (c : Nat) :
    let owned := fun (k : Nat) (r : StrRec) => str? s k = some r ∧ ∃ n, strNode? s k = some n ∧ n.owner = c
    ((∀ k x, ¬owned k x) → cabReserve s c = 1000) ∧ (∀ k x, owned k x → cabReserve s c ≤ x.contribution) ∧
      ((∃ k x, owned k x) → ∃ k x, owned k x ∧ cabReserve s c = x.contribution) := by
  intro owned
  have member : ∀ n, n ∈ ((stringsOf s c).filterMap (str? s)).map StrRec.contribution ↔
      ∃ k x, owned k x ∧ x.contribution = n := fun n => by
    simp only [List.mem_map, mem_ownedRecords_iff]
    constructor
    · rintro ⟨x, ⟨k, own⟩, eq⟩; exact ⟨k, x, own, eq⟩
    · rintro ⟨k, x, own, eq⟩; exact ⟨x, ⟨k, own⟩, eq⟩
  rw [cabReserve_eq_min?]
  cases least : (((stringsOf s c).filterMap (str? s)).map StrRec.contribution).min? with
  | none =>
    rw [List.min?_eq_none_iff] at least
    have none_owned : ∀ k x, ¬owned k x := fun k x own => by
      have listed := (member x.contribution).mpr ⟨k, x, own, rfl⟩
      rw [least] at listed; cases listed
    exact ⟨fun _ => rfl, fun k x own => absurd own (none_owned k x), fun ⟨k, x, own⟩ => absurd own (none_owned k x)⟩
  | some n =>
    obtain ⟨listed, below⟩ := List.min?_eq_some_iff.mp least
    obtain ⟨k₀, x₀, own₀, eq₀⟩ := (member n).mp listed
    exact ⟨fun none_owned => absurd own₀ (none_owned k₀ x₀),
      fun k x own => below _ ((member _).mpr ⟨k, x, own, rfl⟩), fun _ => ⟨k₀, x₀, own₀, eq₀.symm⟩⟩

/-! The checks that the reads share (R21). -/

theorem refuseIf_mode_of_supervising {s : State} (sup : s.resp.mode = .supervising) (r : ManageReply)
    (rest : State → State × ManageReply) : refuseIf (!s.supervising) r rest s = rest s :=
  refuseIf_false _ _ _ (by simp [State.supervising, sup])

section
variable {α : Type} (code : Nat) {index top : Nat} {rec? : State → Nat → Option α} (act : α → State → State × ManageReply)
  {s : State} (sup : s.resp.mode = .supervising)
include sup

theorem onRecord_of_out (out : top ≤ index) : onRecord code index top rec? act s = (s, replyRefused code .badValue) :=
  (refuseIf_mode_of_supervising sup _ _).trans (refuseIf_true _ _ _ (decide_eq_true out))

theorem onRecord_of_absent (place : index < top) (absent : rec? s index = none) :
    onRecord code index top rec? act s = (s, replyRefused code .notFound) := by
  refine (refuseIf_mode_of_supervising sup _ _).trans ((refuseIf_false _ _ _ (decide_eq_false (by omega))).trans ?_)
  simp only [absent]

theorem onRecord_of_found (place : index < top) {r : α} (found : rec? s index = some r) :
    onRecord code index top rec? act s = act r s := by
  refine (refuseIf_mode_of_supervising sup _ _).trans ((refuseIf_false _ _ _ (decide_eq_false (by omega))).trans ?_)
  simp only [found]

end

theorem firstBlockNever_iff (first : Nat) : firstBlockNever first = true ↔ first < 1 ∨ 40 < first := by
  rw [firstBlockNever, Bool.or_eq_true, decide_eq_true_eq, decide_eq_true_eq, maxBlocks]

theorem firstBlockBad_iff (r : StrRec) (first : Nat) :
    firstBlockBad r first = true ↔ first < 1 ∨ r.volts.length < first := by
  simp [firstBlockBad]

/-! Read String Blocks and Read String Ageing (R188). -/

section
variable {i first part : Nat} {s : State} (sup : s.resp.mode = .supervising)
include sup

theorem readBlocksEffect_of_never (never : first < 1 ∨ 40 < first) :
    readBlocksEffect i first s = (s, replyRefused 17 .badValue) :=
  (refuseIf_mode_of_supervising sup _ _).trans (refuseIf_true _ _ _ ((firstBlockNever_iff first).mpr never))

theorem readBlocksEffect_of_possible (possible : ¬(first < 1 ∨ 40 < first)) : readBlocksEffect i first s =
    onRecord 17 i 32 str? (fun r => refuseIf (firstBlockBad r first) (replyRefused 17 .badValue) (fun s =>
      (s, replyWith 17 (.blocks (replyBlocks first (r.volts.zip (r.ageing.baseline.zip r.ageing.rises))))))) s :=
  (refuseIf_mode_of_supervising sup _ _).trans
    (refuseIf_false _ _ _ (Bool.eq_false_iff.mpr (mt (firstBlockNever_iff first).mp possible)))

theorem readBlocksEffect_of_bad (bad : 32 ≤ i ∨ first < 1 ∨ 40 < first) :
    readBlocksEffect i first s = (s, replyRefused 17 .badValue) := by
  by_cases never : first < 1 ∨ 40 < first
  · exact readBlocksEffect_of_never sup never
  · exact (readBlocksEffect_of_possible sup never).trans (onRecord_of_out 17 _ sup (bad.resolve_right never))

theorem readBlocksEffect_of_beyond {r : StrRec} (found : str? s i = some r) (beyond : r.volts.length < first) :
    readBlocksEffect i first s = (s, replyRefused 17 .badValue) := by
  by_cases never : first < 1 ∨ 40 < first
  · exact readBlocksEffect_of_never sup never
  · exact (readBlocksEffect_of_possible sup never).trans ((onRecord_of_found 17 _ sup (str?_lt found) found).trans
      (refuseIf_true _ _ _ ((firstBlockBad_iff r first).mpr (.inr beyond))))

theorem readBlocksEffect_of_within {r : StrRec} (found : str? s i = some r) (possible : ¬(first < 1 ∨ 40 < first))
    (within : first ≤ r.volts.length) : readBlocksEffect i first s =
      (s, replyWith 17 (.blocks (replyBlocks first (r.volts.zip (r.ageing.baseline.zip r.ageing.rises))))) := by
  have good : firstBlockBad r first = false := by
    rw [← Bool.not_eq_true, firstBlockBad_iff]; omega
  exact (readBlocksEffect_of_possible sup possible).trans ((onRecord_of_found 17 _ sup (str?_lt found) found).trans
    (refuseIf_false _ _ _ good))

theorem readAgeingEffect_of_never (bad : (part ≠ 1 ∧ part ≠ 2) ∨ (part = 2 ∧ (first < 1 ∨ 40 < first))) :
    readAgeingEffect i part first s = (s, replyRefused 18 .badValue) := by
  refine (refuseIf_mode_of_supervising sup _ _).trans (refuseIf_true _ _ _ ?_)
  simpa [firstBlockNever_iff] using bad

theorem readAgeingEffect_of_possible (possible : part = 1 ∨ (part = 2 ∧ ¬(first < 1 ∨ 40 < first))) :
    readAgeingEffect i part first s =
    onRecord 18 i 32 str? (fun r => refuseIf (part == 2 && firstBlockBad r first) (replyRefused 18 .badValue) (fun s =>
      (s, replyWith 18 (if part = 1 then ageingRecordResult s r else ageingListsResult r first)))) s := by
  refine (refuseIf_mode_of_supervising sup _ _).trans (refuseIf_false _ _ _ ?_)
  rw [← Bool.not_eq_true, Bool.or_eq_true, Bool.and_eq_true, Bool.and_eq_true, firstBlockNever_iff]
  rcases possible with rfl | ⟨rfl, possible⟩
  · simp
  · simpa using possible

theorem readAgeingEffect_of_bad (bad : 32 ≤ i ∨ (part ≠ 1 ∧ part ≠ 2) ∨ (part = 2 ∧ (first < 1 ∨ 40 < first))) :
    readAgeingEffect i part first s = (s, replyRefused 18 .badValue) := by
  by_cases never : (part ≠ 1 ∧ part ≠ 2) ∨ (part = 2 ∧ (first < 1 ∨ 40 < first))
  · exact readAgeingEffect_of_never sup never
  · have possible : part = 1 ∨ (part = 2 ∧ ¬(first < 1 ∨ 40 < first)) := by tauto
    exact (readAgeingEffect_of_possible sup possible).trans (onRecord_of_out 18 _ sup (bad.resolve_right never))

theorem readAgeingEffect_record {r : StrRec} (found : str? s i = some r) :
    readAgeingEffect i 1 first s = (s, replyWith 18 (ageingRecordResult s r)) :=
  (readAgeingEffect_of_possible sup (.inl rfl)).trans (onRecord_of_found 18 _ sup (str?_lt found) found)

theorem readAgeingEffect_lists_of_beyond {r : StrRec} (found : str? s i = some r) (beyond : r.volts.length < first) :
    readAgeingEffect i 2 first s = (s, replyRefused 18 .badValue) := by
  by_cases never : first < 1 ∨ 40 < first
  · exact readAgeingEffect_of_never sup (.inr ⟨rfl, never⟩)
  · exact (readAgeingEffect_of_possible sup (.inr ⟨rfl, never⟩)).trans ((onRecord_of_found 18 _ sup (str?_lt found)
      found).trans (refuseIf_true _ _ _ ((firstBlockBad_iff r first).mpr (.inr beyond))))

theorem readAgeingEffect_lists_of_within {r : StrRec} (found : str? s i = some r) (possible : ¬(first < 1 ∨ 40 < first))
    (within : first ≤ r.volts.length) :
    readAgeingEffect i 2 first s = (s, replyWith 18 (ageingListsResult r first)) := by
  have good : firstBlockBad r first = false := by
    rw [← Bool.not_eq_true, firstBlockBad_iff]; omega
  exact (readAgeingEffect_of_possible sup (.inr ⟨rfl, possible⟩)).trans ((onRecord_of_found 18 _ sup (str?_lt found)
    found).trans (refuseIf_false _ _ _ good))

end

/-- The payload of the LISTS part, within 128 bytes, is its front and then the blocks (R188). -/
theorem ageingLists_payload (seq : Byte) {bs : List (Nat × Nat)} (h : bs.length ≤ 16) :
    (manageReplyFrame seq ⟨18, .ok, none, none, .ageingLists bs⟩).payload =
      [18, 1, 0] ++ (bs.map (fun b => bytes16 b.1 ++ (Config.riseBytes b.2).take openWidth)).flatten := by
  have fits := Result.ageingLists_bytes_length_le 18 125 h
  have all : ([18, 1, 0] ++ Result.bytes 18 125 (.ageingLists bs)).take 128 =
      [18, 1, 0] ++ Result.bytes 18 125 (.ageingLists bs) :=
    List.take_of_length_le (by simp only [List.length_append, List.length_cons, List.length_nil]; omega)
  exact all.trans (congrArg _ (List.flatMap_def ..))

/-- Settles O50: each read is its checks in order, and then the record as it stands; the payload of the LISTS part is laid
out in `ageingLists_payload`. -/
theorem recordReadsAnswerTheRecord : Obligations.RecordReadsAnswerTheRecord := by
  refine ⟨fun i first part f s sup => ?_, fun n => (Config.riseBytes n).take openWidth,
    fun n => List.length_take_le .., fun seq bs few => ageingLists_payload seq few⟩
  intro u gives refused left watchLeft owned never counts
  replace sup : u.resp.mode = .supervising := sup
  refine ⟨fun takes => ⟨fun out => ?_, fun place absent => ?_, fun r found => ⟨cabReserve u i, ?_, cabReserve_spec u i⟩⟩,
    fun takes => ⟨fun out => ?_, fun place absent => ?_, fun r found => ?_⟩,
    fun takes => ⟨fun bad => ?_, fun place possible absent => ?_, fun r found => ⟨fun beyond => ?_, fun possible within => ?_⟩⟩,
    fun takes => ⟨fun bad => ?_, fun place possible absent => ?_, fun r found => ⟨?_, ?_, ?_⟩⟩⟩
  · exact next_request_of_effect takes (onRecord_of_out 15 _ sup out)
  · exact next_request_of_effect takes (onRecord_of_absent 15 _ sup place absent)
  · exact next_request_of_effect takes (onRecord_of_found 15 _ sup (cab?_lt found) found)
  · exact next_request_of_effect takes (onRecord_of_out 16 _ sup out)
  · exact next_request_of_effect takes (onRecord_of_absent 16 _ sup place absent)
  · exact next_request_of_effect takes (onRecord_of_found 16 _ sup (str?_lt found) found)
  · exact next_request_of_effect takes (readBlocksEffect_of_bad sup bad)
  · exact next_request_of_effect takes
      ((readBlocksEffect_of_possible sup possible).trans (onRecord_of_absent 17 _ sup place absent))
  · exact next_request_of_effect takes (readBlocksEffect_of_beyond sup found beyond)
  · exact next_request_of_effect takes (readBlocksEffect_of_within sup found possible within)
  · exact next_request_of_effect takes (readAgeingEffect_of_bad sup bad)
  · exact next_request_of_effect takes
      ((readAgeingEffect_of_possible sup possible).trans (onRecord_of_absent 18 _ sup place absent))
  · rintro rfl
    exact next_request_of_effect takes (readAgeingEffect_record sup found)
  · rintro rfl beyond
    exact next_request_of_effect takes (readAgeingEffect_lists_of_beyond sup found beyond)
  · rintro rfl possible within
    exact next_request_of_effect takes (readAgeingEffect_lists_of_within sup found possible within)

end Sys2Proof.Machine
end

section
/-! PROOF. The limit records (R31 to R35): when a record trips and ends, what a write of one record leaves, and what a judged
value tells the Alarm Unit. -/

namespace Sys2Proof.Machine

/-! Beyond trip, the clear side, and the judgement of a record (R34, R35). -/

theorem LimitEntry.beyondTrip_iff (e : LimitEntry) (v : Int) :
    e.beyondTrip v = true ↔ (e.direction = .high ∧ e.trip ≤ v) ∨ (e.direction = .low ∧ v ≤ e.trip) := by
  cases h : e.direction <;> simp [LimitEntry.beyondTrip, h]

theorem LimitEntry.onClearSide_iff (e : LimitEntry) (v : Int) :
    e.onClearSide v = true ↔ (e.direction = .high ∧ v ≤ e.clear) ∨ (e.direction = .low ∧ e.clear ≤ v) := by
  cases h : e.direction <;> simp [LimitEntry.onClearSide, h]

theorem LimitEntry.judge_of_tripped (e : LimitEntry) (v : Int) {r : LimitRec} (tripped : r.tripped = true) :
    e.judge v r = if e.onClearSide v then ⟨0, false⟩ else r := if_pos tripped

theorem LimitEntry.judge_of_not_tripped (e : LimitEntry) (v : Int) {r : LimitRec} (ready : r.tripped = false) :
    e.judge v r = if e.beyondTrip v then ⟨satAdd 15 r.count 1, decide (e.persistence ≤ satAdd 15 r.count 1)⟩
      else ⟨0, false⟩ := if_neg (by simp [ready])

/-- The record of an entry after `n` consecutive values beyond trip, from a fresh one (R34). -/
def LimitEntry.afterBeyond (e : LimitEntry) (n : Nat) : LimitRec :=
  ⟨min n e.persistence, decide (e.persistence ≤ n)⟩

/-- One more value beyond trip counts until the persistence is reached, and then the record stays (R34, R35). -/
theorem LimitEntry.judge_afterBeyond {e : LimitEntry} {v : Int} (top : e.persistence ≤ 15) (beyond : e.beyondTrip v = true)
    (notClear : e.onClearSide v = false) (n : Nat) : e.judge v (e.afterBeyond n) = e.afterBeyond (n + 1) := by
  by_cases trips : e.persistence ≤ n
  · rw [judge_of_tripped e v (by simp [afterBeyond, trips]), notClear]
    simp [afterBeyond, trips, Nat.le_succ_of_le trips]
  · have below : min n e.persistence = n := by omega
    have count : satAdd 15 n 1 = n + 1 := by unfold satAdd; omega
    rw [judge_of_not_tripped e v (by simp [afterBeyond, trips]), beyond]
    simp only [afterBeyond, below, count, if_true, LimitRec.mk.injEq, and_true]
    omega

theorem LimitEntry.foldl_judge_afterBeyond {e : LimitEntry} (top : e.persistence ≤ 15) {vs : List Int}
    (beyond : ∀ v ∈ vs, e.beyondTrip v = true) (notClear : ∀ v ∈ vs, e.onClearSide v = false) (n : Nat) :
    vs.foldl (fun r v => e.judge v r) (e.afterBeyond n) = e.afterBeyond (n + vs.length) := by
  induction vs generalizing n with
  | nil => rfl
  | cons v vs ih =>
    obtain ⟨beyondHead, beyondTail⟩ := List.forall_mem_cons.mp beyond
    obtain ⟨clearHead, clearTail⟩ := List.forall_mem_cons.mp notClear
    rw [List.foldl_cons, judge_afterBeyond top beyondHead clearHead, ih beyondTail clearTail, List.length_cons]
    congr 1
    omega

theorem LimitEntry.foldl_judge_fresh {e : LimitEntry} (least : 1 ≤ e.persistence) (top : e.persistence ≤ 15)
    {vs : List Int} (beyond : ∀ v ∈ vs, e.beyondTrip v = true) (notClear : ∀ v ∈ vs, e.onClearSide v = false) :
    vs.foldl (fun r v => e.judge v r) ⟨0, false⟩ = e.afterBeyond vs.length := by
  have unreached : ¬e.persistence ≤ 0 := by omega
  have fresh : (⟨0, false⟩ : LimitRec) = e.afterBeyond 0 := by simp [afterBeyond, unreached]
  rw [fresh, foldl_judge_afterBeyond top beyond notClear, Nat.zero_add]

/-! The place of a subject's record (R32). -/

theorem LimitSubject.place_injective {x : LimitSubject} {i j a : Nat} (hi : x.place i = some a) (hj : x.place j = some a) :
    i = j := by
  cases x with
  | all => exact (Option.some.inj hi).trans (Option.some.inj hj).symm
  | one m =>
    simp only [LimitSubject.place, Option.ite_none_right_eq_some] at hi hj
    exact hi.1.trans hj.1.symm

/-- The subjects an entry covers are those of its measurement's kind at the indices of its subject field. -/
theorem LimitEntry.place_eq_some_iff (e : LimitEntry) (sub : Subject) (a : Nat) :
    e.place sub = some a ↔ ∃ i, sub = e.measurement.subject i ∧ e.subject.place i = some a := by
  cases kind : e.measurement.ofCabinet <;> cases sub <;> simp [LimitEntry.place, Measurement.subject, kind]

/-- An entry holds the records of two subjects at two places. -/
theorem LimitEntry.place_injective {e : LimitEntry} {x y : Subject} {a : Nat} (hx : e.place x = some a)
    (hy : e.place y = some a) : x = y := by
  obtain ⟨i, rfl, placeI⟩ := (e.place_eq_some_iff x a).mp hx
  obtain ⟨j, rfl, placeJ⟩ := (e.place_eq_some_iff y a).mp hy
  rw [LimitSubject.place_injective placeI placeJ]

/-! The records after a write (R32). -/

section
variable {s t : State} {k j : Nat}

theorem limit?_lt {e : LimitEntry} (h : limit? s k = some e) : k < 32 := join_lt h

theorem limit?_congr (h : t.resp = s.resp) : limit? t k = limit? s k := by simp only [limit?, h]

/-- The record of an entry for a subject is read from the entry's own list of records. -/
theorem limitRec?_congr (e : LimitEntry) (sub : Subject) (h : t.insp.records.getD k [] = s.insp.records.getD k []) :
    limitRec? t k e sub = limitRec? s k e sub := by simp only [limitRec?, h]

/-- The lists of a limit state array after a list is written. -/
theorem getD_setIfInBounds {α : Type} {n : Nat} (v : Vector α n) (i j : Nat) (x d : α) :
    (v.setIfInBounds i x).getD j d = if i = j ∧ i < n then x else v.getD j d := by
  simp only [Vector.getD, Vector.toArray_setIfInBounds, Array.getD_eq_getD_getElem?]
  rw [Array.getElem?_setIfInBounds]
  by_cases place : i = j
  · subst place
    by_cases inside : i < n <;> simp [inside]
  · simp [place]

/-- The record just written. -/
theorem limitRec?_setLimitRec_self {e : LimitEntry} {sub : Subject} {old : LimitRec} (new : LimitRec) (place : k < 32)
    (found : limitRec? s k e sub = some old) : limitRec? (setLimitRec k e sub new s) k e sub = some new := by
  obtain ⟨a, covers, found⟩ := Option.bind_eq_some_iff.mp found
  obtain ⟨inside, -⟩ := List.getElem?_eq_some_iff.mp found
  simp only [setLimitRec, limitRec?, covers, Option.bind_some, State.withInsp_insp, getD_setIfInBounds, place, and_self,
    if_true, List.getElem?_set_self inside]

/-- The records of another entry, and those of other subjects in the same entry, stay. -/
theorem limitRec?_setLimitRec_of_ne {e e' : LimitEntry} {sub sub' : Subject} (new : LimitRec) (same : k = j → e = e')
    (other : (j, sub') ≠ (k, sub)) : limitRec? (setLimitRec k e sub new s) j e' sub' = limitRec? s j e' sub' := by
  unfold setLimitRec
  split
  next a covers =>
    by_cases entry : k = j
    · obtain rfl := entry
      obtain rfl := same rfl
      have apart : ∀ b, e.place sub' = some b → a ≠ b := by
        rintro b coversToo rfl
        exact other (congrArg _ (LimitEntry.place_injective coversToo covers))
      simp only [limitRec?, State.withInsp_insp, getD_setIfInBounds, true_and]
      cases reads : e.place sub' with
      | none => rfl
      | some b => split <;> simp [List.getElem?_set_ne (apart b reads)]
    · exact limitRec?_congr e' sub' (by simp [getD_setIfInBounds, entry])
  next => rfl

/-- Whether an alarm is held elsewhere depends on the Limit Table and the records of the other entries alone. -/
theorem heldElsewhere_congr (resp : t.resp = s.resp)
    (records : ∀ j ≠ k, t.insp.records.getD j [] = s.insp.records.getD j []) (code : Nat) (sub : Subject) :
    heldElsewhere t k code sub = heldElsewhere s k code sub := by
  have sides : ∀ j ≠ k, ∀ e, limitRec? t j e sub = limitRec? s j e sub :=
    fun j other e => limitRec?_congr e sub (records j other)
  simp only [heldElsewhere, limit?_congr resp]
  congr 1
  funext j
  by_cases other : j = k
  · simp [other]
  · simp [sides j other]

/-- A write of an entry's own list of records changes no hold by other entries. -/
theorem heldElsewhere_writeRecords (s : State) (k code : Nat) (sub : Subject) (x : List LimitRec) :
    heldElsewhere (s.withInsp { s.insp with records := s.insp.records.setIfInBounds k x }) k code sub =
      heldElsewhere s k code sub := by
  refine heldElsewhere_congr ?_ (fun j other => ?_) code sub
  · rfl
  · simp [getD_setIfInBounds, other.symm]

theorem heldElsewhere_setLimitRec (e : LimitEntry) (sub sub' : Subject) (r : LimitRec) (code : Nat) :
    heldElsewhere (setLimitRec k e sub r s) k code sub' = heldElsewhere s k code sub' := by
  unfold setLimitRec
  split
  · exact heldElsewhere_writeRecords ..
  · rfl

theorem setLimitRec_only (e : LimitEntry) (sub : Subject) (r : LimitRec) : Only [.insp] s (setLimitRec k e sub r s) :=
  (setLimitRec_moves ..).only

theorem setLimitRec_quiet (e : LimitEntry) (sub : Subject) (r : LimitRec) :
    (setLimitRec k e sub r s).insp.quiet = s.insp.quiet := by
  unfold setLimitRec; split <;> rfl

end

/-! One record judged (R33 to R35). -/

section
variable {s : State} {k : Nat} {e : LimitEntry} {sub : Subject} {value : Measurement → Option Int}

/-- A free or disabled entry, or one that does not cover the subject, judges nothing. -/
theorem judgeLimit_of_no_record (value : Measurement → Option Int)
    (idle : ∀ e, limit? s k = some e → e.enabled = false ∨ limitRec? s k e sub = none) : judgeLimit sub value k s = s := by
  unfold judgeLimit
  split
  next e stands =>
    rcases idle e stands with disabled | absent
    · simp [disabled]
    · simp [absent]
  next => rfl

theorem judgeLimit_of_not_measured (stands : limit? s k = some e) (none : value e.measurement = none) :
    judgeLimit sub value k s = s := by
  simp only [judgeLimit, stands]
  split
  · split
    next measured => rw [none] at measured; cases measured
    next => rfl
  · rfl

theorem judgeLimit_of_measured {r : LimitRec} {v : Int} (stands : limit? s k = some e) (enabled : e.enabled = true)
    (found : limitRec? s k e sub = some r) (measured : value e.measurement = some v) :
    judgeLimit sub value k s = limitActs k e sub v r (e.judge v r) (setLimitRec k e sub (e.judge v r) s) := by
  simp only [judgeLimit, stands, enabled, found, measured, if_true]

/-- The acts at the Alarm Unit leave the limit state array and the quiet timer. -/
theorem limitActs_insp (v : Int) (before after : LimitRec) : (limitActs k e sub v before after s).insp = s.insp :=
  (limitActs_moves ..).only.same .insp (by decide)

theorem limitActs_of_same {before after : LimitRec} (v : Int) (same : before.tripped = after.tripped) :
    limitActs k e sub v before after s = s := if_pos same

theorem limitActs_of_trip {before after : LimitRec} (v : Int) (ready : before.tripped = false)
    (trips : after.tripped = true) : limitActs k e sub v before after s = raise e.code sub (some (detailInt v)) s := by
  simp [limitActs, ready, trips]

theorem limitActs_of_end {before after : LimitRec} (v : Int) (tripped : before.tripped = true)
    (ends : after.tripped = false) : limitActs k e sub v before after s = clearUnlessHeld k e.code sub s := by
  simp [limitActs, tripped, ends]

theorem clearUnlessHeld_of_held {code : Nat} (held : heldElsewhere s k code sub = true) :
    clearUnlessHeld k code sub s = s := if_pos held

theorem clearUnlessHeld_of_not_held {code : Nat} (free : heldElsewhere s k code sub = false) :
    clearUnlessHeld k code sub s = clear code sub s := if_neg (by simp [free])

end

/-! The values judged (R33). -/

theorem StrRec.mem_measuredVolts_iff (r : StrRec) (v : Nat) : v ∈ r.measuredVolts ↔ v ∈ r.volts ∧ v ≠ 65535 := by
  simp [measuredVolts, notMeasured]

theorem StrRec.measured_volts_of_bounds {r : StrRec} {least greatest : Nat}
    (hasLeast : least ∈ r.measuredVolts) (isLeast : ∀ v ∈ r.measuredVolts, least ≤ v)
    (hasGreatest : greatest ∈ r.measuredVolts) (isGreatest : ∀ v ∈ r.measuredVolts, v ≤ greatest) :
    r.measured .blockVMin = some (least : Int) ∧ r.measured .blockVMax = some (greatest : Int) ∧
      r.measured .blockVSpread = some ((greatest : Int) - least) := by
  have low : r.measuredVolts.min? = some least := List.min?_eq_some_iff.mpr ⟨hasLeast, isLeast⟩
  have high : r.measuredVolts.max? = some greatest := List.max?_eq_some_iff.mpr ⟨hasGreatest, isGreatest⟩
  simp [measured, low, high]

theorem StrRec.measured_volts_of_none {r : StrRec} (none : ∀ v, v ∉ r.measuredVolts) {m : Measurement}
    (isVolts : m ∈ [.blockVMin, .blockVMax, .blockVSpread]) : r.measured m = .none := by
  have empty : r.measuredVolts = [] := List.eq_nil_iff_forall_not_mem.mpr none
  simp only [List.mem_cons, List.not_mem_nil, or_false] at isVolts
  rcases isVolts with rfl | rfl | rfl <;> simp [measured, empty]

theorem greatestTemp_eq_some_iff (ts : List Int) (t : Int) :
    greatestTemp ts = some t ↔ (t ∈ ts ∧ t ≠ -32768) ∧ ∀ x, x ∈ ts ∧ x ≠ -32768 → x ≤ t := by
  simp [greatestTemp, List.max?_eq_some_iff, invalidTemp]

theorem greatestTemp_of_none_valid {ts : List Int} (none : ∀ t, ¬(t ∈ ts ∧ t ≠ -32768)) : greatestTemp ts = .none := by
  cases best : greatestTemp ts with
  | none => rfl
  | some t => exact absurd ((greatestTemp_eq_some_iff ts t).mp best).1 (none t)

/-! The parts of the statement. -/

/-- A judged record, the records beside it, and what the trip or its end tells the Alarm Unit (R33 to R35). -/
theorem judgeLimit_acts {s : State} {k : Nat} {e : LimitEntry} {sub : Subject} {r : LimitRec}
    {value : Measurement → Option Int} {v : Int} (stands : limit? s k = some e) (enabled : e.enabled = true)
    (found : limitRec? s k e sub = some r) (measured : value e.measurement = some v) :
    let u := judgeLimit sub value k s
    limitRec? u k e sub = some (e.judge v r) ∧ u.insp.quiet = s.insp.quiet ∧
      (∀ k' e' sub', limit? s k' = some e' → (k', sub') ≠ (k, sub) → limitRec? u k' e' sub' = limitRec? s k' e' sub') ∧
      (r.tripped = false → (e.judge v r).tripped = true → u.alarm = (raise e.code sub (some (detailInt v)) s).alarm) ∧
      (r.tripped = true → (e.judge v r).tripped = false →
        (heldElsewhere s k e.code sub = true → u.alarm = s.alarm) ∧
        (heldElsewhere s k e.code sub = false → u.alarm = (clear e.code sub s).alarm)) ∧
      (r.tripped = (e.judge v r).tripped → u.alarm = s.alarm) := by
  intro u
  have acts : u = limitActs k e sub v r (e.judge v r) (setLimitRec k e sub (e.judge v r) s) :=
    judgeLimit_of_measured stands enabled found measured
  obtain ⟨same⟩ : Only [.insp] s (setLimitRec k e sub (e.judge v r) s) := setLimitRec_only ..
  have alarm := same .alarm (by decide)
  have clock := same .clock (by decide)
  have visits := same .visits (by decide)
  have insp : u.insp = (setLimitRec k e sub (e.judge v r) s).insp := acts ▸ limitActs_insp ..
  have records : ∀ k' e' sub', limitRec? u k' e' sub' = limitRec? (setLimitRec k e sub (e.judge v r) s) k' e' sub' :=
    fun k' e' sub' => limitRec?_congr e' sub' (by rw [insp])
  refine ⟨?_, ?_, fun k' e' sub' stands' other => ?_, fun ready trips => ?_,
    fun tripped ends => ⟨fun held => ?_, fun free => ?_⟩, fun stays => ?_⟩
  · rw [records, limitRec?_setLimitRec_self _ (limit?_lt stands) found]
  · rw [insp, setLimitRec_quiet]
  · rw [records, limitRec?_setLimitRec_of_ne _ (fun entry => ?_) other]
    exact Option.some.inj ((stands.symm.trans (entry ▸ rfl)).trans stands')
  · rw [acts, limitActs_of_trip v ready trips]
    exact raise_alarm_congr _ _ _ alarm clock visits
  · rw [acts, limitActs_of_end v tripped ends, clearUnlessHeld_of_held (by rw [heldElsewhere_setLimitRec, held])]
    exact alarm
  · rw [acts, limitActs_of_end v tripped ends, clearUnlessHeld_of_not_held (by rw [heldElsewhere_setLimitRec, free])]
    exact clear_alarm_congr _ _ alarm clock
  · rw [acts, limitActs_of_same v stays]
    exact alarm

theorem CabRec.measured_values (r : CabRec) (m : Measurement) :
    r.measured .cabLoad = some r.load ∧ r.measured .cabInV = some r.inV ∧ r.measured .cabOutV = some r.outV ∧
      (r.temp ≠ -32768 → r.measured .cabTemp = some r.temp) ∧ (r.temp = -32768 → r.measured .cabTemp = none) ∧
      (m ∈ [.blockVMin, .blockVMax, .blockVSpread, .stringTemp] → r.measured m = none) := by
  refine ⟨rfl, rfl, rfl, fun valid => if_neg valid, fun invalid => if_pos invalid, fun ofString => ?_⟩
  simp only [List.mem_cons, List.not_mem_nil, or_false] at ofString
  rcases ofString with rfl | rfl | rfl | rfl <;> rfl

/-- Settles O16: `afterBeyond` counts a run of values, `judgeLimit_acts` says what one judged value does, and the values
judged are read off the stored fields. -/
theorem limitsTripAndReachTheAlarmUnit : Obligations.LimitsTripAndReachTheAlarmUnit := by
  refine ⟨fun e v => ⟨e.beyondTrip_iff v, e.onClearSide_iff v⟩, fun e least top => ⟨?_, ?_, ?_, ?_⟩,
    fun s k e sub r value stands enabled found => ⟨?_, fun v measured => ?_⟩,
    fun s k sub value => ⟨judgeLimit_of_no_record value, rfl⟩, CabRec.measured_values, fun r m => ?_⟩
  · exact fun vs beyond notClear => LimitEntry.foldl_judge_fresh least top beyond notClear
  · intro v r ready inside
    rw [LimitEntry.judge_of_not_tripped e v ready, inside]; rfl
  · intro v r tripped stays
    rw [LimitEntry.judge_of_tripped e v tripped, stays]; rfl
  · intro v r tripped clears
    rw [LimitEntry.judge_of_tripped e v tripped, clears]; rfl
  · exact judgeLimit_of_not_measured stands
  · intro u held
    have test : heldElsewhere s k e.code sub = true ↔ held := heldElsewhere_iff ..
    obtain ⟨record, quiet, others, trip, ends, stays⟩ := judgeLimit_acts stands enabled found measured
    exact ⟨record, (judgeLimit_moves ..).only, quiet, others, trip, fun tripped clears =>
      ⟨fun isHeld => (ends tripped clears).1 (test.mpr isHeld),
        fun isFree => (ends tripped clears).2 (Bool.eq_false_iff.mpr (mt test.mp isFree))⟩, stays⟩
  · intro read valid
    have isRead : ∀ v, v ∈ r.measuredVolts ↔ read v := r.mem_measuredVolts_iff
    have greatest : ∀ t, greatestTemp r.temps = some t ↔ valid t ∧ ∀ x, valid x → x ≤ t :=
      greatestTemp_eq_some_iff r.temps
    refine ⟨fun low high hasLow isLow hasHigh isHigh => ?_, fun unread => ?_, fun t isValid isGreatest => ?_,
      fun invalid => ?_, fun ofCabinet => ?_⟩
    · exact StrRec.measured_volts_of_bounds ((isRead low).mpr hasLow) (fun v h => isLow v ((isRead v).mp h))
        ((isRead high).mpr hasHigh) (fun v h => isHigh v ((isRead v).mp h))
    · exact StrRec.measured_volts_of_none fun v => mt (isRead v).mp (unread v)
    · simp only [StrRec.measured, (greatest t).mpr ⟨isValid, isGreatest⟩]; rfl
    · simp only [StrRec.measured, greatestTemp_of_none_valid invalid, Option.map_none]
    · simp only [List.mem_cons, List.not_mem_nil, or_false] at ofCabinet
      rcases ofCabinet with rfl | rfl | rfl | rfl <;> rfl

end Sys2Proof.Machine
end

section
/-! PROOF. Write Limit Entry (R31 to R33, R36): the checks, the clears of the old entry's alarms, and the entry stored. -/

namespace Sys2Proof.Machine

/-! The checks (R31). -/

theorem Measurement.ofCabinet_iff (m : Measurement) :
    m.ofCabinet = true ↔ m ∈ [.cabLoad, .cabInV, .cabOutV, .cabTemp] := by
  cases m <;> decide

/-- The clamped entry is ordered as its direction demands. -/
theorem LimitEntry.ordered_iff (e : LimitEntry) : e.ordered = true ↔
    (e.direction = .high ∧ e.clear < e.trip) ∨ (e.direction = .low ∧ e.trip < e.clear) := by
  cases h : e.direction <;> simp [LimitEntry.ordered, h]

theorem limitSubjectBad_iff (m : Measurement) (n : Nat) :
    limitSubjectBad m (limitSubjectOfCode n) = true ↔ ¬(n = 255 ∨ n < m.indices) := by
  unfold limitSubjectOfCode
  split <;> simp_all [limitSubjectBad]

theorem limitBad_iff (k : Nat) (m : Measurement) (r : LimitReq) : limitBad k m r = true ↔
    32 ≤ k ∨ ¬(r.subject = 255 ∨ r.subject < m.indices) ∨ r.code < 32 ∨ 63 < r.code := by
  simp only [limitBad, Bool.or_eq_true, decide_eq_true_eq, limitSubjectBad_iff, or_assoc]

theorem limitClamped_iff (e : LimitEntry) (r : LimitReq) : limitClamped e r = true ↔
    e.trip ≠ r.trip ∨ e.clear ≠ r.clear ∨ e.persistence ≠ r.persistence := by
  simp only [limitClamped, Bool.or_eq_true, bne_iff_ne, or_assoc]

theorem limitEntryOf_freshRecords (m : Measurement) (d : Direction) (r : LimitReq) :
    (limitEntryOf m d r).freshRecords = List.replicate (if r.subject = 255 then m.indices else 1) ⟨0, false⟩ := by
  by_cases all : r.subject = 255 <;> simp [LimitEntry.freshRecords, limitEntryOf, limitSubjectOfCode, all]

section
variable {k : Nat} {r : LimitReq} {m : Measurement} {d : Direction} (s : State)

theorem writeLimitEffect_of_unknown
    (unknown : Measurement.ofCode r.measurement = none ∨ Direction.ofCode r.direction = none) :
    writeLimitEffect k r s = (s, replyRefused 8 .badValue) := by
  unfold writeLimitEffect
  split
  next m d hm hd => simp [hm, hd] at unknown
  next => rfl

theorem writeLimitEffect_of_codes (hm : Measurement.ofCode r.measurement = some m)
    (hd : Direction.ofCode r.direction = some d) : writeLimitEffect k r s =
      refuseIf (limitBad k m r || !(limitEntryOf m d r).ordered) (replyRefused 8 .badValue)
        (fun s => (storeLimit k (limitEntryOf m d r) (releaseLimit k s),
          replyClamped 8 (limitClamped (limitEntryOf m d r) r))) s := by
  simp only [writeLimitEffect, hm, hd]

theorem writeLimitEffect_of_bad (bad : 32 ≤ k ∨ Measurement.ofCode r.measurement = none ∨
    Direction.ofCode r.direction = none ∨ r.code < 32 ∨ 63 < r.code) :
    writeLimitEffect k r s = (s, replyRefused 8 .badValue) := by
  cases hm : Measurement.ofCode r.measurement with
  | none => exact writeLimitEffect_of_unknown s (.inl hm)
  | some m =>
    cases hd : Direction.ofCode r.direction with
    | none => exact writeLimitEffect_of_unknown s (.inr hd)
    | some d =>
      rw [writeLimitEffect_of_codes s hm hd, refuseIf_true]
      rw [Bool.or_eq_true, limitBad_iff]
      simp only [hm, hd, reduceCtorEq, false_or] at bad
      tauto

end

/-! The old entry's alarms (R36). -/

/-- The clears of a run of alarms: those that another entry holds are left out, and a clear changes no hold. -/
theorem foldl_clearUnlessHeld (k code : Nat) (subs : List Subject) (s : State) :
    subs.foldl (fun s sub => clearUnlessHeld k code sub s) s =
      (subs.filter (fun sub => !heldElsewhere s k code sub)).foldl (fun s sub => clear code sub s) s := by
  have kept : ∀ sub (t : State), heldElsewhere (clear code sub t) k code = heldElsewhere t k code := fun sub t =>
    funext fun x => heldElsewhere_congr rfl (fun _ _ => rfl) code x
  induction subs generalizing s with
  | nil => rfl
  | cons sub subs ih =>
    rw [List.foldl_cons, ih, List.filter_cons]
    cases held : heldElsewhere s k code sub with
    | true => simp [clearUnlessHeld_of_held held]
    | false => simp [clearUnlessHeld_of_not_held held, kept]

/-- A run of clears reads nothing of a state but its alarms and its clock. -/
theorem foldl_clear_alarm_congr (code : Nat) (subs : List Subject) {s t : State} (alarm : t.alarm = s.alarm)
    (clock : t.clock = s.clock) : (subs.foldl (fun x sub => clear code sub x) t).alarm =
      (subs.foldl (fun x sub => clear code sub x) s).alarm := by
  induction subs generalizing s t with
  | nil => exact alarm
  | cons sub subs ih => exact ih (clear_alarm_congr code sub alarm clock) clock

section
variable (s : State) (k : Nat)

theorem releaseLimit_of_free (free : limit? s k = none) : releaseLimit k s = s := by simp only [releaseLimit, free]

/-- The indices of the alarms that the old entry alone holds, ascending. -/
def heldAlone (e : LimitEntry) : List Nat :=
  (List.range e.measurement.indices).filter (fun i =>
    !heldElsewhere s k e.code (e.measurement.subject i) && (limitRec? s k e (e.measurement.subject i)).any (·.tripped))

theorem heldAlone_pairwise_lt (e : LimitEntry) : (heldAlone s k e).Pairwise (· < ·) :=
  List.pairwise_lt_range.filter _

theorem mem_heldAlone_iff (e : LimitEntry) (i : Nat) : i ∈ heldAlone s k e ↔ i < e.measurement.indices ∧
    (∃ y, limitRec? s k e (e.measurement.subject i) = some y ∧ y.tripped = true) ∧
      ¬heldElsewhere s k e.code (e.measurement.subject i) = true := by
  simp [heldAlone, Option.any_eq_true, and_comm]

theorem releaseLimit_alarm {e : LimitEntry} (stands : limit? s k = some e) : (releaseLimit k s).alarm =
    ((heldAlone s k e).foldl (fun x i => clear e.code (e.measurement.subject i) x) s).alarm := by
  have subjects : (trippedSubjects s k e).filter (fun sub => !heldElsewhere s k e.code sub) =
      (heldAlone s k e).map e.measurement.subject := by
    simp only [trippedSubjects, List.filter_map, List.filter_filter, heldAlone, Function.comp_def]
  simp only [releaseLimit, stands, foldl_clearUnlessHeld, heldElsewhere_writeRecords, subjects]
  rw [foldl_clear_alarm_congr (s := s) _ _ (by rfl) (by rfl), List.foldl_map]

/-- The old records are gone once new ones are written over them. -/
theorem releaseLimit_insp (x : List LimitRec) : (releaseLimit k s).insp.quiet = s.insp.quiet ∧
    (releaseLimit k s).insp.records.setIfInBounds k x = s.insp.records.setIfInBounds k x := by
  unfold releaseLimit
  split
  next e stands =>
    have cleared := (Moves.foldl (fs := [.alarm]) (fun t sub => clearUnlessHeld_moves k e.code sub t)
      (trippedSubjects s k e) (s.withInsp { s.insp with records := s.insp.records.setIfInBounds k [] })).only.same .insp (by decide)
    rw [cleared]
    exact ⟨rfl, Vector.setIfInBounds_setIfInBounds ..⟩
  next => exact ⟨rfl, rfl⟩

/-- What stands when the new entry is stored. -/
theorem storeLimit_releaseLimit (e : LimitEntry) :
    let t := storeLimit k e (releaseLimit k s)
    t.resp = { s.resp with limits := s.resp.limits.setIfInBounds k (some e) } ∧ t.insp.quiet = s.insp.quiet ∧
      t.insp.records = s.insp.records.setIfInBounds k e.freshRecords ∧ t.alarm = (releaseLimit k s).alarm ∧
      Only [.resp, .insp, .alarm] s t := by
  have resp : (releaseLimit k s).resp = s.resp := (releaseLimit_moves k s).only.same .resp (by decide)
  obtain ⟨quiet, records⟩ := releaseLimit_insp s k e.freshRecords
  refine ⟨?_, quiet, records, rfl, ((releaseLimit_moves k s).mono (by decide)).only.trans
    ((storeLimit_moves ..).mono (by decide)).only⟩
  change { (releaseLimit k s).resp with limits := (releaseLimit k s).resp.limits.setIfInBounds k (some e) } = _
  rw [resp]

end

/-- Settles O53: the request stores `limitEntryOf` behind `releaseLimit`, whose clears are those of `heldAlone`. -/
theorem writeLimitEntryReplacesTheEntry : Obligations.WriteLimitEntryReplacesTheEntry := by
  intro k r f s takes u got refused
  refine ⟨fun bad => next_request_of_effect takes (writeLimitEffect_of_bad u bad), ?_⟩
  intro m d place codeLow codeHigh hm hd ofCabinet range indices known trip clearAt persistence ordered e status
  have isEntry : limitEntryOf m d r = e := by cases m <;> rfl
  have isIndices : m.indices = indices := by cases m <;> rfl
  have isOrdered : (limitEntryOf m d r).ordered = true ↔ ordered := by rw [isEntry, LimitEntry.ordered_iff]
  have isBad : (limitBad k m r || !(limitEntryOf m d r).ordered) = true ↔ ¬known ∨ ¬ordered := by
    rw [Bool.or_eq_true, limitBad_iff, isIndices, Bool.not_eq_true', ← Bool.not_eq_true, isOrdered]
    simp only [Nat.not_le.mpr place, Nat.not_lt.mpr codeLow, Nat.not_lt.mpr codeHigh, false_or, or_false]
    exact Iff.rfl
  have isStatus : (if limitClamped (limitEntryOf m d r) r then Status.okClamped else .ok) = status := by
    simp only [limitClamped_iff, isEntry]
    rfl
  refine ⟨fun fails => ?_, fun isKnown isInOrder => ⟨storeLimit k e (releaseLimit k u), ?_, ?_⟩⟩
  · exact next_request_of_effect takes
      ((writeLimitEffect_of_codes u hm hd).trans (refuseIf_true _ _ _ (isBad.mpr fails)))
  · have good : (limitBad k m r || !(limitEntryOf m d r).ordered) = false :=
      Bool.eq_false_iff.mpr fun bad => (isBad.mp bad).elim (· isKnown) (· isInOrder)
    refine next_request_of_effect takes ((writeLimitEffect_of_codes u hm hd).trans ((refuseIf_false _ _ _ good).trans ?_))
    rw [replyClamped, isStatus, isEntry]
  · obtain ⟨resp, quiet, records, alarm, only⟩ := storeLimit_releaseLimit u k e
    refine ⟨resp, quiet, records.trans ?_, fun free => ?_, fun old stands => ?_, only⟩
    · rw [← isEntry, limitEntryOf_freshRecords, isIndices]; rfl
    · rw [alarm, releaseLimit_of_free u k free]; rfl
    · intro cabinetOld subject tripped held is ascending members
      have isSubject : old.measurement.subject = subject := by
        funext i
        simp only [Measurement.subject, Measurement.ofCabinet_iff]
        rfl
      have isPlaces : old.measurement.indices = if cabinetOld then 24 else 32 := by
        simp only [Measurement.indices, Measurement.ofCabinet_iff]
        rfl
      have isList : is = heldAlone u k old :=
        ascending.eq_of_mem_iff (heldAlone_pairwise_lt u k old) fun i => by
          rw [members, mem_heldAlone_iff, isSubject, isPlaces, heldElsewhere_iff]
          rfl
      rw [alarm, releaseLimit_alarm u k stands, ← isList, isSubject, ← List.foldl_map (f := subject)
        (g := fun x sub => clear old.code sub x), foldl_clear_alarm_congr (s := s) _ _ (by rfl) (by rfl), List.foldl_map]

end Sys2Proof.Machine
end

section
/-! PROOF. The Report Inspector's tests and timers (R22 to R25, R27, R69): a report taken from the Port F inbound queue, what
a report that fails a test raises, and what an expiry does. -/

namespace Sys2Proof.Machine

/-! A frame taken (R22, R169). -/

/-- A frame that stands at the head of an inbound queue is handed to its block, without its place in the queue. -/
theorem takeHead_of_head {p : Port} {f : Frame} {s : State} {ready : State → Frame → Bool} (act : Frame → State → State)
    (heads : Heads p f s) (isReady : ready s f = true) : takeHead p ready act s = act f (dropHead p s) := by
  obtain ⟨-, idle, head⟩ := heads
  obtain ⟨rest, queue⟩ := List.head?_eq_some_iff.mp head
  simp [takeHead, queue, State.takesFrames, idle, isReady]

theorem dropHead_f_eq (s : State) : dropHead .f s = s.withPortF { s.portF with inq := s.portF.inq.tail } := by
  rw [← List.drop_one]; rfl

/-- A report that the Inspector may take is inspected, and then placed in the Port S forward queue. -/
theorem exec_reportInspection {f : Frame} {s : State} (h : ReportAtHead f s) :
    exec .reportInspection s = .next (enqueueForward .s f (inspect f (dropHead .f s))) := by
  obtain ⟨heads, sup, report, room⟩ := h
  have ready : inspectorReady s f = true := by
    simp [inspectorReady, State.supervising, sup, report, forwardRoom, State.port, room]
  exact congrArg Host.Outcome.next ((whenRunning_of_opened heads.1 _).trans (takeHead_of_head _ heads ready))

/-! The tests of a report (R23 to R25). -/

section
variable {f : Frame} {s : State} {e : DirEntry}

theorem inspect_of_no_entry (free : nodeAt? s f.src.toNat = none) : inspect f s = unexpectedNode f.src s := by
  simp only [inspect, free]

theorem inspect_of_cabinet {n : CabNode} (node : nodeAt? s f.src.toNat = some e) (role : e.role = .cabinet n) :
    inspect f s = inspectCabinet f e n s := by
  simp only [inspect, node, role]

theorem inspect_of_string {n : StrNode} (node : nodeAt? s f.src.toNat = some e) (role : e.role = .stringMonitor n) :
    inspect f s = inspectString f e n s := by
  simp only [inspect, node, role]

theorem inspectCabinet_of_bad_form (n : CabNode) (bad : parseCabReport f.payload = none) :
    inspectCabinet f e n s = unexpectedNode f.src s := by
  simp only [inspectCabinet, bad]

theorem inspectCabinet_of_accepted {n : CabNode} {r : CabRec} {p : CabReport} (form : parseCabReport f.payload = some p)
    (record : cab? s n.index = some r) : inspectCabinet f e n s = acceptCabinet e n.index r p s := by
  simp only [inspectCabinet, form, record]

theorem inspectString_of_bad_form (n : StrNode) {c : StringConfigCause} {blocks : Nat}
    (bad : parseStrReport f.payload = .error (c, blocks)) : inspectString f e n s = configMismatch n.index c blocks s := by
  simp only [inspectString, bad]

theorem inspectString_of_bad_blocks {n : StrNode} {p : StrReport} (form : parseStrReport f.payload = .ok p)
    (bad : p.blocks ≠ n.blocks) : inspectString f e n s = configMismatch n.index .blocks p.blocks s := by
  simp only [inspectString, form, if_neg bad]

theorem inspectString_of_accepted {n : StrNode} {r : StrRec} {p : StrReport} (form : parseStrReport f.payload = .ok p)
    (blocks : p.blocks = n.blocks) (record : str? s n.index = some r) :
    inspectString f e n s = acceptString e n.index r p s := by
  simp only [inspectString, form, if_pos blocks, record]

end

/-- What a failed test does is done beside the queues: the report passes on unchanged. -/
theorem unexpectedNode_passedUp (f : Frame) (s : State) :
    enqueueForward .s f (unexpectedNode f.src (dropHead .f s)) = passedUp f s (unexpectedNode f.src s) := by
  rw [dropHead_f_eq]; rfl

theorem configMismatch_passedUp (f : Frame) (i : Nat) (c : StringConfigCause) (blocks : Nat) (s : State) :
    enqueueForward .s f (configMismatch i c blocks (dropHead .f s)) = passedUp f s (configMismatch i c blocks s) := by
  rw [dropHead_f_eq]; rfl

/-! Expiries (R24, R27, R69). -/

theorem timerDue_of_runOut {t : Option Timer} {w : Timer} {s : State} (runs : t = some w) (out : RunOut w s) :
    timerDue t s.clock.ms = true := by
  subst runs
  exact decide_eq_true out

theorem TimeBase.afterSilence_eq (b : TimeBase) : b.afterSilence = if b = .valid then .broken else b := by
  cases b <;> rfl

theorem watchExpires_cabinet {s : State} {c : Nat} {r : CabRec} {w : Timer} (record : cab? s c = some r)
    (runs : r.watch = some w) (out : RunOut w s) : watchExpires (.cabinet c) s = cabinetFallsSilent c r s := by
  simp only [watchExpires, record, State.now, timerDue_of_runOut runs out, if_true]

theorem watchExpires_string {s : State} {i : Nat} {r : StrRec} {w : Timer} (record : str? s i = some r)
    (runs : r.watch = some w) (out : RunOut w s) : watchExpires (.string i) s = stringFallsSilent i r s := by
  simp only [watchExpires, record, State.now, timerDue_of_runOut runs out, if_true]

/-- Settles O15: the branch of `inspect` that each failed test takes, and the act of each expiry. -/
theorem failingReportsAndInspectorTimers : Obligations.FailingReportsAndInspectorTimers := by
  refine ⟨fun f s atHead => ?_, fun s opened => ⟨fun c r w record runs out => ?_,
    fun i r w record runs out => ?_⟩, fun s w opened runs out => ?_⟩
  · intro quiet unexpected mismatch got
    have taken : got = .next (enqueueForward .s f (inspect f (dropHead .f s))) := exec_reportInspection atHead
    refine ⟨fun free => ?_, fun e n node role bad => ?_, fun e n cause blocks node role bad => ?_,
      fun e n p node role form bad => ?_⟩
    · rw [taken, inspect_of_no_entry (s := dropHead .f s) free, unexpectedNode_passedUp]; rfl
    · rw [taken, inspect_of_cabinet (s := dropHead .f s) node role, inspectCabinet_of_bad_form n bad,
        unexpectedNode_passedUp]
      rfl
    · rw [taken, inspect_of_string (s := dropHead .f s) node role, inspectString_of_bad_form n bad,
        configMismatch_passedUp]
      rfl
    · rw [taken, inspect_of_string (s := dropHead .f s) node role, inspectString_of_bad_blocks form bad,
        configMismatch_passedUp]
      rfl
  · refine congrArg Host.Outcome.next ((whenRunning_of_opened opened _).trans ?_)
    rw [watchExpires_cabinet record runs out]; rfl
  · refine congrArg Host.Outcome.next ((whenRunning_of_opened opened _).trans ?_)
    rw [watchExpires_string record runs out, stringFallsSilent, TimeBase.afterSilence_eq]; rfl
  · exact congrArg Host.Outcome.next ((whenRunning_of_opened opened _).trans (if_pos (timerDue_of_runOut runs out)))

end Sys2Proof.Machine
end

section
/-! PROOF. An accepted report (R26 to R43): what the limits and the Alarm Unit see of a report does not depend on the tables,
queues and hand-offs it fills, so each act of a report is followed beside the act the statement names. -/

namespace Sys2Proof.Machine

/-! Two states that the limits and the Alarm Unit cannot tell apart. -/

/-- Two states hold the same in every component that an act at the Alarm Unit or a judgement of the limits reads or
writes. -/
structure AlarmsAgree (s t : State) : Prop where
  alarm : t.alarm = s.alarm
  insp : t.insp = s.insp
  resp : t.resp = s.resp
  clock : t.clock = s.clock
  visits : t.visits = s.visits

theorem AlarmsAgree.trans {s t u : State} (h : AlarmsAgree s t) (k : AlarmsAgree t u) : AlarmsAgree s u :=
  ⟨k.alarm.trans h.alarm, k.insp.trans h.insp, k.resp.trans h.resp, k.clock.trans h.clock, k.visits.trans h.visits⟩

/-- A change of other components leaves two such states. -/
theorem Moves.alarmsAgree {fs : List Field} {s t : State} (h : Moves fs s t)
    (apart : ∀ f ∈ [Field.alarm, .insp, .resp, .clock, .visits], f ∉ fs) : AlarmsAgree s t :=
  ⟨h.only.same .alarm (apart _ (by decide)), h.only.same .insp (apart _ (by decide)),
    h.only.same .resp (apart _ (by decide)), h.only.same .clock (apart _ (by decide)), h.only.same .visits (apart _ (by decide))⟩

namespace AlarmsAgree

variable {s t : State} (h : AlarmsAgree s t)
include h

theorem raise (code : Nat) (sub : Subject) (d : Option Word32) :
    AlarmsAgree (Machine.raise code sub d s) (Machine.raise code sub d t) :=
  ⟨raise_alarm_congr code sub d h.alarm h.clock h.visits, h.insp, h.resp, h.clock, h.visits⟩

theorem clear (code : Nat) (sub : Subject) : AlarmsAgree (Machine.clear code sub s) (Machine.clear code sub t) :=
  ⟨clear_alarm_congr code sub h.alarm h.clock, h.insp, h.resp, h.clock, h.visits⟩

theorem clearUnlessHeld (k code : Nat) (sub : Subject) :
    AlarmsAgree (Machine.clearUnlessHeld k code sub s) (Machine.clearUnlessHeld k code sub t) := by
  have held : heldElsewhere t k code sub = heldElsewhere s k code sub :=
    heldElsewhere_congr h.resp (fun _ _ => by rw [h.insp]) code sub
  unfold Machine.clearUnlessHeld
  rw [held]
  split
  · exact h
  · exact h.clear code sub

theorem setLimitRec (k : Nat) (e : LimitEntry) (sub : Subject) (r : LimitRec) :
    AlarmsAgree (Machine.setLimitRec k e sub r s) (Machine.setLimitRec k e sub r t) := by
  unfold Machine.setLimitRec
  rw [h.insp]
  split
  · exact ⟨h.alarm, rfl, h.resp, h.clock, h.visits⟩
  · exact h

theorem limitActs (k : Nat) (e : LimitEntry) (sub : Subject) (v : Int) (before after : LimitRec) :
    AlarmsAgree (Machine.limitActs k e sub v before after s) (Machine.limitActs k e sub v before after t) := by
  unfold Machine.limitActs
  split
  · exact h
  · split
    · exact h.raise ..
    · exact h.clearUnlessHeld ..

theorem judgeLimit (sub : Subject) (value : Measurement → Option Int) (k : Nat) :
    AlarmsAgree (Machine.judgeLimit sub value k s) (Machine.judgeLimit sub value k t) := by
  have record : ∀ e, limitRec? t k e sub = limitRec? s k e sub := fun e => limitRec?_congr e sub (by rw [h.insp])
  unfold Machine.judgeLimit
  rw [limit?_congr h.resp]
  split
  next e stands =>
    rw [record]
    split
    · split
      · exact (h.setLimitRec ..).limitActs ..
      · exact h
    · exact h
  · exact h

end AlarmsAgree

theorem AlarmsAgree.judgeLimits {s t : State} (h : AlarmsAgree s t) (sub : Subject) (value : Measurement → Option Int) :
    AlarmsAgree (Machine.judgeLimits sub value s) (Machine.judgeLimits sub value t) := by
  unfold Machine.judgeLimits
  induction List.range 32 generalizing s t with
  | nil => exact h
  | cons k ks ih => exact ih (h.judgeLimit sub value k)

/-- Two acts under one condition. -/
theorem AlarmsAgree.ite {c d : Prop} [Decidable c] [Decidable d] {s s' t t' : State} (same : d ↔ c)
    (yes : c → AlarmsAgree s t) (no : ¬c → AlarmsAgree s' t') : AlarmsAgree (if c then s else s') (if d then t else t') := by
  by_cases holds : c
  · rw [if_pos holds, if_pos (same.mpr holds)]; exact yes holds
  · rw [if_neg holds, if_neg (mt same.mp holds)]; exact no holds

theorem AlarmsAgree.clearIfSilent {s t : State} (h : AlarmsAgree s t) (was : Liveness) (code : Nat) (sub : Subject) :
    AlarmsAgree (if was = .silent then Machine.clear code sub s else s) (Machine.clearIfSilent was code sub t) :=
  .ite Iff.rfl (fun _ => h.clear code sub) (fun _ => h)

/-! The quiet timer stays. -/

theorem judgeLimit_quiet (sub : Subject) (value : Measurement → Option Int) (k : Nat) (s : State) :
    (judgeLimit sub value k s).insp.quiet = s.insp.quiet := by
  unfold judgeLimit
  split
  · split
    · split
      · rw [limitActs_insp, setLimitRec_quiet]
      · rfl
    · rfl
  · rfl

theorem judgeLimits_quiet (sub : Subject) (value : Measurement → Option Int) (s : State) :
    (judgeLimits sub value s).insp.quiet = s.insp.quiet := by
  unfold judgeLimits
  induction List.range 32 generalizing s with
  | nil => rfl
  | cons k ks ih => exact (ih _).trans (judgeLimit_quiet sub value k s)

/-! The queues (R22). -/

theorem cab?_enqueueForward (p : Port) (f : Frame) (s : State) (j : Nat) : cab? (enqueueForward p f s) j = cab? s j := by
  cases p <;> rfl

theorem str?_enqueueForward (p : Port) (f : Frame) (s : State) (j : Nat) : str? (enqueueForward p f s) j = str? s j := by
  cases p <;> rfl

theorem enqueueForward_hand (p : Port) (f : Frame) (s : State) : (enqueueForward p f s).hand = s.hand := by
  cases p <;> rfl

/-- An inspected report has left the Port F inbound queue and stands, unchanged, at the tail of the Port S forward queue. -/
theorem passedUp_ports {fs : List Field} {f : Frame} {s t : State} (h : Moves fs (dropHead .f s) t) (noF : .portF ∉ fs)
    (noS : .portS ∉ fs) :
    (enqueueForward .s f t).portF = { s.portF with inq := s.portF.inq.tail } ∧
      (enqueueForward .s f t).portS = { s.portS with fwd := s.portS.fwd ++ [f] } ∧
      Only (fs ++ [.portS, .portF]) s (enqueueForward .s f t) := by
  have portF : t.portF = (dropHead .f s).portF := h.only.same .portF noF
  have portS : t.portS = s.portS := h.only.same .portS noS
  refine ⟨?_, ?_, ?_⟩
  · rw [← List.drop_one]; exact portF
  · rw [← portS]; rfl
  · exact (((dropHead_moves .f s).mono (by simp [portField])).trans ((h.mono (by simp)).trans
      ((enqueueForward_moves .s f t).mono (by simp [portField])))).only

/-! The record of an accepted cabinet report (R26, R28, R29, R40, R41). -/

section
variable (r : CabRec) (e : DirEntry) (now : Word32) (p : CabReport)

theorem CabRec.accept_expected : (r.accept e now p).expected = some (r.expected.getD p.mode) := by
  cases known : r.expected <;> simp [accept, settleExpected, takeReport, known]

theorem CabRec.accept_reports_iff (m : Mode) : (r.accept e now p).reports m = true ↔ p.mode = m := by
  simp [reports, accept, settleExpected, takeReport]

theorem CabRec.accept_fellOnBattery_iff : (r.accept e now p).fellOnBattery = true ↔
    p.mode = .onBattery ∧ r.expected.getD p.mode = .online ∧ r.testFlag = false := by
  have flag : (r.accept e now p).testFlag = r.testFlag := rfl
  simp only [fellOnBattery, Bool.and_eq_true, accept_reports_iff, accept_expected, flag, beq_iff_eq, Option.some.injEq,
    Bool.not_eq_true', and_assoc]

theorem CabRec.accept_exempt_iff : (r.accept e now p).exempt = true ↔
    p.mode = .fault ∨ (p.mode = .onBattery ∧ r.expected.getD p.mode = .online ∧ r.testFlag = false) := by
  rw [exempt, Bool.or_eq_true, accept_reports_iff, accept_fellOnBattery_iff]

theorem CabRec.accept_agrees_iff (tolerance : Nat) :
    ((r.accept e now p).modeAgrees && (r.accept e now p).shareAgrees tolerance) = true ↔
      (p.mode = r.expected.getD p.mode ∨ (p.mode = .onBattery ∧ r.expected.getD p.mode = .online ∧ r.testFlag = true)) ∧
        min p.echo 1000 ≤ r.share + tolerance ∧ r.share ≤ min p.echo 1000 + tolerance := by
  have flag : (r.accept e now p).testFlag = r.testFlag := rfl
  have reported : (r.accept e now p).reported = some p.mode := rfl
  have share : (r.accept e now p).share = r.share := rfl
  have echo : (r.accept e now p).shareEcho = min p.echo 1000 := rfl
  simp only [modeAgrees, shareAgrees, Bool.and_eq_true, Bool.or_eq_true, accept_reports_iff, accept_expected, flag, reported,
    share, echo, Option.isNone_some, beq_iff_eq, Option.some.injEq, decide_eq_true_eq, and_assoc, Bool.false_eq_true,
    false_or]

/-- The record that a report leaves: the mismatch count judged on the accepted record, and then the test flag. -/
def CabRec.afterReport (tolerance : Nat) : CabRec :=
  ({ r.accept e now p with mismatch := (r.accept e now p).nextMismatch tolerance }).endTest

theorem CabRec.endTest_eq (r : CabRec) : r.endTest =
    { r with testFlag := if r.reported = some .online ∧ r.testRunning = false then false else r.testFlag } := by
  have test : (r.reports .online && !r.testRunning) = true ↔ r.reported = some .online ∧ r.testRunning = false := by
    simp [reports]
  by_cases ends : r.reported = some .online ∧ r.testRunning = false
  · rw [endTest, if_pos (test.mpr ends), if_pos ends]
  · rw [endTest, if_neg (mt test.mp ends), if_neg ends]

/-- The accepted record is `r` with the live fields, LIVE, the watch loaded and the expected mode settled; the count and the
test flag follow. -/
theorem CabRec.afterReport_eq (tolerance : Nat) : r.afterReport e now p tolerance = { r with
    reported := some p.mode, load := min p.load 1500, shareEcho := min p.echo 1000, inV := min p.inV 999,
    outV := min p.outV 999, temp := if -400 ≤ p.temp ∧ p.temp ≤ 850 then p.temp else -32768,
    bypass := p.bypass, door := p.door, testRunning := p.testRunning,
    faultCode := if p.mode = .fault ∧ p.fault ≠ 0 then some p.fault else none,
    liveness := .live, watch := some ⟨now, e.interval * e.missLimit⟩, expected := some (r.expected.getD p.mode),
    mismatch := (r.accept e now p).nextMismatch tolerance,
    testFlag := if p.mode = .online ∧ p.testRunning = false then false else r.testFlag } := by
  have flag : (r.accept e now p).testFlag = r.testFlag := rfl
  have reported : (r.accept e now p).reported = some p.mode := rfl
  have running : (r.accept e now p).testRunning = p.testRunning := rfl
  rw [afterReport, endTest_eq]
  simp only [reported, running, flag, accept_expected, Option.some.injEq]
  rfl

theorem CabRec.accept_nextMismatch (tolerance : Nat) : (r.accept e now p).nextMismatch tolerance =
    if p.mode = .fault ∨ (p.mode = .onBattery ∧ r.expected.getD p.mode = .online ∧ r.testFlag = false) then r.mismatch
    else if (p.mode = r.expected.getD p.mode ∨
          (p.mode = .onBattery ∧ r.expected.getD p.mode = .online ∧ r.testFlag = true)) ∧
        min p.echo 1000 ≤ r.share + tolerance ∧ r.share ≤ min p.echo 1000 + tolerance then 0
    else min 15 (r.mismatch + 1) := by
  simp only [nextMismatch, accept_exempt_iff, accept_agrees_iff]
  rfl

end

/-! The acts of a report, one beside the other. -/

section
variable {s t : State} (h : AlarmsAgree s t) (c : Nat) (r : CabRec) (e : DirEntry) (now : Word32) (p : CabReport)
include h

theorem AlarmsAgree.judgeFault : AlarmsAgree
    (if p.mode = .fault then Machine.raise codeCabinetFault (.cabinet c) (some (BitVec.ofNat 32 p.fault)) s
      else Machine.clear codeCabinetFault (.cabinet c) s)
    (Machine.judgeFault c (r.accept e now p) t) := by
  refine .ite (r.accept_reports_iff e now p .fault) (fun fault => ?_) (fun _ => h.clear ..)
  have code : (r.accept e now p).faultCode.getD 0 = p.fault := by
    by_cases zero : p.fault = 0 <;> simp [CabRec.accept, CabRec.settleExpected, CabRec.takeReport, fault, zero]
  rw [code]
  exact h.raise ..

theorem AlarmsAgree.judgeOnBattery : AlarmsAgree
    (if p.mode = .onBattery then
      (if p.mode = .onBattery ∧ r.expected.getD p.mode = .online ∧ r.testFlag = false then
        Machine.raise codeOnBattery (.cabinet c) (some (BitVec.ofNat 32 (min p.load 1500))) s else s)
      else Machine.clear codeOnBattery (.cabinet c) s)
    (Machine.judgeOnBattery c (r.accept e now p) t) :=
  .ite (r.accept_reports_iff e now p .onBattery)
    (fun _ => .ite (r.accept_fellOnBattery_iff e now p) (fun _ => h.raise ..) (fun _ => h)) (fun _ => h.clear ..)

theorem AlarmsAgree.judgeBypass : AlarmsAgree
    (if p.bypass = .good then Machine.clear codeBypassSourcePoor (.cabinet c) s
      else Machine.raise codeBypassSourcePoor (.cabinet c) (some (BitVec.ofNat 32 p.bypass.toCode)) s)
    (Machine.judgeBypass c (r.accept e now p) t) := by
  have bypass : (r.accept e now p).bypass = p.bypass := rfl
  unfold Machine.judgeBypass raiseOrClear
  rw [bypass]
  by_cases good : p.bypass = .good
  · rw [if_pos good, if_neg (by simp [good])]; exact h.clear ..
  · rw [if_neg good, if_pos (by simp [good])]; exact h.raise ..

theorem AlarmsAgree.judgeMismatch {gp : GroupParams} (params : groupParams t r.group = gp) : AlarmsAgree
    (if p.mode = .fault ∨ (p.mode = .onBattery ∧ r.expected.getD p.mode = .online ∧ r.testFlag = false) then s
      else if (p.mode = r.expected.getD p.mode ∨
            (p.mode = .onBattery ∧ r.expected.getD p.mode = .online ∧ r.testFlag = true)) ∧
          min p.echo 1000 ≤ r.share + gp.matchTolerance ∧ r.share ≤ min p.echo 1000 + gp.matchTolerance then
        Machine.clear codeModeMismatch (.cabinet c) s
      else if gp.mismatchAllowance ≤ min 15 (r.mismatch + 1) then
        Machine.raise codeModeMismatch (.cabinet c) (some (BitVec.ofNat 32
          (p.mode.toCode * 2 ^ 24 + (r.expected.getD p.mode).toCode * 2 ^ 16 + min p.echo 1000))) s
      else s)
    (Machine.judgeMismatch c (r.accept e now p) t) := by
  have group : groupParams t (r.accept e now p).group = gp := params
  have detail : detailMismatch (r.accept e now p).reported (r.accept e now p).expected (r.accept e now p).shareEcho =
      BitVec.ofNat 32 (p.mode.toCode * 2 ^ 24 + (r.expected.getD p.mode).toCode * 2 ^ 16 + min p.echo 1000) := by
    rw [CabRec.accept_expected]; rfl
  unfold Machine.judgeMismatch
  simp only [group, detail]
  have counted : ∀ x, AlarmsAgree s (setCab t c x) := fun x => h.trans ((setCab_moves t c x).alarmsAgree (by decide))
  refine .ite (r.accept_exempt_iff e now p) (fun _ => counted _) (fun judged => .ite (r.accept_agrees_iff e now p _)
    (fun _ => (counted _).clear ..) (fun differs => .ite ?_ (fun _ => (counted _).raise ..) (fun _ => counted _)))
  have count : (r.accept e now p).nextMismatch gp.matchTolerance = min 15 (r.mismatch + 1) := by
    rw [CabRec.accept_nextMismatch, if_neg judged, if_neg differs]
  rw [count]

end

/-! The steps of an accepted cabinet report. -/

/-- The state in which the mismatch of a report is judged: the record filled, and every act before made. -/
def beforeMismatch (e : DirEntry) (c : Nat) (r : CabRec) (p : CabReport) (s : State) : State :=
  let a := r.accept e s.now p
  judgeBypass c a (judgeOnBattery c a (judgeFault c a (judgeLimits (.cabinet c) a.measured
    (clearIfSilent r.liveness codeCabinetSilent (.cabinet c) (setCab s c a)))))

theorem acceptCabinet_eq (e : DirEntry) (c : Nat) (r : CabRec) (p : CabReport) (s : State) : acceptCabinet e c r p s =
    handCabinet c r.group p (modCab c CabRec.endTest (judgeMismatch c (r.accept e s.now p) (beforeMismatch e c r p s))) :=
  rfl

theorem beforeMismatch_moves (e : DirEntry) (c : Nat) (r : CabRec) (p : CabReport) (s : State) :
    Moves [.insp, .alarm] (setCab s c (r.accept e s.now p)) (beforeMismatch e c r p s) :=
  ((clearIfSilent_moves ..).mono (by decide)).trans ((judgeLimits_moves ..).trans (((judgeFault_moves ..).mono
    (by decide)).trans (((judgeOnBattery_moves ..).mono (by decide)).trans ((judgeBypass_moves ..).mono (by decide)))))

theorem beforeMismatch_groupParams (e : DirEntry) (c : Nat) (r : CabRec) (p : CabReport) (s : State) :
    groupParams (beforeMismatch e c r p s) r.group = groupParams s r.group := by
  rw [groupParams, (beforeMismatch_moves e c r p s).only.same .seq (by decide)]; rfl

theorem beforeDone_moves (e : DirEntry) (c : Nat) (r : CabRec) (p : CabReport) (s : State) :
    Moves [.cabs, .insp, .alarm] s
      (modCab c CabRec.endTest (judgeMismatch c (r.accept e s.now p) (beforeMismatch e c r p s))) :=
  ((setCab_moves ..).mono (by decide)).trans (((beforeMismatch_moves e c r p s).mono (by decide)).trans
    (((judgeMismatch_moves ..).mono (by decide)).trans ((modCab_moves ..).mono (by decide))))

theorem acceptCabinet_moves_own (e : DirEntry) (c : Nat) (r : CabRec) (p : CabReport) (s : State) :
    Moves [.cabs, .insp, .alarm, .hand] s (acceptCabinet e c r p s) :=
  ((beforeDone_moves e c r p s).mono (by decide)).trans ((moves_withHand ..).mono (by decide))

/-- Of the Cabinet Table the mismatch judgement writes the count alone. -/
theorem judgeMismatch_cabs (c : Nat) (r : CabRec) (s : State) : (judgeMismatch c r s).cabs =
    (setCab s c { r with mismatch := r.nextMismatch (groupParams s r.group).matchTolerance }).cabs := by
  unfold judgeMismatch
  dsimp only
  split
  · rfl
  · split
    · rfl
    · split <;> rfl

theorem cab?_modCab (c j : Nat) (g : CabRec → CabRec) (s : State) :
    cab? (modCab c g s) j = if c = j then (cab? s j).map g else cab? s j := by
  unfold modCab
  split
  next r found =>
    rw [cab?_setCab]
    by_cases place : c = j
    · obtain rfl := place
      simp [cab?_lt found, found]
    · simp [place]
  next absent =>
    split
    next place => rw [← place, absent]; rfl
    next => rfl

/-- The Cabinet Table after an accepted report. -/
theorem cab?_acceptCabinet (e : DirEntry) {c : Nat} {r : CabRec} (p : CabReport) {s : State} (record : cab? s c = some r)
    (j : Nat) : cab? (acceptCabinet e c r p s) j =
      if c = j then some (r.afterReport e s.now p (groupParams s r.group).matchTolerance) else cab? s j := by
  have place := cab?_lt record
  have before : ∀ i, cab? (beforeMismatch e c r p s) i = cab? (setCab s c (r.accept e s.now p)) i := fun i => by
    rw [cab?, (beforeMismatch_moves e c r p s).only.same .cabs (by decide)]; rfl
  have judged : ∀ i, cab? (judgeMismatch c (r.accept e s.now p) (beforeMismatch e c r p s)) i = if c = i then
      some { r.accept e s.now p with
        mismatch := (r.accept e s.now p).nextMismatch (groupParams s r.group).matchTolerance }
      else cab? s i := by
    intro i
    rw [← beforeMismatch_groupParams e c r p s, cab?, judgeMismatch_cabs]
    refine (cab?_setCab ..).trans ?_
    rw [before, cab?_setCab]
    by_cases here : c = i
    · simp only [here, true_and, here ▸ place, if_true]; rfl
    · simp [here]
  rw [acceptCabinet_eq]
  refine (cab?_modCab ..).trans ?_
  rw [judged]
  split <;> rfl

/-- The hand-offs of an accepted cabinet report (R42; log entry 5). -/
theorem acceptCabinet_hand (e : DirEntry) (c : Nat) (r : CabRec) (p : CabReport) (s : State) :
    (acceptCabinet e c r p s).hand = { s.hand with
      visit := s.hand.visit ++ [⟨c, p.mode, p.door⟩]
      ramp := if (plan? s r.group).isSome then s.hand.ramp ++ [c] else s.hand.ramp } := by
  have moves := (beforeDone_moves e c r p s).only
  rw [acceptCabinet_eq, handCabinet, plan?, moves.same .seq (by decide), moves.same .hand (by decide)]
  rfl

/-- Taking an accepted cabinet report. -/
theorem exec_acceptedCabinetReport {f : Frame} {e : DirEntry} {n : CabNode} {r : CabRec} {p : CabReport} {s : State}
    (atHead : ReportAtHead f s) (node : nodeAt? s f.src.toNat = some e) (role : e.role = .cabinet n)
    (record : cab? s n.index = some r) (form : parseCabReport f.payload = some p) :
    exec .reportInspection s = .next (enqueueForward .s f (acceptCabinet e n.index r p (dropHead .f s))) := by
  rw [exec_reportInspection atHead, inspect_of_cabinet (s := dropHead .f s) node role,
    inspectCabinet_of_accepted form (s := dropHead .f s) record]

/-- Settles O13: the record from `cab?_acceptCabinet`, the alarms by the acts of the report beside those of the statement. -/
theorem acceptedCabinetReportActs : Obligations.AcceptedCabinetReportActs := by
  refine ⟨fun f e n r p s atHead node role record form => ?_, fun f e n r p s atHead node role record form => ?_⟩
  · intro gp expected exempt modeAgrees echo shareAgrees
    refine ⟨_, exec_acceptedCabinetReport atHead node role record form, ?_⟩
    have table : ∀ j, cab? (enqueueForward .s f (acceptCabinet e n.index r p (dropHead .f s))) j = _ := fun j =>
      (cab?_enqueueForward ..).trans (cab?_acceptCabinet e p (s := dropHead .f s) record j)
    obtain ⟨portF, portS, only⟩ := passedUp_ports (f := f) (acceptCabinet_moves_own e n.index r p (dropHead .f s))
      (by decide) (by decide)
    refine ⟨?_, fun c other => (table c).trans (if_neg other.symm), ?_, portF, portS, only⟩
    · rw [table, if_pos rfl, CabRec.afterReport_eq, CabRec.accept_nextMismatch]
      rfl
    · rw [enqueueForward_hand, acceptCabinet_hand]
      rfl
  · intro me gp expected fell modeAgrees echo shareAgrees a0 stored a1 a2 a3 a4 a5
    let u := dropHead .f s
    let a := r.accept e u.now p
    refine ⟨_, exec_acceptedCabinetReport atHead node role record form, ?_⟩
    have h0 : AlarmsAgree a0 (clearIfSilent r.liveness codeCabinetSilent me (setCab u n.index a)) :=
      (((dropHead_moves .f s).alarmsAgree (by decide)).trans ((setCab_moves ..).alarmsAgree (by decide))).clearIfSilent ..
    have h4 : AlarmsAgree a4 (beforeMismatch e n.index r p u) :=
      (((h0.judgeLimits me stored.measured).judgeFault n.index r e u.now p).judgeOnBattery n.index r e u.now p).judgeBypass
        n.index r e u.now p
    have params : groupParams (beforeMismatch e n.index r p u) r.group = gp := beforeMismatch_groupParams ..
    have h5 : AlarmsAgree a5 (judgeMismatch n.index a (beforeMismatch e n.index r p u)) :=
      h4.judgeMismatch n.index r e u.now p params
    have done : AlarmsAgree a5 (enqueueForward .s f (acceptCabinet e n.index r p u)) :=
      ((h5.trans ((modCab_moves ..).alarmsAgree (by decide))).trans ((moves_withHand ..).alarmsAgree (by decide))).trans
        ((enqueueForward_moves ..).alarmsAgree (by decide))
    have limits : a5.insp = a1.insp := by
      simp only [a5, a4, a3, a2, apply_ite State.insp, raise_insp, clear_insp, ite_self]
    have silence : a0.insp = s.insp := by simp only [a0, apply_ite State.insp, clear_insp, ite_self]
    refine ⟨done.alarm, done.insp.trans limits, ?_⟩
    rw [done.insp, limits, judgeLimits_quiet, silence]

end Sys2Proof.Machine
end

section
/-! PROOF. An accepted string report (R25, R26, R28, R30, R33, R43). -/

namespace Sys2Proof.Machine

/-! The cleaned resistance list (R30). -/

/-- The entry that the list keeps for a block is the last that the report carries for it. -/
theorem lastEntry_eq_some_iff (rs : List (Nat × Nat)) (block : Nat) (x : Nat × Nat) :
    rs.reverse.find? (fun y => y.1 == block) = some x ↔
      x.1 = block ∧ (rs.filter (fun y => y.1 == x.1)).getLast? = some x := by
  rw [List.getLast?_filter]
  constructor
  · intro found
    have number : x.1 = block := by simpa using List.find?_some found
    exact ⟨number, number ▸ found⟩
  · rintro ⟨rfl, found⟩
    exact found

theorem mem_cleanResistances_iff (n : Nat) (rs : List (Nat × Nat)) (x : Nat × Nat) : x ∈ cleanResistances n rs ↔
    1 ≤ x.1 ∧ x.1 ≤ n ∧ (rs.filter (fun y => y.1 == x.1)).getLast? = some x := by
  simp only [cleanResistances, List.mem_filterMap, List.mem_range, lastEntry_eq_some_iff]
  constructor
  · rintro ⟨j, below, number, last⟩
    exact ⟨by omega, by omega, last⟩
  · rintro ⟨least, most, last⟩
    exact ⟨x.1 - 1, by omega, by omega, last⟩

theorem cleanResistances_pairwise (n : Nat) (rs : List (Nat × Nat)) :
    (cleanResistances n rs).Pairwise (fun x y => x.1 < y.1) := by
  refine List.Pairwise.filterMap _ (fun i j below x hx y hy => ?_) List.pairwise_lt_range
  have first := ((lastEntry_eq_some_iff rs (i + 1) x).mp hx).1
  have second := ((lastEntry_eq_some_iff rs (j + 1) y).mp hy).1
  omega

/-! The steps of an accepted string report. -/

/-- The record of an accepted string report: live fields, LIVE with the watch loaded (R26, R28, R30). -/
def StrRec.accept (r : StrRec) (e : DirEntry) (now : Word32) (p : StrReport) : StrRec :=
  { r.takeReport p with liveness := .live, watch := some (.begin now e.watchLen) }

section
variable (e : DirEntry) (i : Nat) (r : StrRec) (p : StrReport) (s : State)

/-- The state in which an accepted string report is handed over: the record filled, and every act made. -/
def beforeHandOver : State :=
  judgeLimits (.string i) (r.accept e s.now p).measured (clear codeStringConfigMismatch (.string i)
    (clearIfSilent r.liveness codeMonitorSilent (.string i) (setStr s i (r.accept e s.now p))))

/-- The hand-over of an accepted string report to the Ageing Engine (R43; log entry 5). -/
def handString (s : State) : State :=
  s.withHand { s.hand with ageing := s.hand.ageing ++
    [⟨i, s.clock.ms, p.current, p.temps.map storedTemp, p.serial, cleanResistances p.blocks p.resistances⟩] }

theorem acceptString_eq : acceptString e i r p s = handString i p (beforeHandOver e i r p s) := by
  unfold acceptString handString beforeHandOver StrRec.accept
  dsimp only
  rfl

theorem beforeHandOver_moves : Moves [.insp, .alarm] (setStr s i (r.accept e s.now p)) (beforeHandOver e i r p s) :=
  ((clearIfSilent_moves ..).mono (by decide)).trans (((clear_moves ..).mono (by decide)).trans (judgeLimits_moves ..))

theorem beforeHandOver_moves_own : Moves [.strs, .insp, .alarm] s (beforeHandOver e i r p s) :=
  ((setStr_moves ..).mono (by decide)).trans ((beforeHandOver_moves e i r p s).mono (by decide))

theorem acceptString_moves_own : Moves [.strs, .insp, .alarm, .hand] s (acceptString e i r p s) := by
  rw [acceptString_eq]
  exact ((beforeHandOver_moves_own e i r p s).mono (by decide)).trans ((moves_withHand ..).mono (by decide))

theorem acceptString_hand : (acceptString e i r p s).hand = { s.hand with
    ageing := s.hand.ageing ++
      [⟨i, s.clock.ms, p.current, p.temps.map storedTemp, p.serial, cleanResistances p.blocks p.resistances⟩] } := by
  have own := (beforeHandOver_moves_own e i r p s).only
  rw [acceptString_eq, handString, own.same .hand (by decide), own.same .clock (by decide)]
  rfl

end

/-- The String Table after an accepted report. -/
theorem str?_acceptString (e : DirEntry) {i : Nat} {r : StrRec} (p : StrReport) {s : State} (record : str? s i = some r)
    (j : Nat) : str? (acceptString e i r p s) j = if i = j then some (r.accept e s.now p) else str? s j := by
  have strs : (acceptString e i r p s).strs = (setStr s i (r.accept e s.now p)).strs := by
    rw [acceptString_eq, handString, State.withHand_strs]
    exact (beforeHandOver_moves e i r p s).only.same .strs (by decide)
  rw [str?, strs]
  refine (str?_setStr ..).trans ?_
  simp only [str?_lt record, and_true]

/-- Taking an accepted string report. -/
theorem exec_acceptedStringReport {f : Frame} {e : DirEntry} {n : StrNode} {r : StrRec} {p : StrReport} {s : State}
    (atHead : ReportAtHead f s) (node : nodeAt? s f.src.toNat = some e) (role : e.role = .stringMonitor n)
    (record : str? s n.index = some r) (form : parseStrReport f.payload = .ok p) (blocks : p.blocks = n.blocks) :
    exec .reportInspection s = .next (enqueueForward .s f (acceptString e n.index r p (dropHead .f s))) := by
  rw [exec_reportInspection atHead, inspect_of_string (s := dropHead .f s) node role,
    inspectString_of_accepted form blocks (s := dropHead .f s) record]

/-- Settles O14: the record from `str?_acceptString`, the alarms by the acts of the report beside those of the statement. -/
theorem acceptedStringReportActs : Obligations.AcceptedStringReportActs := by
  intro f e n r p s atHead node role record form blocks me temps
  refine ⟨_, exec_acceptedStringReport atHead node role record form blocks, ?_⟩
  have table : ∀ j, str? (enqueueForward .s f (acceptString e n.index r p (dropHead .f s))) j = _ := fun j =>
    (str?_enqueueForward ..).trans (str?_acceptString e p (s := dropHead .f s) record j)
  have hand : (enqueueForward .s f (acceptString e n.index r p (dropHead .f s))).hand = _ :=
    (enqueueForward_hand ..).trans (acceptString_hand e n.index r p (dropHead .f s))
  obtain ⟨portF, portS, only⟩ := passedUp_ports (f := f) (acceptString_moves_own e n.index r p (dropHead .f s))
    (by decide) (by decide)
  refine ⟨?_, ?_, ?_, ?_, ?_, ?_⟩
  · rw [table, if_pos rfl]; rfl
  · exact fun i other => (table i).trans (if_neg other.symm)
  · rw [hand]; rfl
  · rw [hand]; rfl
  · exact ⟨cleanResistances p.blocks p.resistances, by rw [hand]; rfl, cleanResistances_pairwise .., fun x =>
      blocks ▸ mem_cleanResistances_iff ..⟩
  intro stored judged
  have silence : AlarmsAgree (if r.liveness = .silent then clear codeMonitorSilent me s else s)
      (clearIfSilent r.liveness codeMonitorSilent me (setStr (dropHead .f s) n.index (r.accept e s.now p))) :=
    (((dropHead_moves .f s).alarmsAgree (by decide)).trans ((setStr_moves ..).alarmsAgree (by decide))).clearIfSilent ..
  have limits : AlarmsAgree judged (beforeHandOver e n.index r p (dropHead .f s)) :=
    (silence.clear codeStringConfigMismatch me).judgeLimits me stored.measured
  have done : AlarmsAgree judged (enqueueForward .s f (acceptString e n.index r p (dropHead .f s))) :=
    (limits.trans ((moves_withHand ..).alarmsAgree (by decide))).trans ((enqueueForward_moves ..).alarmsAgree (by decide))
  refine ⟨done.alarm, done.insp, ?_, portF, portS, only⟩
  rw [done.insp, judgeLimits_quiet]
  simp only [clear_insp, apply_ite State.insp, ite_self]

end Sys2Proof.Machine
end

section
/-! PROOF. The Alarm List and the Notice Queue under the acts at the Alarm Unit (R47 to R54, R59): what each act leaves of
the entries and the notices, and that keys stay distinct and the places are never exceeded. -/

namespace Sys2Proof.Machine

/-! Keys. -/

/-- The code and subject of an entry, by which it is found (R47). -/
def AlarmEntry.key (e : AlarmEntry) : Nat × Subject := (e.code, e.subject)

/-- The keys of the Alarm List, the oldest entry first (R47). -/
def AlarmUnit.keys (a : AlarmUnit) : List (Nat × Subject) := a.list.map AlarmEntry.key

theorem alarmKeysDistinct_iff (s : State) : AlarmKeysDistinct s ↔ s.alarm.keys.Nodup := Iff.rfl

theorem AlarmEntry.isFor_iff (e : AlarmEntry) (c : Nat) (sub : Subject) : e.isFor c sub = true ↔ e.key = (c, sub) := by
  simp [AlarmEntry.isFor, AlarmEntry.key]

section
variable {a : AlarmUnit} {c : Nat} {sub : Subject} {e : AlarmEntry}

theorem AlarmUnit.find?_key (h : a.find? c sub = some e) : e.key = (c, sub) :=
  (e.isFor_iff c sub).mp (List.find?_some (p := fun x : AlarmEntry => x.isFor c sub) h)

theorem AlarmUnit.find?_code (h : a.find? c sub = some e) : e.code = c := congrArg Prod.fst (find?_key h)

theorem AlarmUnit.find?_subject (h : a.find? c sub = some e) : e.subject = sub := congrArg Prod.snd (find?_key h)

theorem AlarmUnit.find?_eq_none_iff : a.find? c sub = none ↔ (c, sub) ∉ a.keys := by
  simp only [AlarmUnit.find?, List.find?_eq_none, AlarmEntry.isFor_iff, keys, List.mem_map, not_exists, not_and]

end

/-! The changes of the list. -/

section
variable (a : AlarmUnit) (c : Nat) (sub : Subject)

/-- An entry changed in its place is found as changed, and every other as it was. -/
theorem AlarmUnit.find?_modify {f : AlarmEntry → AlarmEntry} (h : ∀ e, e.key = (c, sub) → (f e).key = (c, sub))
    (c' : Nat) (sub' : Subject) :
    (a.modify c sub f).find? c' sub' =
      if (c', sub') = (c, sub) then (a.find? c sub).map f else a.find? c' sub' := by
  have keeps : (fun e : AlarmEntry => e.isFor c' sub') ∘ (fun e => if e.isFor c sub then f e else e) =
      fun e => e.isFor c' sub' := by
    funext e
    have key : (if e.isFor c sub then f e else e).key = e.key := by
      split
      next here =>
        have own := (e.isFor_iff c sub).mp here
        rw [h e own, own]
      · rfl
    rw [Function.comp_apply, Bool.eq_iff_iff, (AlarmEntry.isFor_iff _ c' sub').trans (Iff.of_eq (congrArg (· = _) key)),
      AlarmEntry.isFor_iff]
  rw [AlarmUnit.find?, modify, List.find?_map, keeps, ← AlarmUnit.find?]
  cases found : a.find? c' sub' with
  | none =>
    split
    next same => cases same; rw [found]; rfl
    · rfl
  | some e =>
    have here : e.isFor c sub = true ↔ (c', sub') = (c, sub) := by rw [AlarmEntry.isFor_iff, find?_key found]
    rw [Option.map_some]
    by_cases same : (c', sub') = (c, sub)
    · cases same
      rw [if_pos (here.mpr rfl), if_pos rfl, found, Option.map_some]
    · rw [if_neg (mt here.mp same), if_neg same]

/-- An entry removed is no longer found, and every other as it was. -/
theorem AlarmUnit.find?_remove (c' : Nat) (sub' : Subject) :
    (a.remove c sub).find? c' sub' = if (c', sub') = (c, sub) then none else a.find? c' sub' := by
  rw [AlarmUnit.find?, remove, List.find?_filter]
  split
  next same =>
    cases same
    simp
  next other =>
    refine congrArg (fun p => a.list.find? p) (funext fun e => ?_)
    have apart : e.isFor c' sub' = true → e.isFor c sub = false := fun h => by
      rw [← Bool.not_eq_true, AlarmEntry.isFor_iff, (e.isFor_iff c' sub').mp h]
      exact other
    cases holds : e.isFor c' sub' with
    | false => simp
    | true => simp [apart holds]

theorem AlarmUnit.keys_remove_sublist : (a.remove c sub).keys.Sublist a.keys := List.filter_sublist.map _

theorem AlarmUnit.keys_modify {f : AlarmEntry → AlarmEntry} (h : ∀ e, e.key = (c, sub) → (f e).key = (c, sub)) :
    (a.modify c sub f).keys = a.keys := by
  rw [keys, modify, List.map_map]
  refine List.map_congr_left fun e _ => ?_
  dsimp only [Function.comp_apply]
  split
  next here =>
    have own := (e.isFor_iff c sub).mp here
    rw [h e own, own]
  · rfl

theorem AlarmUnit.length_modify (f : AlarmEntry → AlarmEntry) : (a.modify c sub f).list.length = a.list.length :=
  List.length_map _

/-- A list without one of its entries is shorter. -/
theorem AlarmUnit.length_remove_lt {e : AlarmEntry} (h : e ∈ a.list) :
    (a.remove e.code e.subject).list.length < a.list.length := by
  refine List.length_filter_lt_length_iff_exists.mpr ⟨e, h, ?_⟩
  simp [AlarmEntry.isFor]

end

/-! The notices. -/

section
variable (a : AlarmUnit) (sec : Word32) (k : NoticeKind) (b : List Byte)

@[simp] theorem AlarmUnit.notice_list : (a.notice sec k b).list = a.list := by unfold notice; split <;> rfl

@[simp] theorem AlarmUnit.notice_classes : (a.notice sec k b).classes = a.classes := by unfold notice; split <;> rfl

@[simp] theorem AlarmUnit.notice_lost : (a.notice sec k b).lost = a.lost := by unfold notice; split <;> rfl

@[simp] theorem AlarmUnit.notice_find? (c : Nat) (sub : Subject) : (a.notice sec k b).find? c sub = a.find? c sub := by
  rw [AlarmUnit.find?, notice_list]; rfl

/-- A notice does not read the list. -/
theorem AlarmUnit.notice_withList (l : List AlarmEntry) :
    ({ a with list := l } : AlarmUnit).notice sec k b = { a.notice sec k b with list := l } := by
  unfold notice; split <;> rfl

theorem AlarmUnit.notice_within (h : a.notices.length ≤ noticePlaces) :
    (a.notice sec k b).notices.length ≤ noticePlaces := by
  unfold notice; split
  · rw [List.length_append]; simp only [List.length_singleton]; omega
  · exact h

end

/-- The notices of an unshelving, one after the other, leave the list. -/
theorem AlarmUnit.foldl_notice_list (sec : Word32) (k : NoticeKind) (body : AlarmEntry → List Byte)
    (l : List AlarmEntry) (a : AlarmUnit) : (l.foldl (fun u e => u.notice sec k (body e)) a).list = a.list := by
  induction l generalizing a with
  | nil => rfl
  | cons e l ih => exact (ih _).trans (notice_list ..)

theorem AlarmUnit.foldl_notice_within (sec : Word32) (k : NoticeKind) (body : AlarmEntry → List Byte)
    (l : List AlarmEntry) {a : AlarmUnit} (h : a.notices.length ≤ noticePlaces) :
    (l.foldl (fun u e => u.notice sec k (body e)) a).notices.length ≤ noticePlaces := by
  induction l generalizing a with
  | nil => exact h
  | cons e l ih => exact ih (notice_within a sec k (body e) h)

/-! A raise by what it finds (R48 to R51). -/

/-- The entry a raise creates (R50). -/
def AlarmUnit.newEntry (a : AlarmUnit) (sec : Word32) (shelve : Bool) (c : Nat) (sub : Subject) (d : Option Word32) :
    AlarmEntry :=
  ⟨c, sub, (a.classOf c).level, if shelve then .shelved else .active, sec, sec, 1, d⟩

theorem AlarmUnit.newEntry_key (a : AlarmUnit) (sec : Word32) (shelve : Bool) (c : Nat) (sub : Subject)
    (d : Option Word32) : (a.newEntry sec shelve c sub d).key = (c, sub) := rfl

section
variable {a : AlarmUnit} {sec : Word32} {shelve : Bool} {c : Nat} {sub : Subject} {d : Option Word32} {e : AlarmEntry}

theorem AlarmUnit.raise_of_standing (found : a.find? c sub = some e) (stands : e.state ≠ .cleared) :
    a.raise sec shelve c sub d = a.modify c sub (·.touch sec) := by
  simp only [AlarmUnit.raise, found, if_neg stands]

theorem AlarmUnit.raise_of_cleared (found : a.find? c sub = some e) (cleared : e.state = .cleared) :
    a.raise sec shelve c sub d = a.reviveEntry sec shelve e d := by
  simp only [AlarmUnit.raise, found, if_pos cleared]

theorem AlarmUnit.raise_of_room (absent : a.find? c sub = none) (room : a.list.length < alarmPlaces) :
    a.raise sec shelve c sub d = a.append sec (a.newEntry sec shelve c sub d) := by
  simp only [AlarmUnit.raise, absent, create, if_pos room, newEntry]

theorem AlarmUnit.raise_of_victim (absent : a.find? c sub = none) (full : ¬a.list.length < alarmPlaces)
    (gone : a.victim? (a.classOf c).level = some e) :
    a.raise sec shelve c sub d = (a.remove e.code e.subject).append sec (a.newEntry sec shelve c sub d) := by
  simp only [AlarmUnit.raise, absent, create, if_neg full, gone, newEntry]

theorem AlarmUnit.raise_of_no_victim (absent : a.find? c sub = none) (full : ¬a.list.length < alarmPlaces)
    (none : a.victim? (a.classOf c).level = none) :
    a.raise sec shelve c sub d = { a with lost := satAdd 65535 a.lost 1 } := by
  simp only [AlarmUnit.raise, absent, create, if_neg full, none]

end

section
variable (a : AlarmUnit) (sec : Word32) (e : AlarmEntry)

@[simp] theorem AlarmUnit.append_list : (a.append sec e).list = a.list ++ [e] := by
  unfold append; dsimp only; split
  · rw [notice_list]
  · rfl

theorem AlarmUnit.append_notices : (a.append sec e).notices =
    if e.state = .active then (a.notice sec .alarmRaised e.raisedBody).notices else a.notices := by
  unfold append; dsimp only; split
  · rw [notice_withList]
  · rfl

@[simp] theorem AlarmUnit.append_lost : (a.append sec e).lost = a.lost := by
  unfold append; dsimp only; split
  · rw [notice_lost]
  · rfl

theorem AlarmUnit.append_within (h : a.notices.length ≤ noticePlaces) :
    (a.append sec e).notices.length ≤ noticePlaces := by
  rw [append_notices]; split
  · exact notice_within a _ _ _ h
  · exact h

variable (shelve : Bool) (d : Option Word32)

/-- The list a revival leaves: the entry changed in its place (R49). -/
theorem AlarmUnit.reviveEntry_list : (a.reviveEntry sec shelve e d).list = (a.modify e.code e.subject
    (fun _ => e.revive sec (a.classOf e.code).level (if shelve then .shelved else .active) d)).list := by
  unfold reviveEntry; dsimp only; split
  · rfl
  · rw [notice_list]

theorem AlarmUnit.reviveEntry_notices : (a.reviveEntry sec shelve e d).notices =
    if shelve then a.notices else (a.notice sec .alarmRaised
      (e.revive sec (a.classOf e.code).level (if shelve then .shelved else .active) d).raisedBody).notices := by
  unfold reviveEntry; dsimp only; split
  · rfl
  · rw [modify, notice_withList]

end

/-! The entry a full list gives up (R51). -/

/-- An entry of a list, at its index, is the oldest of the lowest level of those that pass a test (R51). -/
structure IsLowestOldest (p : AlarmEntry → Bool) (l : List AlarmEntry) (i : Nat) (e : AlarmEntry) : Prop where
  place : l[i]? = some e
  passes : p e = true
  lowest : ∀ x ∈ l, p x = true → e.level ≤ x.level
  oldest : ∀ j x, j < i → l[j]? = some x → p x = true → e.level < x.level

theorem IsLowestOldest.unique {p : AlarmEntry → Bool} {l : List AlarmEntry} {i j : Nat} {e x : AlarmEntry}
    (h : IsLowestOldest p l i e) (k : IsLowestOldest p l j x) : e = x := by
  have le := h.lowest x (List.mem_of_getElem? k.place) k.passes
  have ge := k.lowest e (List.mem_of_getElem? h.place) h.passes
  have same : i = j := by
    rcases Nat.lt_trichotomy i j with lt | same | gt
    · exact absurd (k.oldest i e lt h.place h.passes) (by omega)
    · exact same
    · exact absurd (h.oldest j x gt k.place k.passes) (by omega)
  subst same
  exact Option.some.inj (h.place.symm.trans k.place)

/-- The search over a list with one entry more. -/
theorem lowestOldest_append_singleton (p : AlarmEntry → Bool) (l : List AlarmEntry) (x : AlarmEntry) :
    lowestOldest p (l ++ [x]) = if p x then (match lowestOldest p l with
      | none => some x
      | some b => if x.level < b.level then some x else some b) else lowestOldest p l := by
  rw [lowestOldest, List.foldl_append]; rfl

/-- A list with one entry more, which does not pass or stands no lower, has the same oldest of the lowest level. -/
theorem IsLowestOldest.append {p : AlarmEntry → Bool} {l : List AlarmEntry} {i : Nat} {e x : AlarmEntry}
    (h : IsLowestOldest p l i e) (higher : p x = true → e.level ≤ x.level) : IsLowestOldest p (l ++ [x]) i e := by
  have inside := (List.getElem?_eq_some_iff.mp h.place).1
  refine ⟨by rw [List.getElem?_append_left inside, h.place], h.passes, fun y hy py => ?_, fun j y hj hy py => ?_⟩
  · rcases List.mem_append.mp hy with hy | hy
    · exact h.lowest y hy py
    · rw [List.mem_singleton.mp hy] at py ⊢; exact higher py
  · rw [List.getElem?_append_left (by omega)] at hy
    exact h.oldest j y hj hy py

/-- The new entry at the end of a list is the oldest of the lowest level when it stands below every entry that passes. -/
theorem isLowestOldest_append_self {p : AlarmEntry → Bool} {l : List AlarmEntry} {x : AlarmEntry} (passes : p x = true)
    (below : ∀ y ∈ l, p y = true → x.level < y.level) : IsLowestOldest p (l ++ [x]) l.length x := by
  refine ⟨by simp, passes, fun y hy py => ?_, fun j y hj hy py => ?_⟩
  · rcases List.mem_append.mp hy with hy | hy
    · exact Nat.le_of_lt (below y hy py)
    · rw [List.mem_singleton.mp hy]
  · rw [List.getElem?_append_left hj] at hy
    exact below y (List.mem_of_getElem? hy) py

/-- The search finds the oldest of the lowest level, and nothing exactly when no entry passes (R51). -/
theorem lowestOldest_spec (p : AlarmEntry → Bool) (l : List AlarmEntry) :
    (∀ e, lowestOldest p l = some e → ∃ i, IsLowestOldest p l i e) ∧
      (lowestOldest p l = none → ∀ x ∈ l, p x = false) := by
  induction l using List.reverseRecOn with
  | nil => exact ⟨fun e h => (nomatch h), fun _ x hx => (nomatch hx)⟩
  | append_singleton l x ih =>
    obtain ⟨found, absent⟩ := ih
    rw [lowestOldest_append_singleton]
    cases px : p x with
    | false =>
      refine ⟨fun e h => ?_, fun h y hy => ?_⟩
      · obtain ⟨i, hi⟩ := found e (by simpa using h)
        exact ⟨i, hi.append (by simp [px])⟩
      · rcases List.mem_append.mp hy with hy | hy
        · exact absent (by simpa using h) y hy
        · rw [List.mem_singleton.mp hy, px]
    | true =>
      rw [if_pos rfl]
      cases best : lowestOldest p l with
      | none =>
        refine ⟨fun e h => ⟨l.length, ?_⟩, fun h => (nomatch h)⟩
        obtain rfl : x = e := Option.some.inj h
        exact isLowestOldest_append_self px (fun y hy py => by simp [absent best y hy] at py)
      | some b =>
        obtain ⟨i, hi⟩ := found b best
        dsimp only
        split
        next lower =>
          refine ⟨fun e h => ⟨l.length, ?_⟩, fun h => (nomatch h)⟩
          obtain rfl : x = e := Option.some.inj h
          exact isLowestOldest_append_self px (fun y hy py => Nat.lt_of_lt_of_le lower (hi.lowest y hy py))
        next higher =>
          refine ⟨fun e h => ⟨i, ?_⟩, fun h => (nomatch h)⟩
          obtain rfl : b = e := Option.some.inj h
          exact hi.append (fun _ => Nat.le_of_not_lt higher)

theorem lowestOldest_eq_some {p : AlarmEntry → Bool} {l : List AlarmEntry} {i : Nat} {e : AlarmEntry}
    (h : IsLowestOldest p l i e) : lowestOldest p l = some e := by
  obtain ⟨found, absent⟩ := lowestOldest_spec p l
  cases best : lowestOldest p l with
  | none => exact absurd (absent best e (List.mem_of_getElem? h.place)) (by simp [h.passes])
  | some b =>
    obtain ⟨j, hj⟩ := found b best
    rw [h.unique hj]

theorem lowestOldest_eq_none {p : AlarmEntry → Bool} {l : List AlarmEntry} (h : ∀ x ∈ l, p x = false) :
    lowestOldest p l = none := by
  cases best : lowestOldest p l with
  | none => rfl
  | some b =>
    obtain ⟨i, hi⟩ := (lowestOldest_spec p l).1 b best
    exact absurd hi.passes (by simp [h b (List.mem_of_getElem? hi.place)])

/-- What a list gives up is one of its entries. -/
theorem AlarmUnit.victim?_mem {a : AlarmUnit} {level : Nat} {e : AlarmEntry} (h : a.victim? level = some e) :
    e ∈ a.list := by
  have found : ∀ p, lowestOldest p a.list = some e → e ∈ a.list := fun p h => by
    obtain ⟨i, hi⟩ := (lowestOldest_spec p a.list).1 e h
    exact List.mem_of_getElem? hi.place
  rcases Option.or_eq_some_iff.mp h with cleared | ⟨-, h⟩
  · exact List.mem_of_find?_eq_some cleared
  · rcases Option.or_eq_some_iff.mp h with acknowledged | ⟨-, active⟩
    · exact found _ acknowledged
    · exact found _ active

/-! What any act keeps (R47, R59). -/

/-- A raise keeps the keys, or appends the new key to some of them, none of which it is, in a list with a free place. -/
theorem AlarmUnit.raise_keys (a : AlarmUnit) (sec : Word32) (shelve : Bool) (c : Nat) (sub : Subject)
    (d : Option Word32) : (a.raise sec shelve c sub d).keys = a.keys ∨
      ∃ l : List (Nat × Subject), (a.raise sec shelve c sub d).keys = l ++ [(c, sub)] ∧ l.Sublist a.keys ∧
        (c, sub) ∉ a.keys ∧ (l.length < alarmPlaces ∨ l.length < a.keys.length) := by
  cases found : a.find? c sub with
  | some e =>
    left
    by_cases cleared : e.state = .cleared
    · rw [raise_of_cleared found cleared, keys, reviveEntry_list]
      exact keys_modify _ _ _ (fun _ _ => rfl)
    · rw [raise_of_standing found cleared]
      exact keys_modify _ _ _ (fun _ own => own)
  | none =>
    have absent := find?_eq_none_iff.mp found
    by_cases room : a.list.length < alarmPlaces
    · rw [raise_of_room found room]
      exact .inr ⟨a.keys, by rw [keys, append_list, List.map_append]; rfl, .refl _, absent,
        .inl (by rwa [keys, List.length_map])⟩
    · cases gone : a.victim? (a.classOf c).level with
      | none => left; rw [raise_of_no_victim found room gone]; rfl
      | some v =>
        rw [raise_of_victim found room gone]
        refine .inr ⟨(a.remove v.code v.subject).keys, by rw [keys, append_list, List.map_append]; rfl,
          keys_remove_sublist .., absent, .inr ?_⟩
        rw [keys, keys, List.length_map, List.length_map]
        exact length_remove_lt a (victim?_mem gone)

theorem AlarmUnit.raise_within (a : AlarmUnit) (sec : Word32) (shelve : Bool) (c : Nat) (sub : Subject)
    (d : Option Word32) (h : a.notices.length ≤ noticePlaces) :
    (a.raise sec shelve c sub d).notices.length ≤ noticePlaces := by
  cases found : a.find? c sub with
  | some e =>
    by_cases cleared : e.state = .cleared
    · rw [raise_of_cleared found cleared, reviveEntry_notices]; split
      · exact h
      · exact notice_within a _ _ _ h
    · rw [raise_of_standing found cleared]; exact h
  | none =>
    by_cases room : a.list.length < alarmPlaces
    · rw [raise_of_room found room]; exact append_within _ _ _ h
    · cases gone : a.victim? (a.classOf c).level with
      | none => rw [raise_of_no_victim found room gone]; exact h
      | some v => rw [raise_of_victim found room gone]; exact append_within _ _ _ h

/-- A clear keeps some of the keys (R52). -/
theorem AlarmUnit.clear_keys_sublist (a : AlarmUnit) (sec : Word32) (c : Nat) (sub : Subject) :
    (a.clear sec c sub).keys.Sublist a.keys := by
  have told : ∀ (b : AlarmUnit) (o : ClearOutcome), (b.clearedNotice sec c sub o).keys = b.keys := fun b o => by
    rw [keys, clearedNotice, notice_list]; rfl
  unfold AlarmUnit.clear; split
  · exact .refl _
  · split
    · split
      · rw [told, keys_modify _ _ _ (by exact fun _ own => own)]
      · rw [told]; exact keys_remove_sublist ..
    · rw [told]; exact keys_remove_sublist ..
    · exact keys_remove_sublist ..
    · exact .refl _

theorem AlarmUnit.clear_within (a : AlarmUnit) (sec : Word32) (c : Nat) (sub : Subject)
    (h : a.notices.length ≤ noticePlaces) : (a.clear sec c sub).notices.length ≤ noticePlaces := by
  unfold AlarmUnit.clear; split
  · exact h
  · split
    · split <;> exact notice_within _ _ _ _ h
    · exact notice_within _ _ _ _ h
    · exact h
    · exact h

theorem AlarmUnit.unshelve_list (a : AlarmUnit) (sec : Word32) (v : Nat) (cs is : List Nat) :
    (a.unshelve sec v cs is).list = a.list.map (fun e =>
      if e.state == .shelved && e.inScopes cs is then { e with state := .active } else e) :=
  foldl_notice_list ..

theorem AlarmUnit.unshelve_keys (a : AlarmUnit) (sec : Word32) (v : Nat) (cs is : List Nat) :
    (a.unshelve sec v cs is).keys = a.keys := by
  rw [keys, unshelve_list, List.map_map]
  refine List.map_congr_left fun e _ => ?_
  dsimp only [Function.comp_apply]
  split <;> rfl

/-- Distinct keys stay distinct under every act (R47). -/
theorem AlarmActs.keys_nodup {a b : AlarmUnit} (h : AlarmActs a b) (distinct : a.keys.Nodup) : b.keys.Nodup := by
  induction h with
  | refl => exact distinct
  | raise a sec shelve c sub d =>
    rcases a.raise_keys sec shelve c sub d with same | ⟨l, appended, some, new, -⟩
    · rwa [same]
    · rw [appended]
      refine List.nodup_append.mpr ⟨distinct.sublist some, List.nodup_singleton _, fun x hx y hy same => new ?_⟩
      rw [← List.mem_singleton.mp hy, ← same]
      exact some.subset hx
  | clear a sec c sub => exact distinct.sublist (a.clear_keys_sublist sec c sub)
  | notice a sec k b => rwa [AlarmUnit.keys, AlarmUnit.notice_list]
  | unshelve a sec v cs is => rwa [AlarmUnit.unshelve_keys]
  | shrink a b some _ => exact distinct.sublist (some.map _)
  | relabel a b same _ => exact (show b.keys = a.keys from same) ▸ distinct
  | trans _ _ first second => exact second (first distinct)

/-- The list keeps within its places under every act (R47). -/
theorem AlarmActs.list_within {a b : AlarmUnit} (h : AlarmActs a b) (within : a.keys.length ≤ alarmPlaces) :
    b.keys.length ≤ alarmPlaces := by
  induction h with
  | refl => exact within
  | raise a sec shelve c sub d =>
    rcases a.raise_keys sec shelve c sub d with same | ⟨l, appended, -, -, room⟩
    · rwa [same]
    · rw [appended, List.length_append, List.length_singleton]; omega
  | clear a sec c sub => exact (a.clear_keys_sublist sec c sub).length_le.trans within
  | notice a sec k b => rwa [AlarmUnit.keys, AlarmUnit.notice_list]
  | unshelve a sec v cs is => rwa [AlarmUnit.unshelve_keys]
  | shrink a b some _ => exact (some.map AlarmEntry.key).length_le.trans within
  | relabel a b same _ => exact (show b.keys = a.keys from same) ▸ within
  | trans _ _ first second => exact second (first within)

/-- The Notice Queue keeps within its places under every act (R59). -/
theorem AlarmActs.notices_within {a b : AlarmUnit} (h : AlarmActs a b) (within : a.notices.length ≤ noticePlaces) :
    b.notices.length ≤ noticePlaces := by
  induction h with
  | refl => exact within
  | raise a sec shelve c sub d => exact a.raise_within sec shelve c sub d within
  | clear a sec c sub => exact a.clear_within sec c sub within
  | notice a sec k b => exact a.notice_within sec k b within
  | unshelve a sec v cs is => exact AlarmUnit.foldl_notice_within _ _ _ _ within
  | shrink a b _ fewer => exact fewer.trans within
  | relabel a b _ same => exact same ▸ within
  | trans _ _ first second => exact second (first within)

end Sys2Proof.Machine
end

section
/-! PROOF. The keys of the Alarm List and of the site-origin orders stay distinct (R47, R116): every command acts on the
alarms by acts that keep distinct keys and adds no site-origin entry, but for the judgement of a site order, which adds one
under a key that none has, and the full resets, which leave none. -/

namespace Sys2Proof.Machine

/-! A step by the command it takes. -/

/-- What does not read the queue of commands is kept by a step when every command keeps it. -/
theorem step_keeps {P : State → Prop} (queue : ∀ s x, P s → P (s.withPending x))
    (command : ∀ i s t, P s → exec i s = .next t → P t) {s t : State} (inv : P s) (h : step s = .next t) : P t := by
  unfold step at h
  split at h
  next c rest _ => exact command c _ t (queue s rest inv) h
  · exact Host.Outcome.next.inj h ▸ inv

/-- A full reset leaves the state as it was or the reset state, but for the commands that wait, the line and the bridge. -/
theorem exec_fullReset_only {i : Instr} {s t : State} (h : exec i s = .next t) (isReset : isFullReset i = true) :
    t = s ∨ Only [.pending, .resetLine, .bridge] State.reset t := by
  have reset : Only [.pending, .resetLine, .bridge] State.reset (fullReset s) :=
    ((only_withPending ..).mono (by decide)).trans ((only_withResetLine ..).mono (by decide))
  cases i with
  | powerOn => exact .inr (Host.Outcome.next.inj h ▸ reset.trans ((only_withBridge ..).mono (by decide)))
  | resetLineReleased =>
    have e := Host.Outcome.next.inj h
    split at e
    · exact .inr (e ▸ reset.trans ((only_withResetLine ..).mono (by decide)))
    · exact .inl e.symm
  | fullResetTaken =>
    have e := Host.Outcome.next.inj h
    unfold whenRunning at e
    split at e
    · dsimp only at e; split at e
      · exact .inr (e ▸ reset)
      · exact .inl e.symm
    · exact .inl e.symm
  | _ => cases isReset

/-- A block takes the head frame, which leaves its queue, when it may, and otherwise nothing happens (R169). -/
theorem takeHead_cases (p : Port) (ready : State → Frame → Bool) (act : Frame → State → State) (s : State) :
    takeHead p ready act s = s ∨ ∃ f, ready s f = true ∧ takeHead p ready act s = act f (dropHead p s) := by
  unfold takeHead; split
  next f _ _ =>
    split
    next may => exact .inr ⟨f, (Bool.and_eq_true_iff.mp may).2, rfl⟩
    · exact .inl rfl
  · exact .inl rfl

/-- What a command does that acts while the loop bridge is open (R175). -/
theorem whenRunning_cases (f : State → State) (s : State) : whenRunning f s = s ∨ whenRunning f s = f s := by
  unfold whenRunning; split
  · exact .inr rfl
  · exact .inl rfl

/-! The judgement of a site order (R107, R110, R116). -/

theorem order?_eq_none_iff (s : State) (k : OrderKey) : order? s k = none ↔ ∀ e ∈ s.tracker.orders, e.key ≠ k := by
  simp [order?, List.find?_eq_none]

/-- What the judgement of a site order leaves of the orders: the same, or the same under their keys and slots with a repeat
counted, or one site-origin entry more under a new key, for which there is a place. -/
inductive OrdersJudged (s t : State) : Prop where
  | same (orders : t.tracker.orders = s.tracker.orders)
  | repeated (g : OrderEntry → OrderEntry) (key : ∀ e, (g e).key = e.key) (slot : ∀ e, (g e).slot = e.slot)
    (orders : t.tracker.orders = s.tracker.orders.map g)
  | tracked (e : OrderEntry) (site : e.origin = .site) (new : order? s e.key = none) (room : siteOrders s < sitePlaces)
    (orders : t.tracker.orders = s.tracker.orders ++ [e])

theorem ite_some_eq_none_iff {α : Type} {c : Prop} [Decidable c] {x : α} {o : Option α} :
    (if c then some x else o) = none ↔ ¬c ∧ o = none := by
  split <;> simp [*]

/-- An order passes the interlock checks with a place free in the order list (R113, R116). -/
theorem siteOrders_lt_of_interlockCause {s : State} {k : OrderKind} {v t : Nat} {r : CabRec}
    (h : interlockCause s k v t r = none) : siteOrders s < sitePlaces := by
  simp only [interlockCause, ite_some_eq_none_iff] at h
  obtain ⟨-, -, -, -, -, -, -, -, room, -⟩ := h
  exact Nat.lt_of_not_le room

/-- A site order is answered, with nothing else changed, or forwarded, with the order list alone changed before. -/
theorem judgeOrder_cases (f : Frame) (s : State) : (∃ a c, judgeOrder f s = gateAnswer f a c s) ∨
    ∃ k v u, judgeOrder f s = gateForward f k v u ∧ OrdersJudged s u ∧ Only [.tracker] s u := by
  have answer : ∀ a c, (∃ a' c', gateAnswer f a c s = gateAnswer f a' c' s) ∨
      ∃ k v u, gateAnswer f a c s = gateForward f k v u ∧ OrdersJudged s u ∧ Only [.tracker] s u :=
    fun a c => .inl ⟨a, c, rfl⟩
  have forward : ∀ k v u, OrdersJudged s u → Only [.tracker] s u →
      (∃ a c, gateForward f k v u = gateAnswer f a c s) ∨
        ∃ k' v' u', gateForward f k v u = gateForward f k' v' u' ∧ OrdersJudged s u' ∧ Only [.tracker] s u' :=
    fun k v u judged only => .inr ⟨k, v, u, rfl, judged, only⟩
  have untracked := fun k v => forward k v s (.same rfl) (Only.refl _ s)
  unfold judgeOrder; split
  · exact answer ..
  next k v _ =>
    split
    · unfold judgeBroadcast; split
      · split
        · exact answer ..
        · exact untracked ..
      · exact answer ..
      · exact answer ..
    · split
      · exact answer ..
      · split
        · exact answer ..
        · unfold judgeTargeted; split
          · unfold judgeRepeat; split
            · exact answer ..
            · split
              · exact answer ..
              · split
                · exact answer ..
                · refine forward k v _ (.repeated _ (fun e => ?_) (fun e => ?_) rfl) (only_withTracker ..)
                  · rw [apply_ite OrderEntry.key]; dsimp only; split
                    · split <;> rfl
                    · rfl
                  · rw [apply_ite OrderEntry.slot]; dsimp only; split
                    · split <;> rfl
                    · rfl
          next absent =>
            split
            · exact answer ..
            · split
              · exact answer ..
              · unfold judgeByClass; split
                · exact untracked ..
                · exact answer ..
                · split
                  · exact answer ..
                  next passes =>
                    exact forward k v _ (.tracked (siteEntry s f k v) rfl absent
                      (siteOrders_lt_of_interlockCause passes) rfl) (only_withTracker ..)

theorem judgeOrder_orders (f : Frame) (s : State) : OrdersJudged s (judgeOrder f s) := by
  rcases judgeOrder_cases f s with ⟨a, c, answered⟩ | ⟨k, v, u, forwarded, judged, -⟩
  · rw [answered]; exact .same rfl
  · have orders : (gateForward f k v u).tracker = u.tracker := rfl
    rw [forwarded]
    cases judged with
    | same h => exact .same (by rw [orders, h])
    | repeated g key slot h => exact .repeated g key slot (by rw [orders, h])
    | tracked e site new room h => exact .tracked e site new room (by rw [orders, h])

/-- Site-origin entries under distinct keys stay so under a judgement (R116). -/
theorem OrdersJudged.siteKeys_nodup {s t : State} (h : OrdersJudged s t) (distinct : SiteKeysDistinct s) :
    SiteKeysDistinct t := by
  unfold SiteKeysDistinct siteKeys at *
  cases h with
  | same orders => rwa [orders]
  | repeated g key _ orders => rwa [orders, site_keys_map g key]
  | tracked e site new _ orders =>
    rw [orders, List.filter_append, List.map_append]
    refine List.nodup_append.mpr ⟨distinct, by simp [site], fun k hk k' hk' same => ?_⟩
    obtain ⟨x, hx, rfl⟩ := List.mem_map.mp hk
    have here : k' = e.key := by simpa [site] using hk'
    exact (order?_eq_none_iff s e.key).mp new x (List.mem_filter.mp hx).1 (same.trans here)

/-- The site-origin entries keep within their places under a judgement (R116). -/
theorem OrdersJudged.siteOrders_le {s t : State} (h : OrdersJudged s t) (within : siteOrders s ≤ sitePlaces) :
    siteOrders t ≤ sitePlaces := by
  rw [siteOrders_eq_length_siteKeys, siteKeys] at *
  cases h with
  | same orders => rwa [orders]
  | repeated g key _ orders => rwa [orders, site_keys_map g key]
  | tracked e site _ room orders =>
    rw [siteOrders_eq_length_siteKeys, siteKeys] at room
    rw [orders, List.filter_append, List.map_append, List.length_append]
    simp only [site, BEq.rfl, List.filter_cons_of_pos, List.filter_nil, List.map_cons, List.map_nil, List.length_singleton]
    exact room

/-- A site order's command idles or judges the order at the head, whose place in the queue is no order. -/
theorem exec_siteOrderJudgement_cases {s t : State} (h : exec .siteOrderJudgement s = .next t) :
    t = s ∨ ∃ f, gateReady s f = true ∧ t = judgeOrder f (dropHead .s s) := by
  cases Host.Outcome.next.inj h
  rcases whenRunning_cases (takeHead .s gateReady judgeOrder) s with idle | runs
  · exact .inl idle
  · rw [runs]; exact takeHead_cases .s gateReady judgeOrder s

/-- What any command does: it resets the part, it judges the site order at the head, or it makes moves within its
components. -/
theorem exec_cases {i : Instr} {s t : State} (h : exec i s = .next t) :
    Only [.pending, .resetLine, .bridge] State.reset t ∨
      (∃ f, gateReady s f = true ∧ t = judgeOrder f (dropHead .s s)) ∨ Moves (touches i) s t := by
  cases isReset : isFullReset i with
  | true =>
    rcases exec_fullReset_only h isReset with rfl | reset
    · exact .inr (.inr (Moves.refl ..))
    · exact .inl reset
  | false =>
    by_cases order : i = .siteOrderJudgement
    · subst order
      rcases exec_siteOrderJudgement_cases h with rfl | judged
      · exact .inr (.inr (Moves.refl ..))
      · exact .inr (.inl judged)
    · exact .inr (.inr (exec_moves h isReset order))

/-! The keys. -/

theorem Only.alarmKeysDistinct {fs : List Field} {s t : State} (h : Only fs s t) (noAlarm : .alarm ∉ fs)
    (distinct : AlarmKeysDistinct s) : AlarmKeysDistinct t := by
  unfold AlarmKeysDistinct
  rwa [show t.alarm = s.alarm from h.same .alarm noAlarm]

theorem Only.siteKeysDistinct {fs : List Field} {s t : State} (h : Only fs s t) (noTracker : .tracker ∉ fs)
    (distinct : SiteKeysDistinct s) : SiteKeysDistinct t := by
  unfold SiteKeysDistinct siteKeys
  rwa [show t.tracker = s.tracker from h.same .tracker noTracker]

theorem exec_keeps_alarmKeysDistinct {i : Instr} {s t : State} (distinct : AlarmKeysDistinct s)
    (h : exec i s = .next t) : AlarmKeysDistinct t := by
  rcases exec_cases h with reset | ⟨f, -, rfl⟩ | moves
  · exact reset.alarmKeysDistinct (by decide) List.nodup_nil
  · exact (judgeOrder_only f (dropHead .s s)).alarmKeysDistinct (by decide) distinct
  · exact moves.acts.keys_nodup distinct

theorem exec_keeps_siteKeysDistinct {i : Instr} {s t : State} (distinct : SiteKeysDistinct s)
    (h : exec i s = .next t) : SiteKeysDistinct t := by
  rcases exec_cases h with reset | ⟨f, -, rfl⟩ | moves
  · exact reset.siteKeysDistinct (by decide) List.nodup_nil
  · exact (judgeOrder_orders f (dropHead .s s)).siteKeys_nodup distinct
  · exact distinct.sublist moves.keys

/-- Settles O57: each of the two properties is kept by every command, and neither reads the queue of commands. -/
theorem everyStepKeepsKeysDistinct : Obligations.EveryStepKeepsKeysDistinct := fun _ _ h =>
  ⟨fun distinct => step_keeps (P := AlarmKeysDistinct) (fun _ _ => id) (fun _ _ _ => exec_keeps_alarmKeysDistinct)
      distinct h,
    fun distinct => step_keeps (P := SiteKeysDistinct) (fun _ _ => id) (fun _ _ _ => exec_keeps_siteKeysDistinct)
      distinct h⟩

end Sys2Proof.Machine
end

section
/-! PROOF. The queues of the ports, the reply queue, the forward run count and the sound-frame counts keep within their
places (R169 to R171, R174): a frame enters a queue where its taker has asked for room, and every other command leaves the
queues or takes from them. -/

namespace Sys2Proof.Machine

/-- A port's two queues are within their places and its sound-frame count is below 32 (R169, R170, R174). -/
structure PortState.Within (x : PortState) : Prop where
  inbound : x.inq.length ≤ inboundPlaces
  forward : x.fwd.length ≤ forwardPlaces
  sound : x.sound < 32

/-- The queues of both ports, the reply queue and the forward run count are within their places (R169 to R171, R174). -/
structure QueuesWithin (s : State) : Prop where
  ports : ∀ p, (s.port p).Within
  replies : s.replyQ.length ≤ replyPlaces
  run : s.fwdRun ≤ 4

/-- What an operation does that places no frame: it keeps the queues within their places and adds no reply. -/
structure QueuesKept (s t : State) : Prop where
  queues : QueuesWithin s → QueuesWithin t
  replies : t.replyQ.length ≤ s.replyQ.length

theorem QueuesKept.refl (s : State) : QueuesKept s s := ⟨id, Nat.le_refl _⟩

theorem QueuesKept.trans {s t u : State} (h : QueuesKept s t) (k : QueuesKept t u) : QueuesKept s u :=
  ⟨fun w => k.queues (h.queues w), k.replies.trans h.replies⟩

theorem QueuesKept.ite {s t u : State} {c : Prop} [Decidable c] (h : QueuesKept s t) (k : QueuesKept s u) :
    QueuesKept s (if c then t else u) := by
  split <;> assumption

/-- What leaves the ports and the reply queue alone keeps the queues. -/
theorem Only.queuesKept {fs : List Field} {s t : State} (h : Only fs s t) (portS : .portS ∉ fs) (portF : .portF ∉ fs)
    (replyQ : .replyQ ∉ fs) (fwdRun : .fwdRun ∉ fs) : QueuesKept s t := by
  have hs : t.portS = s.portS := h.same .portS portS
  have hf : t.portF = s.portF := h.same .portF portF
  have hr : t.replyQ = s.replyQ := h.same .replyQ replyQ
  have hn : t.fwdRun = s.fwdRun := h.same .fwdRun fwdRun
  refine ⟨fun w => ⟨fun p => ?_, hr ▸ w.replies, hn ▸ w.run⟩, hr ▸ Nat.le_refl _⟩
  cases p with
  | s => exact (show t.port .s = s.port .s from hs) ▸ w.ports .s
  | f => exact (show t.port .f = s.port .f from hf) ▸ w.ports .f

theorem Moves.queuesKept {fs : List Field} {s t : State} (h : Moves fs s t) (portS : .portS ∉ fs) (portF : .portF ∉ fs)
    (replyQ : .replyQ ∉ fs) (fwdRun : .fwdRun ∉ fs) : QueuesKept s t := h.only.queuesKept portS portF replyQ fwdRun

/-- An act at the Alarm Unit. -/
theorem Moves.queuesKept_of_alarm {s t : State} (h : Moves [.alarm] s t) : QueuesKept s t :=
  h.queuesKept (by decide) (by decide) (by decide) (by decide)

/-! Writes of the ports and the queues. -/

theorem QueuesWithin.withPort {s : State} (w : QueuesWithin s) (p : Port) {x : PortState} (h : x.Within) :
    QueuesWithin (s.withPort p x) := by
  cases p with
  | s => exact ⟨fun q => by cases q with | s => exact h | f => exact w.ports .f, w.replies, w.run⟩
  | f => exact ⟨fun q => by cases q with | s => exact w.ports .s | f => exact h, w.replies, w.run⟩

theorem withPort_replyQ (s : State) (p : Port) (x : PortState) : (s.withPort p x).replyQ = s.replyQ := by cases p <;> rfl

theorem withPort_queuesKept {s : State} {p : Port} {x : PortState} (h : (s.port p).Within → x.Within) :
    QueuesKept s (s.withPort p x) :=
  ⟨fun w => w.withPort p (h (w.ports p)), Nat.le_of_eq (congrArg List.length (withPort_replyQ s p x))⟩

theorem modPort_queuesKept (p : Port) {f : PortState → PortState} (h : ∀ x, x.Within → (f x).Within) (s : State) :
    QueuesKept s (modPort p f s) := withPort_queuesKept (h _)

/-- A change of a port that leaves its queues and its sound-frame count keeps it within its places. -/
theorem PortState.Within.of_same {x y : PortState} (w : x.Within) (inq : y.inq = x.inq) (fwd : y.fwd = x.fwd)
    (sound : y.sound = x.sound) : y.Within :=
  ⟨inq ▸ w.inbound, fwd ▸ w.forward, sound ▸ w.sound⟩

theorem dropHead_queuesKept (p : Port) (s : State) : QueuesKept s (dropHead p s) :=
  modPort_queuesKept p (fun _ w => by exact ⟨(List.drop_sublist 1 _).length_le.trans w.inbound, w.forward, w.sound⟩) s

theorem dropForward_queuesKept (p : Port) (s : State) : QueuesKept s (dropForward p s) :=
  modPort_queuesKept p (fun _ w => by exact ⟨w.inbound, (List.drop_sublist 1 _).length_le.trans w.forward, w.sound⟩) s

theorem beginSend_queuesKept (p : Port) (f : Frame) (s : State) : QueuesKept s (beginSend p f s) :=
  modPort_queuesKept p (fun _ w => by exact w.of_same rfl rfl rfl) s

/-- A frame enters a forward queue that has room (R170). -/
theorem QueuesWithin.enqueueForward {s : State} (w : QueuesWithin s) {p : Port} (room : forwardRoom s p = true)
    (f : Frame) : QueuesWithin (enqueueForward p f s) := by
  refine w.withPort p ⟨(w.ports p).inbound, ?_, (w.ports p).sound⟩
  rw [List.length_append, List.length_singleton]
  exact of_decide_eq_true room

/-- A frame enters the reply queue, which has room (R170). -/
theorem QueuesWithin.enqueueReply {s : State} (w : QueuesWithin s) (room : s.replyQ.length < replyPlaces) (f : Frame) :
    QueuesWithin (enqueueReply f s) := by
  refine ⟨w.ports, ?_, w.run⟩
  rw [Machine.enqueueReply, State.withReplyQ_replyQ, List.length_append, List.length_singleton]
  exact room

theorem forwardRoom_of_port_fwd {s t : State} {p : Port} (fwd : (t.port p).fwd = (s.port p).fwd) :
    forwardRoom t p = forwardRoom s p := by rw [forwardRoom, forwardRoom, fwd]

/-! Receiving (R167, R168, R174). -/

theorem PortState.Within.receive {x : PortState} (w : x.Within) (b : Byte) (faulty : Bool) :
    (x.receive b faulty).Within := by
  have taken : ∀ r, (x.frameChar r b faulty).Within := fun r => by
    unfold frameChar; split <;> exact w.of_same rfl rfl rfl
  unfold PortState.receive; split
  · exact taken _
  · split
    · split
      · exact w
      · exact taken _
    · exact w.of_same rfl rfl rfl

theorem scoreUp_queuesKept (p : Port) (s : State) : QueuesKept s (scoreUp p s) := by
  have scored : ∀ n, QueuesKept s (s.withPort p { s.port p with score := n }) := fun n =>
    withPort_queuesKept (fun w => w.of_same rfl rfl rfl)
  exact .ite ((scored _).trans (raise_moves ..).queuesKept_of_alarm) (scored _)

theorem dropCounted_queuesKept (p : Port) (count : Counters → Counters) (s : State) :
    QueuesKept s (dropCounted p count s) :=
  (modPort_queuesKept p (fun _ w => by exact w.of_same rfl rfl rfl) s).trans (scoreUp_queuesKept ..)

/-- The sound-frame count goes round at 32 (R174). -/
theorem soundFrame_queuesKept (p : Port) (s : State) : QueuesKept s (soundFrame p s) := by
  unfold soundFrame; dsimp only; split
  next below => exact withPort_queuesKept (fun w => ⟨w.inbound, w.forward, below⟩)
  · have round : QueuesKept s (s.withPort p { s.port p with sound := 0, score := (s.port p).score - 1 }) :=
      withPort_queuesKept (fun w => ⟨w.inbound, w.forward, Nat.zero_lt_succ _⟩)
    exact .ite (round.trans (clear_moves ..).queuesKept_of_alarm) round

/-- A complete frame enters the inbound queue where it finds a place, and is dropped otherwise (R168). -/
theorem checkFrame_queuesKept (p : Port) (s : State) : QueuesKept s (checkFrame p s) := by
  unfold checkFrame; dsimp only
  refine .ite (dropCounted_queuesKept ..) ?_
  split
  · exact dropCounted_queuesKept ..
  · refine .ite ((modPort_queuesKept p (fun _ w => by exact w.of_same rfl rfl rfl) s).trans (soundFrame_queuesKept ..)) ?_
    split
    · exact dropCounted_queuesKept ..
    next k _ room =>
      have enters : QueuesKept s (modPort p (fun x => x.enqueue (x.rx.frame k)) s) := by
        refine withPort_queuesKept (fun w => ⟨?_, w.forward, w.sound⟩)
        dsimp only [PortState.enqueue]
        rw [List.length_append, List.length_singleton]
        omega
      exact enters.trans (soundFrame_queuesKept ..)

theorem waitExpires_queuesKept (p : Port) (bits : Nat) (s : State) : QueuesKept s (waitExpires p bits s) := by
  have counted := modPort_queuesKept p
    (f := fun x => { x with rx := { x.rx with idleBits := x.rx.idleBits + bits } }) (fun _ w => by exact w.of_same rfl rfl rfl) s
  exact .ite (.ite (counted.trans (dropCounted_queuesKept ..)) counted) (.refl s)

/-! Sending (R166, R171, R172). -/

theorem endSend_queuesKept (p : Port) (count : Counters → Counters) (s : State) : QueuesKept s (endSend p count s) :=
  ((moves_withFullReset ..).queuesKept (by decide) (by decide) (by decide) (by decide)).trans
    (modPort_queuesKept p (fun _ w => by exact w.of_same rfl rfl rfl) _)

theorem abandonTx_queuesKept (p : Port) (s : State) : QueuesKept s (abandonTx p s) := by
  unfold abandonTx; split
  · exact .ite ((endSend_queuesKept ..).trans (scoreUp_queuesKept ..)) (.refl s)
  · exact .refl s

theorem characterRepeated_queuesKept (p : Port) (char : Nat) (s : State) : QueuesKept s (characterRepeated p char s) := by
  unfold characterRepeated; split
  · exact modPort_queuesKept p (fun _ w => by exact w.of_same rfl rfl rfl) s
  · exact .refl s

theorem withFwdRun_queuesKept {n : Nat} (h : n ≤ 4) (s : State) : QueuesKept s (s.withFwdRun n) :=
  ⟨fun w => ⟨fun p => w.ports p, w.replies, h⟩, Nat.le_refl _⟩

theorem sendNotice_queuesKept (f : Frame) (s : State) : QueuesKept s (sendNotice f s) :=
  ((only_withAlarm ..).queuesKept (by decide) (by decide) (by decide) (by decide)).trans
    ((withFwdRun_queuesKept (by decide) _).trans (beginSend_queuesKept ..))

/-- The forward run count stops at 4 (R171). -/
theorem sendForwardS_queuesKept (f : Frame) (s : State) : QueuesKept s (sendForwardS f s) :=
  (dropForward_queuesKept .s s).trans ((withFwdRun_queuesKept (Nat.min_le_left ..) _).trans (beginSend_queuesKept ..))

theorem transmitS_queuesKept (s : State) : QueuesKept s (transmitS s) := by
  unfold transmitS; split
  next f rest queue =>
    have taken : QueuesKept s (s.withReplyQ rest) := by
      have shorter : rest.length ≤ s.replyQ.length := by rw [queue]; exact Nat.le_succ _
      exact ⟨fun w => ⟨fun p => w.ports p, shorter.trans w.replies, w.run⟩, shorter⟩
    exact taken.trans (((only_withFullReset ..).queuesKept (by decide) (by decide) (by decide) (by decide)).trans
      (beginSend_queuesKept ..))
  · refine .ite ?_ (.refl s)
    unfold transmitSOthers; split
    · exact .ite (sendNotice_queuesKept ..) (sendForwardS_queuesKept ..)
    · exact sendForwardS_queuesKept ..
    · exact sendNotice_queuesKept ..
    · exact .refl s

/-- A withheld order is answered, which its taking asks room for (R112). -/
theorem QueuesWithin.withholdOrder {s : State} (w : QueuesWithin s) (room : s.replyQ.length < replyPlaces) (f : Frame) :
    QueuesWithin (withholdOrder f s) :=
  ((removeOrder_moves ..).queuesKept (by decide) (by decide) (by decide) (by decide)).queues (w.enqueueReply room _)

theorem QueuesWithin.transmitF {s : State} (w : QueuesWithin s) : QueuesWithin (transmitF s) := by
  unfold Machine.transmitF; split
  · exact (((only_withPrio ..).queuesKept (by decide) (by decide) (by decide) (by decide)).trans
      (beginSend_queuesKept ..)).queues w
  · split
    · unfold takeForwardF; split
      · split
        next room =>
          exact ((dropForward_queuesKept .f s).queues w).withholdOrder (of_decide_eq_true room) _
        · exact w
      · exact ((dropForward_queuesKept .f s).trans (beginSend_queuesKept ..)).queues w
    · exact w

theorem QueuesWithin.transmitTake {s : State} (w : QueuesWithin s) (p : Port) : QueuesWithin (transmitTake p s) := by
  unfold Machine.transmitTake; split
  · exact w
  · cases p with
    | s => exact (transmitS_queuesKept s).queues w
    | f => exact w.transmitF

/-! Frames taken and passed on (R107, R118, R169). -/

theorem QueuesWithin.takeHead {s : State} (w : QueuesWithin s) (p : Port) (ready : State → Frame → Bool)
    (act : Frame → State → State) (h : ∀ f, ready s f = true → QueuesWithin (dropHead p s) →
      QueuesWithin (act f (dropHead p s))) : QueuesWithin (takeHead p ready act s) := by
  rcases takeHead_cases p ready act s with idle | ⟨f, may, taken⟩
  · rwa [idle]
  · rw [taken]; exact h f may ((dropHead_queuesKept p s).queues w)

/-- A head frame leaves an inbound queue, and the forward queues stay. -/
theorem dropHead_forwardRoom (p q : Port) (s : State) : forwardRoom (dropHead p s) q = forwardRoom s q := by
  cases p <;> cases q <;> rfl

/-- A frame is placed in a forward queue behind what its block does, which leaves the queues alone. -/
theorem QueuesWithin.passedOn {fs : List Field} {p : Port} {s u t : State} (w : QueuesWithin u)
    (room : forwardRoom s p = true) (drop : forwardRoom u p = forwardRoom s p) (h : Moves fs u t)
    (portS : .portS ∉ fs) (portF : .portF ∉ fs) (replyQ : .replyQ ∉ fs) (fwdRun : .fwdRun ∉ fs) (f : Frame) :
    QueuesWithin (Machine.enqueueForward p f t) := by
  refine ((h.queuesKept portS portF replyQ fwdRun).queues w).enqueueForward ?_ f
  rw [forwardRoom_of_port_fwd (s := u), drop, room]
  cases p with
  | s => exact congrArg PortState.fwd (h.only.same .portS portS)
  | f => exact congrArg PortState.fwd (h.only.same .portF portF)

theorem QueuesWithin.trackReply {s : State} {f : Frame} (may : trackerReady s f = true)
    (dropped : QueuesWithin (dropHead .f s)) : QueuesWithin (trackReply f (dropHead .f s)) := by
  have room : f.dest.toNat ≠ Config.supervisorAddr → forwardRoom s .s = true := fun other => by
    simp only [trackerReady, Bool.and_eq_true, Bool.or_eq_true, beq_iff_eq, other, false_or] at may
    exact may.2
  have kept : ∀ {u : State}, Moves replyFields (dropHead .f s) u → QueuesKept (dropHead .f s) u := fun h =>
    h.queuesKept (by decide) (by decide) (by decide) (by decide)
  unfold Machine.trackReply; split
  · exact (kept (matchReply_getD_moves _ _ _ _
      ((moves_withTracker _ _ (by exact .refl _)).mono (by decide)))).queues dropped
  next other =>
    split
    · exact dropped.passedOn (room other) (dropHead_forwardRoom ..) (matchReply_getD_moves _ _ _ _ (Moves.refl ..))
        (by decide) (by decide) (by decide) (by decide) f
    · exact dropped.enqueueForward ((dropHead_forwardRoom ..).trans (room other)) f

/-- A judged order is answered or forwarded, and the Gate takes it when there is room for both (R106). -/
theorem QueuesWithin.judgeOrder {s : State} {f : Frame} (may : gateReady s f = true)
    (dropped : QueuesWithin (dropHead .s s)) : QueuesWithin (judgeOrder f (dropHead .s s)) := by
  simp only [gateReady, Bool.and_eq_true] at may
  obtain ⟨⟨-, forwards⟩, replies⟩ := may
  rcases judgeOrder_cases f (dropHead .s s) with ⟨a, c, answered⟩ | ⟨k, v, u, forwarded, -, only⟩
  · rw [answered]; exact dropped.enqueueReply (of_decide_eq_true replies) _
  · rw [forwarded]
    have fwd : (u.port .f).fwd = ((dropHead .s s).port .f).fwd := congrArg PortState.fwd (only.same .portF (by decide))
    exact ((only.queuesKept (by decide) (by decide) (by decide) (by decide)).queues dropped).enqueueForward
      ((forwardRoom_of_port_fwd fwd).trans forwards) _

/-! The requests (R182). -/

/-- A request waits, or it answers: the reply queue has room, and its reply stands behind its effect on the state without
the head frame. -/
theorem request_cases_of_room (code : Nat) (form : FieldForm) (effect : State → State × ManageReply) (s : State) :
    request code form effect s = s ∨ ∃ f, replyRoom s = true ∧ request code form effect s =
      answered f (effect (dropHead .s s)).2 (effect (dropHead .s s)).1 := by
  unfold request whenRunning
  split
  · dsimp only; split
    next f _ =>
      split
      next may => exact .inr ⟨f, (Bool.and_eq_true_iff.mp may.1).2, rfl⟩
      · exact .inl rfl
    · exact .inl rfl
  · exact .inl rfl

theorem QueuesWithin.answered {s t : State} (w : QueuesWithin s) (room : replyRoom s = true)
    (h : QueuesKept (dropHead .s s) t) (f : Frame) (r : ManageReply) : QueuesWithin (answered f r t) :=
  (h.queues ((dropHead_queuesKept .s s).queues w)).enqueueReply
    (Nat.lt_of_le_of_lt (h.replies.trans (dropHead_queuesKept .s s).replies) (of_decide_eq_true room)) _

theorem QueuesWithin.request {s : State} (w : QueuesWithin s) {code : Nat} {form : FieldForm}
    {effect : State → State × ManageReply} (h : ∀ u, QueuesKept u (effect u).1) :
    QueuesWithin (request code form effect s) := by
  rcases request_cases_of_room code form effect s with idle | ⟨f, room, taken⟩
  · rwa [idle]
  · rw [taken]; exact w.answered room (h _) f _

theorem QueuesWithin.badRequest {s : State} (w : QueuesWithin s) : QueuesWithin (badRequest s) := by
  unfold Machine.badRequest; split
  · split
    next may => exact w.answered (Bool.and_eq_true_iff.mp may.1).2 (.refl _) _ _
    · exact w
  · exact w

theorem writePortEffect_queuesKept (port : Nat) (fs : List (PortField × Nat)) (s : State) :
    QueuesKept s (writePortEffect port fs s).1 := by
  unfold writePortEffect; split
  · exact .refl s
  next p _ =>
    have stored := modPort_queuesKept p (f := fun x => { x with settings := storePortFields x.settings fs })
      (fun _ w => w.of_same rfl rfl rfl) s
    unfold refuseIf; dsimp only; split
    · exact .refl s
    · exact stored

theorem clearCounts_queuesKept (s : State) : QueuesKept s (clearCounts s) :=
  (modPort_queuesKept .s (fun _ w => by exact w.of_same rfl rfl rfl) s).trans
    ((modPort_queuesKept .f (fun _ w => by exact w.of_same rfl rfl rfl) _).trans
      ((only_withTracker ..).queuesKept (by decide) (by decide) (by decide) (by decide)))

/-- Step 1 of a Reset TRAFFIC empties the queues (R176, R191). -/
theorem emptyPorts_queuesKept (s : State) : QueuesKept s (emptyPorts s) := by
  have empty : ∀ x : PortState, x.cleanTraffic.Within := fun _ => ⟨Nat.zero_le _, Nat.zero_le _, Nat.zero_lt_succ _⟩
  refine ⟨fun _ => ⟨fun p => ?_, Nat.zero_le _, Nat.zero_le _⟩, Nat.zero_le _⟩
  cases p <;> exact empty _

theorem resetTrafficEffect_queuesKept (kind : Nat) (s : State) : QueuesKept s (resetTrafficEffect kind s).1 := by
  rcases resetTrafficEffect_cases kind s with refused | reset
  · rw [refused]; exact .refl s
  · rw [reset]
    exact (emptyPorts_queuesKept s).trans
      (((emptyTracker_moves ..).queuesKept (by decide) (by decide) (by decide) (by decide)).trans
        ((clear_moves ..).queuesKept_of_alarm.trans ((clear_moves ..).queuesKept_of_alarm.trans
          ((haltIssued_moves ..).queuesKept (by decide) (by decide) (by decide) (by decide)))))

/-! The commands. -/

/-- A request's command keeps the queues when its effect leaves them alone. -/
theorem exec_request_queuesWithin {code : Nat} {form : FieldForm} {effect : State → State × ManageReply} {s t : State}
    {fs : List Field} (h : Host.Outcome.next (φ := Fault) (ρ := Refusal) (request code form effect s) = .next t)
    (w : QueuesWithin s) (effectMoves : ∀ u, Moves fs u (effect u).1) (portS : .portS ∉ fs := by decide)
    (portF : .portF ∉ fs := by decide) (replyQ : .replyQ ∉ fs := by decide) (fwdRun : .fwdRun ∉ fs := by decide) :
    QueuesWithin t :=
  Host.Outcome.next.inj h ▸ w.request (fun u => (effectMoves u).queuesKept portS portF replyQ fwdRun)

/-- Every request keeps the queues: its reply has room, and three alone write the ports in their effects. -/
theorem exec_isRequest_queuesWithin {i : Instr} {s t : State} (w : QueuesWithin s) (h : exec i s = .next t)
    (isReq : isRequest i = true) : QueuesWithin t := by
  cases i with
  | manageBadRequest =>
    rw [← Host.Outcome.next.inj h, whenRunning]; split
    · exact w.badRequest
    · exact w
  | writePortSettings port fs => exact Host.Outcome.next.inj h ▸ w.request (writePortEffect_queuesKept port fs)
  | readPortCounters clear =>
    exact Host.Outcome.next.inj h ▸ w.request (fun u => .ite (clearCounts_queuesKept u) (.refl u))
  | resetTraffic kind =>
    have e := Host.Outcome.next.inj h
    split at e
    · exact e ▸ w
    · exact e ▸ w.request (resetTrafficEffect_queuesKept kind)
  | acceptReplacementNew i choice =>
    have e := Host.Outcome.next.inj h
    split at e
    · exact e ▸ w
    · exact exec_request_queuesWithin (congrArg _ e) w (acceptNewEffect_moves i choice)
  | readIdentity => exact exec_request_queuesWithin h w (fun u => Moves.refl [] u)
  | writeNodeEntry index r => exact exec_request_queuesWithin h w (writeNodeEffect_moves index r)
  | clearNodeEntry index => exact exec_request_queuesWithin h w (clearNodeEffect_moves index)
  | readNodeEntry index => exact exec_request_queuesWithin h w (fun u => refuseIf_moves _ _ _ u (Moves.refl [] u))
  | startSupervision => exact exec_request_queuesWithin h w startEffect_moves
  | stopSupervision => exact exec_request_queuesWithin h w stopEffect_moves
  | writeGroupParameters g fs =>
    exact exec_request_queuesWithin h w (fun u => refuseIf_moves _ _ _ u (moves_withSeq ..))
  | writeLimitEntry k r => exact exec_request_queuesWithin h w (writeLimitEffect_moves k r)
  | writeAlarmClass code level la sh => exact exec_request_queuesWithin h w (writeClassEffect_moves code level la sh)
  | writeGateEntry kind cls => exact exec_request_queuesWithin h w (writeGateEffect_moves kind cls)
  | stageAgeingParameters fs =>
    exact exec_request_queuesWithin h w (fun u => refuseIf_moves _ _ _ u (moves_withParams ..))
  | commitAgeingParameters => exact exec_request_queuesWithin h w commitEffect_moves
  | readAgeingParameters copy => exact exec_request_queuesWithin h w (readParamsEffect_moves copy)
  | readCabinetRecord c => exact exec_request_queuesWithin h w (onRecord_moves 15 c 24 cab? (fun _ u => Moves.refl [] u))
  | readStringRecord i => exact exec_request_queuesWithin h w (onRecord_moves 16 i 32 str? (fun _ u => Moves.refl [] u))
  | readStringBlocks i first => exact exec_request_queuesWithin h w (readBlocksEffect_moves i first)
  | readStringAgeing i part first => exact exec_request_queuesWithin h w (readAgeingEffect_moves i part first)
  | stringRestore i r => exact exec_request_queuesWithin h w (restoreEffect_moves i r)
  | acceptReplacementSame i => exact exec_request_queuesWithin h w (acceptSameEffect_moves i)
  | readAlarmList start =>
    exact exec_request_queuesWithin h w (fun u => moves_withAlarm u _ (.relabel _ _ rfl rfl))
  | acknowledgeAlarm code kind index => exact exec_request_queuesWithin h w (acknowledgeEffect_moves code kind index)
  | planRequest kind g target => exact exec_request_queuesWithin h w (planRequestEffect_moves kind g target)
  | planResume id =>
    exact exec_request_queuesWithin h w
      (onPlan_moves 24 id (fun g p u => refuseIf_moves _ _ _ u (resumePlan_moves g p u)))
  | planAbandon id => exact exec_request_queuesWithin h w (onPlan_moves 25 id abandonPlan_moves)
  | readPlan g =>
    exact exec_request_queuesWithin h w
      (fun u => refuseIf_moves _ _ _ u (refuseIf_moves _ _ _ u (Moves.refl [] u)))
  | visitOpen r => exact exec_request_queuesWithin h w (visitOpenEffect_moves r)
  | visitClose id => exact exec_request_queuesWithin h w (onVisit_moves 28 id _ closeVisit_moves)
  | visitForceClose id => exact exec_request_queuesWithin h w (onVisit_moves 29 id _ forceCloseVisit_moves)
  | visitCancel id =>
    exact exec_request_queuesWithin h w
      (onVisit_moves 30 id _ (fun k v u => leaveRegister_moves k v .cancelled false u))
  | readVisit id => exact exec_request_queuesWithin h w (readVisitEffect_moves id)
  | resetFull => exact exec_request_queuesWithin h w (fun u => moves_withFullReset ..)
  | _ => cases isReq

theorem reset_queuesWithin : QueuesWithin State.reset :=
  ⟨fun p => by cases p <;> exact ⟨Nat.zero_le _, Nat.zero_le _, by decide⟩, Nat.zero_le _, Nat.zero_le _⟩

/-- Every command keeps the queues within their places. -/
theorem exec_keeps_queuesWithin {i : Instr} {s t : State} (w : QueuesWithin s) (h : exec i s = .next t) :
    QueuesWithin t := by
  have running : ∀ {f : State → State}, Host.Outcome.next (φ := Fault) (ρ := Refusal) (whenRunning f s) = .next t →
      QueuesWithin (f s) → QueuesWithin t := fun {f} e acted => by
    rw [← Host.Outcome.next.inj e]
    rcases whenRunning_cases f s with idle | acts
    · rwa [idle]
    · rwa [acts]
  cases isReq : isRequest i with
  | true => exact exec_isRequest_queuesWithin w h isReq
  | false =>
    cases isReset : isFullReset i with
    | true =>
      rcases exec_fullReset_only h isReset with rfl | reset
      · exact w
      · exact (reset.queuesKept (by decide) (by decide) (by decide) (by decide)).queues reset_queuesWithin
    | false =>
      cases i with
      | idleDetected p bits => exact running h ((modPort_queuesKept p (fun _ w => by exact w.of_same rfl rfl rfl) s).queues w)
      | characterReceived p data parity stop =>
        exact running h ((modPort_queuesKept p (fun _ w => w.receive _ _) s).queues w)
      | characterRepeated p char => exact running h ((characterRepeated_queuesKept p char s).queues w)
      | frameComplete p => exact running h ((QueuesKept.ite (checkFrame_queuesKept p s) (.refl s)).queues w)
      | payloadLengthTooLong p | abandonedRx p =>
        exact running h ((QueuesKept.ite (dropCounted_queuesKept p _ s) (.refl s)).queues w)
      | characterWaitExpiry p bits => exact running h ((waitExpires_queuesKept p bits s).queues w)
      | reportInspection =>
        refine running h (w.takeHead _ _ _ (fun f may dropped => ?_))
        exact dropped.passedOn (Bool.and_eq_true_iff.mp may).2 (dropHead_forwardRoom ..) (inspect_moves f _) (by decide)
          (by decide) (by decide) (by decide) f
      | replyMatch => exact running h (w.takeHead _ _ _ (fun f may dropped => dropped.trackReply may))
      | siteOrderJudgement => exact running h (w.takeHead _ _ _ (fun f may dropped => dropped.judgeOrder may))
      | frameForward p =>
        refine running h (w.takeHead _ _ _ (fun f may dropped => ?_))
        exact dropped.enqueueForward ((dropHead_forwardRoom ..).trans (Bool.and_eq_true_iff.mp may).2) f
      | transmitTake p => exact running h (w.transmitTake p)
      | frameSent p => exact running h ((QueuesKept.ite (endSend_queuesKept p _ s) (.refl s)).queues w)
      | abandonedTx p => exact running h ((abandonTx_queuesKept p s).queues w)
      | watchExpiry n =>
        refine ((exec_moves h rfl (by nofun)).queuesKept ?_ ?_ ?_ ?_).queues w <;> cases n <;> simp [touches]
      | replyWindowExpiry k | completionWindowExpiry k =>
        refine ((exec_moves h rfl (by nofun)).queuesKept ?_ ?_ ?_ ?_).queues w <;> dsimp only [touches] <;>
          cases k.origin <;> decide
      | resetLineAsserted | visitHandOff | ageingUpdate | rampStepJudgement | quietTimerExpiry | settleExpiry
        | rampIntervalExpiry | matchWindowExpiry | stepTrigger | recoveryTimerExpiry | prepareTimerExpiry
        | durationTimerExpiry | closeTimerExpiry | floorClockTick =>
        refine ((exec_moves h rfl (by nofun)).queuesKept ?_ ?_ ?_ ?_).queues w <;>
          simp [touches, planFields]
      | powerOn | resetLineReleased | fullResetTaken => cases isReset
      | _ => cases isReq

end Sys2Proof.Machine
end

section
/-! PROOF. The scopes of the Visit Register and the Force Close list name each cabinet at most once, and cabinets alone (R147,
R160): a visit enters with the ascending scope of its request, keeps it, and leaves it to the list at a force close. -/

namespace Sys2Proof.Machine

/-! What a request, a guard and a fold keep. -/

theorem refuseIf_keeps {P : State → Prop} (b : Bool) (r : ManageReply) {rest : State → State × ManageReply} {s : State}
    (inv : P s) (h : P (rest s).1) : P (refuseIf b r rest s).1 := by
  unfold refuseIf; split <;> assumption

theorem refuseOffender_keeps {P : State → Prop} (o : Option Nat) (c : Cause) {rest : State → State × ManageReply}
    {s : State} (inv : P s) (h : P (rest s).1) : P (refuseOffender o c rest s).1 := by
  unfold refuseOffender; split <;> assumption

theorem foldl_keeps {α : Type} {P : State → Prop} {g : State → α → State} (h : ∀ s a, P s → P (g s a)) (l : List α)
    {s : State} (inv : P s) : P (l.foldl g s) := by
  induction l generalizing s with
  | nil => exact inv
  | cons a l ih => exact ih (h s a inv)

/-- A request keeps what its effect keeps, where that reads neither Port S nor the reply queue. -/
theorem exec_request_keeps {P : State → Prop} {code : Nat} {form : FieldForm} {effect : State → State × ManageReply}
    {s t : State} (h : Host.Outcome.next (φ := Fault) (ρ := Refusal) (request code form effect s) = .next t)
    (frame : ∀ u v, Only [.portS, .replyQ] u v → P u → P v) (inv : P s) (effectKeeps : ∀ u, P u → P (effect u).1) :
    P t := by
  rw [← Host.Outcome.next.inj h]
  rcases request_cases code form effect s with idle | ⟨f, taken⟩
  · rwa [idle]
  · rw [taken]
    exact frame _ _ ((enqueueReply_moves ..).only.mono (by decide))
      (effectKeeps _ (frame _ _ ((dropHead_moves .s s).only.mono (by decide)) inv))

theorem exec_running_keeps {P : State → Prop} {f : State → State} {s t : State}
    (h : Host.Outcome.next (φ := Fault) (ρ := Refusal) (whenRunning f s) = .next t) (inv : P s) (acted : P (f s)) :
    P t := by
  rw [← Host.Outcome.next.inj h]
  rcases whenRunning_cases f s with idle | acts
  · rwa [idle]
  · rwa [acts]

theorem onVisit_keeps {P : State → Prop} (code id : Nat) (allowed : VisitState → Bool)
    {act : Nat → Visit → State → State × ManageReply} {s : State} (inv : P s)
    (h : ∀ k v, visitById s id = some (k, v) → P (act k v s).1) : P (onVisit code id allowed act s).1 := by
  refine refuseIf_keeps _ _ inv ?_
  split
  · exact inv
  next k v found => exact refuseIf_keeps _ _ inv (h k v found)

/-! The scopes. -/

/-- A visit's cabinet scope names each cabinet once, and cabinets alone (R147). -/
def Visit.InRange (v : Visit) : Prop := v.cabinets.Nodup ∧ ∀ c ∈ v.cabinets, c < 24

/-- A search of the register finds an entry that passes its test. -/
theorem findVisit_some {s : State} {p : Visit → Bool} {k : Nat} {v : Visit} (h : findVisit s p = some (k, v)) :
    visitEntry? s k = some v ∧ p v = true := by
  obtain ⟨j, -, found⟩ := List.exists_of_findSome?_eq_some h
  obtain ⟨w, holds, same⟩ := Option.map_eq_some_iff.mp found
  obtain ⟨rfl, rfl⟩ := Prod.mk.inj same
  exact Option.filter_eq_some_iff.mp holds

theorem Only.scopesInRange {fs : List Field} {s t : State} (h : Only fs s t) (noVisits : .visits ∉ fs)
    (inv : ScopesInRange s) : ScopesInRange t := by
  have same : t.visits = s.visits := h.same .visits noVisits
  refine ⟨by rw [same]; exact inv.forceClose, fun k v held => inv.scopes k v ?_⟩
  rwa [visitEntry?, same] at held

/-- An act at the Alarm Unit. -/
theorem Moves.scopesInRange_of_alarm {s t : State} (h : Moves [.alarm] s t) (inv : ScopesInRange s) :
    ScopesInRange t := h.only.scopesInRange (by decide) inv

section
variable {s : State} (inv : ScopesInRange s)
include inv

theorem ScopesInRange.setVisit {k : Nat} {x : Option Visit} (h : ∀ v, x = some v → v.InRange) :
    ScopesInRange (setVisit k x s) := by
  refine ⟨inv.forceClose, fun j v held => ?_⟩
  rw [visitEntry?_setVisit] at held
  split at held
  · exact h v held
  · exact inv.scopes j v held

/-- A visit that keeps its scope. -/
theorem ScopesInRange.setVisit_some {k : Nat} {v : Visit} (range : v.InRange) :
    ScopesInRange (Machine.setVisit k (some v) s) := inv.setVisit (fun _ same => Option.some.inj same ▸ range)

theorem ScopesInRange.leaveRegister (k : Nat) (v : Visit) (final : VisitState) (byDoors : Bool) :
    ScopesInRange (leaveRegister k v final byDoors s) := by
  have freed : ScopesInRange (Machine.setVisit k none s) := inv.setVisit (fun _ none => nomatch none)
  have same : (Machine.leaveRegister k v final byDoors s).visits = (Machine.setVisit k none s).visits :=
    (leaveRegister_leaves k v final byDoors s).visits
  refine ⟨by rw [same]; exact freed.forceClose, fun j w held => freed.scopes j w ?_⟩
  rwa [visitEntry?, same] at held

theorem ScopesInRange.releaseForce (c : Nat) : ScopesInRange (releaseForce c s) :=
  ⟨⟨inv.forceClose.1.sublist (List.filter_sublist.map _), fun x hx => inv.forceClose.2 x (List.mem_of_mem_filter hx)⟩,
    inv.scopes⟩

/-- The cabinets of a scope enter the list, which they have left before (R157, R160). -/
theorem ScopesInRange.placeForce {v : Visit} (range : v.InRange) : ScopesInRange (placeForce v s) := by
  have placed : (v.cabinets.map (fun c => (c, v.id))).map Prod.fst = v.cabinets := by
    rw [List.map_map]; exact List.map_id _
  refine ⟨⟨?_, fun x hx => ?_⟩, inv.scopes⟩
  · rw [Machine.placeForce, State.withVisits_visits, List.map_append, placed]
    refine List.nodup_append.mpr ⟨inv.forceClose.1.sublist (List.filter_sublist.map _), range.1, ?_⟩
    intro c left c' entered same
    obtain ⟨x, hx, rfl⟩ := List.mem_map.mp left
    have gone := (List.mem_filter.mp hx).2
    rw [same, List.contains_iff_mem.mpr entered] at gone
    cases gone
  · rcases List.mem_append.mp hx with left | entered
    · exact inv.forceClose.2 x (List.mem_of_mem_filter left)
    · obtain ⟨c, hc, rfl⟩ := List.mem_map.mp entered
      exact range.2 c hc

theorem ScopesInRange.judgePreparing {k : Nat} {v : Visit} (range : v.InRange) :
    ScopesInRange (judgePreparing k v s) := by
  unfold Machine.judgePreparing; split
  · exact (visitNotice_moves ..).scopesInRange_of_alarm (inv.setVisit_some range)
  · exact inv

theorem ScopesInRange.visitWork (h : VisitHand) : ScopesInRange (visitWork h s) := by
  unfold Machine.visitWork; split
  next k v found =>
    have judged := (judgeCondition_moves v h.cabinet s).scopesInRange_of_alarm inv
    split
    · exact inv.judgePreparing (inv.scopes k v (findVisit_some found).1)
    · exact judged
    · unfold judgeClosingDoor; split
      · have cleared := (clear_moves codeDoorLeftOpen (.cabinet h.cabinet) _).scopesInRange_of_alarm judged
        dsimp only; split
        · exact cleared.leaveRegister ..
        · exact cleared
      · split
        · exact (raise_moves ..).scopesInRange_of_alarm judged
        · exact judged
    · exact inv
  · exact inv

theorem ScopesInRange.doorJudgement (c : Nat) (d : Door) : ScopesInRange (doorJudgement c d s) := by
  unfold Machine.doorJudgement; split
  · split
    · exact inv
    · exact (clear_moves ..).scopesInRange_of_alarm inv
  · split
    · exact (raise_moves ..).scopesInRange_of_alarm inv
    · exact (clear_moves ..).scopesInRange_of_alarm ((clear_moves ..).scopesInRange_of_alarm
        ((clear_moves ..).scopesInRange_of_alarm (inv.releaseForce c)))
    · exact (raise_moves ..).scopesInRange_of_alarm inv
    · exact (clear_moves ..).scopesInRange_of_alarm inv

theorem ScopesInRange.prepareExpires (id : Nat) : ScopesInRange (prepareExpires id s) := by
  unfold Machine.prepareExpires; split
  · split
    · exact inv.leaveRegister ..
    · exact inv
  · exact inv

theorem ScopesInRange.durationExpires (id : Nat) : ScopesInRange (durationExpires id s) := by
  unfold Machine.durationExpires; split
  next k v found =>
    split
    · exact (raise_moves ..).scopesInRange_of_alarm (inv.setVisit_some (inv.scopes k v (findVisit_some found).1))
    · exact inv
  · exact inv

theorem ScopesInRange.closeExpires (id : Nat) : ScopesInRange (closeExpires id s) := by
  unfold Machine.closeExpires; split
  next k v found =>
    split
    · exact (raiseOpenDoors_moves ..).scopesInRange_of_alarm (inv.setVisit_some (inv.scopes k v (findVisit_some found).1))
    · exact inv
  · exact inv

theorem ScopesInRange.openVisit {v : Visit} (k : Nat) (range : v.InRange) : ScopesInRange (openVisit k v s) := by
  have released : ScopesInRange (releaseScoped v.cabinets (Machine.setVisit k (some v) s)) :=
    foldl_keeps (fun _ c kept => (clear_moves ..).scopesInRange_of_alarm
      ((clear_moves ..).scopesInRange_of_alarm (kept.releaseForce c))) _ (inv.setVisit_some range)
  exact ((visitNotice_moves ..).scopesInRange_of_alarm released).judgePreparing range

theorem ScopesInRange.closeVisit {v : Visit} (k : Nat) (range : v.InRange) : ScopesInRange (closeVisit k v s) := by
  have closing : ∀ w : Visit, w.cabinets = v.cabinets →
      ScopesInRange (visitNotice w .closing (Machine.setVisit k (some w) s)) := fun w same =>
    (visitNotice_moves ..).scopesInRange_of_alarm (inv.setVisit_some (by unfold Visit.InRange; rwa [same]))
  unfold Machine.closeVisit; dsimp only; split
  · exact (closing _ (by rfl)).leaveRegister ..
  · exact closing _ rfl

theorem ScopesInRange.forceCloseVisit {v : Visit} (k : Nat) (range : v.InRange) :
    ScopesInRange (forceCloseVisit k v s) :=
  (((raiseOpenDoors_moves ..).scopesInRange_of_alarm inv).placeForce range).leaveRegister ..

/-- A visit opens with the ascending scope of its request (R147, R149). -/
theorem ScopesInRange.visitOpenEffect (r : VisitReq) : ScopesInRange (visitOpenEffect r s).1 := by
  have range : ∀ u d, (preparingVisit u r d).InRange := fun u d =>
    ⟨List.nodup_range.filter _, fun c hc => List.mem_range.mp (List.mem_of_mem_filter hc)⟩
  refine refuseIf_keeps _ _ inv ?_
  dsimp only; split
  · exact inv
  · refine refuseIf_keeps _ _ inv ?_
    split
    · exact inv
    · exact refuseIf_keeps _ _ inv (refuseOffender_keeps _ _ inv (refuseOffender_keeps _ _ inv
        (refuseOffender_keeps _ _ inv (inv.openVisit _ (range ..)))))

theorem ScopesInRange.stopEffect : ScopesInRange (stopEffect s).1 := by
  refine refuseIf_keeps _ _ inv (refuseIf_keeps _ _ inv ?_)
  refine ⟨?_, fun k v held => inv.scopes k v ?_⟩
  · rw [stopSupervision_visits]; exact ⟨List.nodup_nil, fun _ h => nomatch h⟩
  · rwa [visitEntry?, stopSupervision_visits] at held

end

theorem reset_scopesInRange : ScopesInRange State.reset :=
  ⟨⟨List.nodup_nil, fun _ h => nomatch h⟩, fun k v held => by
    cases (getElem?_replicate_none_join 8 k).symm.trans held⟩

/-- Every command keeps the scopes and the Force Close list in range. -/
theorem exec_keeps_scopesInRange {i : Instr} {s t : State} (inv : ScopesInRange s) (h : exec i s = .next t) :
    ScopesInRange t := by
  have frame : ∀ u v, Only [.portS, .replyQ] u v → ScopesInRange u → ScopesInRange v := fun _ _ only =>
    only.scopesInRange (by decide)
  have onVisitKeeps : ∀ {code : Nat} {allowed : VisitState → Bool} {form : FieldForm} {id : Nat}
      {act : Nat → Visit → State → State × ManageReply},
      request code form (onVisit code id allowed act) s = t →
      (∀ k v u, ScopesInRange u → v.InRange → ScopesInRange (act k v u).1) → ScopesInRange t := fun e acts =>
    exec_request_keeps (congrArg _ e) frame inv (fun u kept => onVisit_keeps _ _ _ kept (fun k v found =>
      acts k v u kept (kept.scopes k v (findVisit_some found).1)))
  cases isReset : isFullReset i with
  | true =>
    rcases exec_fullReset_only h isReset with rfl | reset
    · exact inv
    · exact reset.scopesInRange (by decide) reset_scopesInRange
  | false =>
    cases i with
    | powerOn | resetLineReleased | fullResetTaken => cases isReset
    | siteOrderJudgement =>
      rcases exec_siteOrderJudgement_cases h with rfl | ⟨f, -, rfl⟩
      · exact inv
      · exact (judgeOrder_only f _).scopesInRange (by decide)
          ((dropHead_moves .s s).only.scopesInRange (by decide) inv)
    | visitHandOff =>
      refine exec_running_keeps h inv ?_
      dsimp only; split
      next hand rest _ =>
        have taken : ScopesInRange (s.withHand { s.hand with visit := rest }) :=
          (only_withHand ..).scopesInRange (by decide) inv
        exact (taken.visitWork hand).doorJudgement ..
      · exact inv
    | prepareTimerExpiry id => exact exec_running_keeps h inv (inv.prepareExpires id)
    | durationTimerExpiry id => exact exec_running_keeps h inv (inv.durationExpires id)
    | closeTimerExpiry id => exact exec_running_keeps h inv (inv.closeExpires id)
    | stopSupervision => exact exec_request_keeps h frame inv (fun _ kept => kept.stopEffect)
    | visitOpen r => exact exec_request_keeps h frame inv (fun _ kept => kept.visitOpenEffect r)
    | visitClose id => exact onVisitKeeps (Host.Outcome.next.inj h) (fun k _ _ kept range => kept.closeVisit k range)
    | visitForceClose id =>
      exact onVisitKeeps (Host.Outcome.next.inj h) (fun k _ _ kept range => kept.forceCloseVisit k range)
    | visitCancel id => exact onVisitKeeps (Host.Outcome.next.inj h) (fun _ _ _ kept _ => kept.leaveRegister ..)
    | replyWindowExpiry k | completionWindowExpiry k =>
      refine (exec_moves h rfl (by nofun)).only.scopesInRange ?_ inv
      dsimp only [touches]
      cases k.origin <;> decide
    | transmitTake p | frameSent p | abandonedTx p =>
      refine (exec_moves h rfl (by nofun)).only.scopesInRange ?_ inv
      cases p <;> decide
    | watchExpiry n =>
      refine (exec_moves h rfl (by nofun)).only.scopesInRange ?_ inv
      cases n <;> simp [touches]
    | _ =>
      refine (exec_moves h rfl (by nofun)).only.scopesInRange ?_ inv
      simp [touches, requestFields, planFields, portField_ne_visits]

end Sys2Proof.Machine
end

section
/-! PROOF. The plan-origin entries of the Outstanding Order List: at most one for each slot, whose plan is ISSUED or HALTED
(R116, R133, R141 to R143). A plan issues from a state without an entry, and leaves ISSUED or HALTED when its entry has
gone. -/

namespace Sys2Proof.Machine

/-- A plan in this state may have an entry among the orders: it is ISSUED or HALTED (R133, R140). -/
def PlanState.HoldsEntry (x : PlanState) : Prop := x = .issued ∨ x = .halted

/-- The slots of the plan-origin entries, oldest first (R116). -/
def entrySlots (s : State) : List (Option Nat) := (s.tracker.orders.filter (fun e => e.origin == .plan)).map (·.slot)

/-- The slot has no entry among the orders. -/
def SlotFree (s : State) (g : Nat) : Prop := some g ∉ entrySlots s

theorem planEntriesInPlace_iff (s : State) : PlanEntriesInPlace s ↔ (entrySlots s).Nodup ∧
    ∀ x ∈ entrySlots s, ∃ g p, x = some g ∧ plan? s g = some p ∧ p.state.HoldsEntry := by
  constructor
  · intro inv
    refine ⟨inv.distinct, fun x hx => ?_⟩
    obtain ⟨e, he, rfl⟩ := List.mem_map.mp hx
    obtain ⟨listed, origin⟩ := List.mem_filter.mp he
    exact inv.held e listed (beq_iff_eq.mp origin)
  · rintro ⟨distinct, held⟩
    exact ⟨fun e listed origin => held _ (List.mem_map_of_mem (List.mem_filter.mpr ⟨listed, beq_iff_eq.mpr origin⟩)),
      distinct⟩

theorem refuseIf_keeps_of_passed {P : State → Prop} (b : Bool) (r : ManageReply) {rest : State → State × ManageReply}
    {s : State} (inv : P s) (h : b = false → P (rest s).1) : P (refuseIf b r rest s).1 := by
  unfold refuseIf; split
  · exact inv
  next passed => exact h (by simpa using passed)

/-! The orders under their changes. -/

theorem entrySlots_eq_of_tracker {s t : State} (h : t.tracker.orders = s.tracker.orders) : entrySlots t = entrySlots s := by
  rw [entrySlots, h]; rfl

/-- Entries changed under their origins and slots. -/
theorem entrySlots_map {s t : State} {g : OrderEntry → OrderEntry} (origin : ∀ e, (g e).origin = e.origin)
    (slot : ∀ e, (g e).slot = e.slot) (h : t.tracker.orders = s.tracker.orders.map g) :
    entrySlots t = entrySlots s := by
  have keeps : (fun e : OrderEntry => e.origin == .plan) ∘ g = fun e => e.origin == .plan := funext fun e => by
    rw [Function.comp_apply, origin]
  rw [entrySlots, h, List.filter_map, keeps, List.map_map, entrySlots]
  exact List.map_congr_left fun e _ => slot e

theorem entrySlots_filter_sublist {s t : State} {q : OrderEntry → Bool}
    (h : t.tracker.orders = s.tracker.orders.filter q) : (entrySlots t).Sublist (entrySlots s) := by
  rw [entrySlots, h]
  exact (List.filter_sublist.filter _).map _

theorem removeOrder_entrySlots_sublist (k : OrderKey) (s : State) :
    (entrySlots (removeOrder k s)).Sublist (entrySlots s) := entrySlots_filter_sublist rfl

theorem entrySlots_modOrder (k : OrderKey) {f : OrderEntry → OrderEntry} (origin : ∀ e, (f e).origin = e.origin)
    (slot : ∀ e, (f e).slot = e.slot) (s : State) : entrySlots (modOrder k f s) = entrySlots s := by
  refine entrySlots_map (fun e => ?_) (fun e => ?_) rfl
  · split
    · exact origin e
    · rfl
  · split
    · exact slot e
    · rfl

theorem entrySlots_lapseSlot (g : Nat) (s : State) : entrySlots (lapseSlot g s) = entrySlots s := by
  refine entrySlots_map (fun e => ?_) (fun e => ?_) rfl <;> split <;> rfl

/-- A judged site order leaves the plan-origin entries (R107). -/
theorem OrdersJudged.entrySlots {s t : State} (h : OrdersJudged s t) : entrySlots t = entrySlots s := by
  cases h with
  | same orders => exact entrySlots_eq_of_tracker orders
  | repeated g key slot orders => exact entrySlots_map (fun e => congrArg OrderKey.origin (key e)) slot orders
  | tracked e site _ _ orders =>
    rw [Machine.entrySlots, orders, List.filter_append, List.map_append]
    simp [site, Machine.entrySlots]

theorem SlotFree.of_sublist {s t : State} {g : Nat} (free : SlotFree s g)
    (h : (entrySlots t).Sublist (entrySlots s)) : SlotFree t g := fun held => free (h.subset held)

theorem Only.slotFree {fs : List Field} {s t : State} {g : Nat} (h : Only fs s t) (noTracker : .tracker ∉ fs)
    (free : SlotFree s g) : SlotFree t g := by
  refine free.of_sublist ?_
  rw [entrySlots_eq_of_tracker (congrArg Tracker.orders (h.same .tracker noTracker))]

/-- The slot's entry leaves the orders (R141, R142). -/
theorem removeSlotOrder_slotFree (g : Nat) (s : State) : SlotFree (removeSlotOrder g s) g := by
  intro held
  obtain ⟨e, he, slot⟩ := List.mem_map.mp held
  obtain ⟨listed, origin⟩ := List.mem_filter.mp he
  have other := (List.mem_filter.mp listed).2
  simp [OrderEntry.ofSlot, beq_iff_eq.mp origin, slot] at other

/-! The invariant under the changes of the orders and the plans. -/

section
variable {s t : State} (inv : PlanEntriesInPlace s)
include inv

/-- Fewer entries, whose plans stay. -/
theorem PlanEntriesInPlace.of_sublist (slots : (entrySlots t).Sublist (entrySlots s)) (plans : t.seq.plans = s.seq.plans) :
    PlanEntriesInPlace t := by
  obtain ⟨distinct, held⟩ := (planEntriesInPlace_iff s).mp inv
  refine (planEntriesInPlace_iff t).mpr ⟨distinct.sublist slots, fun x hx => ?_⟩
  simpa only [plan?, plans] using held x (slots.subset hx)

theorem PlanEntriesInPlace.of_entrySlots (slots : entrySlots t = entrySlots s) (plans : t.seq.plans = s.seq.plans) :
    PlanEntriesInPlace t := inv.of_sublist (slots ▸ .refl _) plans

theorem PlanEntriesInPlace.of_only {fs : List Field} (h : Only fs s t) (noTracker : .tracker ∉ fs)
    (noSeq : .seq ∉ fs) : PlanEntriesInPlace t :=
  inv.of_entrySlots (entrySlots_eq_of_tracker (congrArg Tracker.orders (h.same .tracker noTracker)))
    (congrArg Sequencer.plans (h.same .seq noSeq))

theorem PlanEntriesInPlace.of_alarm (h : Moves [.alarm] s t) : PlanEntriesInPlace t :=
  inv.of_only h.only (by decide) (by decide)

/-- A slot is free unless its plan is ISSUED or HALTED. -/
theorem PlanEntriesInPlace.slotFree {g : Nat} (h : ∀ p, plan? s g = some p → ¬p.state.HoldsEntry) : SlotFree s g := by
  intro held
  obtain ⟨j, p, same, found, holds⟩ := ((planEntriesInPlace_iff s).mp inv).2 _ held
  cases same
  exact h p found holds

theorem PlanEntriesInPlace.slotFree_of_state {g : Nat} {p : Plan} (found : plan? s g = some p)
    (other : ¬p.state.HoldsEntry) : SlotFree s g :=
  inv.slotFree (fun _ here => Option.some.inj (found.symm.trans here) ▸ other)

/-- A slot is written: it is free, or its new plan may have the entry. -/
theorem PlanEntriesInPlace.setPlan {g : Nat} {x : Option Plan}
    (h : SlotFree s g ∨ ∃ q, x = some q ∧ q.state.HoldsEntry) : PlanEntriesInPlace (setPlan g x s) := by
  obtain ⟨distinct, held⟩ := (planEntriesInPlace_iff s).mp inv
  have slots : entrySlots (Machine.setPlan g x s) = entrySlots s := rfl
  refine (planEntriesInPlace_iff _).mpr ⟨distinct, fun y hy => ?_⟩
  obtain ⟨j, p, rfl, found, holds⟩ := held y hy
  by_cases here : g = j
  · subst here
    rcases h with free | ⟨q, rfl, stays⟩
    · exact absurd hy free
    · exact ⟨g, q, rfl, by rw [plan?_setPlan, if_pos ⟨rfl, plan?_lt found⟩], stays⟩
  · exact ⟨j, p, rfl, by rw [plan?_setPlan, if_neg (fun both => here both.1)]; exact found, holds⟩

theorem PlanEntriesInPlace.setPlan_of_free {g : Nat} (free : SlotFree s g) (x : Option Plan) :
    PlanEntriesInPlace (Machine.setPlan g x s) := inv.setPlan (.inl free)

/-- A plan changed under its state. -/
theorem PlanEntriesInPlace.setPlan_of_same {g : Nat} {p q : Plan} (found : plan? s g = some p)
    (same : q.state = p.state) : PlanEntriesInPlace (Machine.setPlan g (some q) s) := by
  by_cases holds : p.state.HoldsEntry
  · exact inv.setPlan (.inr ⟨q, rfl, same ▸ holds⟩)
  · exact inv.setPlan_of_free (inv.slotFree_of_state found holds) _

theorem PlanEntriesInPlace.modPlan {g : Nat} {f : Plan → Plan} (h : ∀ p, (f p).state = p.state) :
    PlanEntriesInPlace (modPlan g f s) := by
  unfold Machine.modPlan; split
  next p found => exact inv.setPlan_of_same found (h p)
  · exact inv

/-- Once an entry under a key has gone, its slot has none: it was the only one (R116). -/
theorem PlanEntriesInPlace.removeOrder_slotFree {e : OrderEntry} {g : Nat} (listed : e ∈ s.tracker.orders)
    (origin : e.origin = .plan) (slot : e.slot = some g) : SlotFree (removeOrder e.key s) g := by
  intro held
  obtain ⟨x, hx, same⟩ := List.mem_map.mp held
  obtain ⟨kept, plan⟩ := List.mem_filter.mp hx
  obtain ⟨before, other⟩ := List.mem_filter.mp kept
  have here := List.inj_on_of_nodup_map inv.distinct (List.mem_filter.mpr ⟨before, plan⟩)
    (List.mem_filter.mpr ⟨listed, beq_iff_eq.mpr origin⟩) (same.trans slot.symm)
  simp [here] at other

/-! The Sequencer (R131 to R143). -/

theorem PlanEntriesInPlace.haltPlan (g : Nat) (c : HaltCause) (d : Option Nat) : PlanEntriesInPlace (haltPlan g c d s) := by
  unfold Machine.haltPlan; split
  next p _ =>
    have halted : PlanEntriesInPlace (Machine.setPlan g (some (p.halt c d)) s) :=
      inv.setPlan (.inr ⟨_, rfl, .inr rfl⟩)
    have lapsed : PlanEntriesInPlace (lapseSlot g (Machine.setPlan g (some (p.halt c d)) s)) :=
      halted.of_entrySlots (entrySlots_lapseSlot ..) rfl
    exact ((lapsed.of_only (dropPrio_moves ..).only (by decide) (by decide)).of_alarm (raise_moves ..)).of_alarm
      (queueNotice_moves ..)
  · exact inv

theorem PlanEntriesInPlace.haltOr {g : Nat} {h : Option (HaltCause × Nat)} {rest : State → State}
    (kept : PlanEntriesInPlace (rest s)) : PlanEntriesInPlace (haltOr g h rest s) := by
  unfold Machine.haltOr; split
  · exact inv.haltPlan ..
  · exact kept

/-- An order is issued from a slot without an entry, and its own is then the slot's (R133). -/
theorem PlanEntriesInPlace.issueOrder {g : Nat} {q : Plan} (found : plan? s g = some q) (free : SlotFree s g) (p : Plan)
    (k : OrderKind) (r : CabRec) (v : Option Nat) (settle : Nat) :
    PlanEntriesInPlace (issueOrder g p k r v settle s) := by
  obtain ⟨distinct, held⟩ := (planEntriesInPlace_iff s).mp inv
  have issues := issueOrder_issues k r v settle (p := p) found
  have slots : entrySlots (Machine.issueOrder g p k r v settle s) = entrySlots s ++ [some g] := by
    rw [entrySlots, issues.orders, List.filter_append, List.map_append]; rfl
  refine (planEntriesInPlace_iff _).mpr ⟨?_, fun x hx => ?_⟩
  · rw [slots]
    refine List.nodup_append.mpr ⟨distinct, List.nodup_singleton _, fun x hx y hy same => free ?_⟩
    rwa [← List.mem_singleton.mp hy, ← same]
  · rw [slots] at hx
    by_cases here : x = some g
    · exact ⟨g, _, here, issues.plan, .inl rfl⟩
    · have before : x ∈ entrySlots s := (List.mem_append.mp hx).resolve_right (fun last => here (List.mem_singleton.mp last))
      obtain ⟨j, w, rfl, stands, holds⟩ := held x before
      exact ⟨j, w, rfl, (issues.others j (fun same => here (same ▸ rfl))).trans stands, holds⟩

theorem PlanEntriesInPlace.completePlan {g : Nat} (free : SlotFree s g) : PlanEntriesInPlace (completePlan g s) := by
  unfold Machine.completePlan; split
  · have dropped := inv.of_only (dropPrio_moves g s).only (by decide) (by decide)
    refine (dropped.of_alarm (queueNotice_moves ..)).setPlan_of_free ?_ _
    exact (queueNotice_moves ..).only.slotFree (by decide) ((dropPrio_moves g s).only.slotFree (by decide) free)
  · exact inv

/-- A RAMPING plan has no entry, and ends its stage or issues its next step (R137, R138). -/
theorem PlanEntriesInPlace.judgeRamp (g : Nat) : PlanEntriesInPlace (judgeRamp g s) := by
  unfold Machine.judgeRamp; split
  next p found =>
    split
    next ra t ramping _ _ =>
      have free : SlotFree s g := inv.slotFree_of_state found (by simp [ramping, PlanState.HoldsEntry])
      have ends : PlanEntriesInPlace (endRamp g p ra s) := inv.setPlan_of_free free _
      have issues : ∀ r v, PlanEntriesInPlace (issueRamp g p ra r v s) := fun r v => inv.issueOrder found free ..
      split
      · split
        · unfold judgeUp; split
          · split
            · exact ends
            · split
              · exact inv.haltOr (issues ..)
              · exact inv
          · exact inv
        · unfold judgeDown; split
          · split
            · exact ends
            · split
              · exact inv.haltOr (issues ..)
              · exact inv
          · exact inv
      · exact inv
    · exact inv
  · exact inv

theorem PlanEntriesInPlace.beginRamp {g : Nat} (free : SlotFree s g) : PlanEntriesInPlace (beginRamp g s) := by
  unfold Machine.beginRamp; split
  · exact (inv.setPlan_of_free free _).judgeRamp g
  · exact inv

end

/-- The walk of a step trigger starts without an entry and has none until it issues, halts, ramps or completes (R131). -/
theorem PlanEntriesInPlace.walk (g : Nat) (l : List WalkItem) {s : State} (inv : PlanEntriesInPlace s)
    (free : SlotFree s g) : PlanEntriesInPlace (walk g l s) := by
  have marked : ∀ {u : State}, PlanEntriesInPlace u → SlotFree u g →
      PlanEntriesInPlace (markDone g u) ∧ SlotFree (markDone g u) g := fun kept stays =>
    ⟨kept.modPlan (fun _ => rfl), (modPlan_moves ..).only.slotFree (by decide) stays⟩
  induction l generalizing s with
  | nil => exact inv.completePlan free
  | cons x rest ih =>
    have goesOn : ∀ {u : State}, PlanEntriesInPlace u → SlotFree u g →
        PlanEntriesInPlace (Machine.walk g rest (markDone g u)) := fun kept stays =>
      ih (marked kept stays).1 (marked kept stays).2
    cases x with
    | enter st =>
      unfold Machine.walk; split
      · exact inv
      next p _ =>
        have entered : PlanEntriesInPlace (enterStage g p st s) :=
          (inv.setPlan_of_free free _).of_alarm (queueNotice_moves ..)
        have stays : SlotFree (enterStage g p st s) g :=
          ((setPlan_moves ..).only.mono (by decide)).trans ((queueNotice_moves ..).only.mono (by decide))
            |>.slotFree (fs := [.seq, .alarm]) (by decide) free
        dsimp only; split
        · exact entered.haltOr (goesOn entered stays)
        · split
          · exact entered.beginRamp stays
          · exact ih entered stays
    | step st i =>
      unfold Machine.walk; split
      · exact inv
      next p found =>
        have stepped := inv.setPlan_of_free free (some { p with step := i, stepDone := false })
        have stays : SlotFree (Machine.setPlan g (some { p with step := i, stepDone := false }) s) g :=
          (setPlan_moves ..).only.slotFree (by decide) free
        dsimp only; split
        · exact stepped
        · split
          · exact goesOn stepped stays
          · refine stepped.haltOr (stepped.issueOrder (q := { p with step := i, stepDone := false }) ?_ stays ..)
            exact (plan?_setPlan ..).trans (if_pos ⟨rfl, plan?_lt found⟩)

section
variable {s : State} (inv : PlanEntriesInPlace s)
include inv

theorem PlanEntriesInPlace.trigger (g : Nat) : PlanEntriesInPlace (trigger g s) := by
  unfold Machine.trigger; split
  next p found =>
    split
    next checking => exact inv.walk g _ (inv.slotFree_of_state found (by simp [checking, PlanState.HoldsEntry]))
    · exact inv
  · exact inv

theorem PlanEntriesInPlace.planDone {g : Nat} (free : SlotFree s g) : PlanEntriesInPlace (planDone g s) := by
  unfold Machine.planDone; split
  · split
    · split
      · exact (inv.setPlan_of_free free _).judgeRamp g
      · exact inv.setPlan_of_free free _
    · exact inv
  · exact inv

theorem PlanEntriesInPlace.planRejected (g reason : Nat) : PlanEntriesInPlace (planRejected g reason s) := by
  unfold Machine.planRejected; split
  · exact inv.haltPlan ..
  · exact inv

theorem PlanEntriesInPlace.planLateDone (g : Nat) : PlanEntriesInPlace (planLateDone g s) :=
  inv.modPlan (fun p => by rw [apply_ite Plan.state, ite_self])

theorem PlanEntriesInPlace.planReplyExpiry (g : Nat) : PlanEntriesInPlace (planReplyExpiry g s) := by
  unfold Machine.planReplyExpiry; split
  next p found =>
    split
    · split
      · have sent := inv.setPlan_of_same found (q := { p with sends := p.sends + 1 }) rfl
        have counted : ∀ k f, (∀ e : OrderEntry, (f e).origin = e.origin) → (∀ e : OrderEntry, (f e).slot = e.slot) →
            PlanEntriesInPlace (modOrder k f (Machine.setPlan g (some { p with sends := p.sends + 1 }) s)) :=
          fun k f origin slot => sent.of_entrySlots (entrySlots_modOrder k origin slot _) rfl
        unfold resend; dsimp only; split
        · exact counted _ _ (fun _ => rfl) (fun _ => rfl)
        · exact (counted _ _ (by intro; rfl) (by intro; rfl)).of_only (fs := [.prio]) (only_withPrio ..) (by decide)
            (by decide)
      · exact inv.haltPlan ..
    · exact inv
  · exact inv

theorem PlanEntriesInPlace.planCompletionExpiry (g : Nat) : PlanEntriesInPlace (planCompletionExpiry g s) := by
  unfold Machine.planCompletionExpiry; split
  · split
    · exact inv.haltPlan ..
    · exact inv
  · exact inv

theorem PlanEntriesInPlace.settleExpires (g : Nat) : PlanEntriesInPlace (settleExpires g s) := by
  unfold Machine.settleExpires; split
  next p found =>
    split
    next settles =>
      exact inv.setPlan_of_free (inv.slotFree_of_state found (by simp [settles.1, PlanState.HoldsEntry])) _
    · exact inv
  · exact inv

theorem PlanEntriesInPlace.intervalExpires (g : Nat) : PlanEntriesInPlace (intervalExpires g s) := by
  unfold Machine.intervalExpires; split
  next p found =>
    split
    · split
      · exact (inv.setPlan_of_same found (by rfl)).judgeRamp g
      · exact inv
    · exact inv
  · exact inv

theorem PlanEntriesInPlace.matchExpires (g : Nat) : PlanEntriesInPlace (matchExpires g s) := by
  unfold Machine.matchExpires; split
  · split
    · exact inv.haltPlan ..
    · exact inv
  · exact inv

theorem PlanEntriesInPlace.resumePlan (g : Nat) (p : Plan) : PlanEntriesInPlace (resumePlan g p s) := by
  have removed : PlanEntriesInPlace (removeSlotOrder g s) := inv.of_sublist (entrySlots_filter_sublist rfl) rfl
  exact (removed.of_alarm (clear_moves ..)).setPlan_of_free
    ((clear_moves ..).only.slotFree (by decide) (removeSlotOrder_slotFree g s)) _

theorem PlanEntriesInPlace.abandonPlan (g : Nat) (p : Plan) : PlanEntriesInPlace (abandonPlan g p s) := by
  have removed : PlanEntriesInPlace (removeSlotOrder g s) := inv.of_sublist (entrySlots_filter_sublist rfl) rfl
  have dropped := removed.of_only (dropPrio_moves g _).only (by decide) (by decide)
  have free := (dropPrio_moves g _).only.slotFree (by decide) (removeSlotOrder_slotFree g s)
  unfold Machine.abandonPlan; dsimp only; split
  · exact (dropped.of_alarm (clear_moves ..)).setPlan_of_free ((clear_moves ..).only.slotFree (by decide) free) _
  · exact dropped.setPlan_of_free free _

/-- A plan enters a slot that is free (R127). -/
theorem PlanEntriesInPlace.planRequestEffect (kind g : Nat) (t : Option Nat) :
    PlanEntriesInPlace (planRequestEffect kind g t s).1 := by
  refine refuseIf_keeps _ _ inv ?_
  dsimp only; split
  · exact inv
  · refine refuseIf_keeps _ _ inv (refuseIf_keeps _ _ inv ?_)
    refine refuseIf_keeps_of_passed _ _ inv (fun free => refuseIf_keeps _ _ inv (refuseIf_keeps _ _ inv ?_))
    have absent : ∀ p, plan? s g = some p → ¬p.state.HoldsEntry := fun p found => by simp [found] at free
    exact (inv.setPlan_of_free (inv.slotFree absent) (some (newPlan (takePlanId s) _ g t))).of_entrySlots
      (entrySlots_eq_of_tracker rfl) rfl

theorem PlanEntriesInPlace.onPlan (code id : Nat) {act : Nat → Plan → State → State × ManageReply}
    (h : ∀ g p, PlanEntriesInPlace (act g p s).1) : PlanEntriesInPlace (onPlan code id act s).1 := by
  refine refuseIf_keeps _ _ inv ?_
  split
  · exact inv
  · exact h ..

/-! The Order Tracker (R117 to R121). -/

theorem PlanEntriesInPlace.removeOrder (k : OrderKey) : PlanEntriesInPlace (removeOrder k s) :=
  inv.of_sublist (removeOrder_entrySlots_sublist k s) rfl

theorem PlanEntriesInPlace.handPlan {e : OrderEntry} {f : Nat → State → State}
    (h : ∀ g, e.slot = some g → e.origin = .plan → PlanEntriesInPlace (f g s)) : PlanEntriesInPlace (handPlan e f s) := by
  unfold Machine.handPlan; split
  next g slot =>
    split
    next origin => exact h g slot origin
    · exact inv
  · exact inv

theorem PlanEntriesInPlace.doneEntry (e : OrderEntry) : PlanEntriesInPlace (doneEntry e s) :=
  inv.of_only (doneEntry_moves e s).only (by decide) (by decide)

/-- The result of an order reaches its plan when its entry has gone (R119). -/
theorem PlanEntriesInPlace.replyOnEntry {e : OrderEntry} (listed : e ∈ s.tracker.orders) (k : ReplyKind)
    (reason : Nat) : PlanEntriesInPlace (replyOnEntry e k reason s) := by
  unfold Machine.replyOnEntry; split
  · split
    · exact inv.of_entrySlots (entrySlots_modOrder _ (by intro; rfl) (by intro; rfl) _) rfl
    · exact inv
  · have done := inv.doneEntry e
    have stays : e ∈ (Machine.doneEntry e s).tracker.orders := by
      rwa [show (Machine.doneEntry e s).tracker = s.tracker from (doneEntry_moves e s).only.same .tracker (by decide)]
    exact (done.removeOrder e.key).handPlan (fun g slot origin =>
      (done.removeOrder e.key).planDone (done.removeOrder_slotFree stays origin slot))
  · exact (inv.removeOrder e.key).handPlan (fun g _ _ => (inv.removeOrder e.key).planRejected g reason)

theorem PlanEntriesInPlace.matchReply_getD (o : Origin) (f : Frame) {u : State} (kept : PlanEntriesInPlace u) :
    PlanEntriesInPlace ((matchReply o f s).getD u) := by
  unfold matchReply; split
  · exact kept
  · split
    · exact kept
    next e found =>
      rw [Option.getD_some]; split
      · unfold replyOnLapsed; split
        · exact (inv.doneEntry e).handPlan (fun g _ _ => (inv.doneEntry e).planLateDone g)
        · exact inv
      · exact inv.replyOnEntry (List.mem_of_find?_eq_some found) ..

theorem PlanEntriesInPlace.enqueueForward (p : Port) (f : Frame) : PlanEntriesInPlace (enqueueForward p f s) := by
  refine inv.of_only (enqueueForward_moves p f s).only ?_ ?_ <;> cases p <;> decide

theorem PlanEntriesInPlace.trackReply (f : Frame) : PlanEntriesInPlace (trackReply f s) := by
  unfold Machine.trackReply; split
  · exact inv.matchReply_getD _ _ (inv.of_entrySlots (entrySlots_eq_of_tracker rfl) rfl)
  · split
    · exact (inv.matchReply_getD _ _ inv).enqueueForward ..
    · exact inv.enqueueForward ..

theorem PlanEntriesInPlace.windowExpires (w : WindowKind) {onPlan : Nat → State → State}
    (h : ∀ g, PlanEntriesInPlace (onPlan g s)) (k : OrderKey) : PlanEntriesInPlace (windowExpires w onPlan k s) := by
  unfold Machine.windowExpires; split
  · split
    · split
      · exact (inv.removeOrder k).of_entrySlots (entrySlots_eq_of_tracker rfl) rfl
      · exact inv.handPlan (fun g _ _ => h g)
    · exact inv
  · exact inv

/-! Sending, the requests and the resets. -/

theorem PlanEntriesInPlace.transmitF : PlanEntriesInPlace (transmitF s) := by
  have sent : ∀ {u : State} (f : Frame), PlanEntriesInPlace u → PlanEntriesInPlace (beginSend .f f u) := fun f kept =>
    kept.of_only (beginSend_moves .f f _).only (by decide) (by decide)
  have dropped : PlanEntriesInPlace (dropForward .f s) :=
    inv.of_only (dropForward_moves .f s).only (by decide) (by decide)
  unfold Machine.transmitF; split
  · exact sent _ (inv.of_only (only_withPrio ..) (by decide) (by decide))
  · split
    · unfold takeForwardF; split
      · split
        · exact (dropped.of_only (gateAnswer_moves ..).only (by decide) (by decide)).removeOrder _
        · exact inv
      · exact sent _ dropped
    · exact inv

theorem PlanEntriesInPlace.stopEffect : PlanEntriesInPlace (stopEffect s).1 := by
  refine refuseIf_keeps _ _ inv (refuseIf_keeps _ _ inv (inv.of_sublist
    (entrySlots_filter_sublist (q := fun e => !(e.origin == .site)) ?_) ?_))
  · dsimp only; rw [stopSupervision_tracker]
  · dsimp only; rw [stopSupervision_seq]

theorem PlanEntriesInPlace.trafficReset : PlanEntriesInPlace (trafficReset s) := by
  have ports : PlanEntriesInPlace (emptyPorts s) := inv.of_entrySlots (entrySlots_eq_of_tracker rfl) rfl
  have emptied : PlanEntriesInPlace (emptyTracker (emptyPorts s)) := ports.of_sublist (entrySlots_filter_sublist rfl) rfl
  refine foldl_keeps (fun u g kept => ?_) _ ((emptied.of_alarm (clear_moves ..)).of_alarm (clear_moves ..))
  split
  · exact kept.haltPlan ..
  · exact kept

end

theorem reset_planEntriesInPlace : PlanEntriesInPlace State.reset := ⟨fun _ h => (nomatch h), List.nodup_nil⟩

theorem portField_ne_tracker (p : Port) : Field.tracker ≠ portField p := by cases p <;> decide

/-- Every command keeps the plan-origin entries in place. -/
theorem exec_keeps_planEntriesInPlace {i : Instr} {s t : State} (inv : PlanEntriesInPlace s) (h : exec i s = .next t) :
    PlanEntriesInPlace t := by
  have frame : ∀ u v, Only [.portS, .replyQ] u v → PlanEntriesInPlace u → PlanEntriesInPlace v := fun _ _ only kept =>
    kept.of_only only (by decide) (by decide)
  have dropped : ∀ p, PlanEntriesInPlace (dropHead p s) := fun p => by
    refine inv.of_only (dropHead_moves p s).only ?_ ?_ <;> cases p <;> decide
  cases isReset : isFullReset i with
  | true =>
    rcases exec_fullReset_only h isReset with rfl | reset
    · exact inv
    · exact reset_planEntriesInPlace.of_only reset (by decide) (by decide)
  | false =>
    cases i with
    | powerOn | resetLineReleased | fullResetTaken => cases isReset
    | siteOrderJudgement =>
      rcases exec_siteOrderJudgement_cases h with rfl | ⟨f, -, rfl⟩
      · exact inv
      · exact (dropped .s).of_entrySlots (judgeOrder_orders f _).entrySlots
          (congrArg Sequencer.plans ((judgeOrder_only f _).same .seq (by decide)))
    | replyMatch =>
      refine exec_running_keeps h inv ?_
      rcases takeHead_cases .f trackerReady trackReply s with idle | ⟨f, -, taken⟩
      · rwa [idle]
      · rw [taken]; exact (dropped .f).trackReply f
    | rampStepJudgement =>
      refine exec_running_keeps h inv ?_
      dsimp only; split
      next c rest _ =>
        have taken : PlanEntriesInPlace (s.withHand { s.hand with ramp := rest }) :=
          inv.of_only (only_withHand ..) (by decide) (by decide)
        unfold takeRampHand; split
        · exact taken.judgeRamp _
        · exact taken
      · exact inv
    | replyWindowExpiry k => exact exec_running_keeps h inv (inv.windowExpires .reply inv.planReplyExpiry k)
    | completionWindowExpiry k =>
      exact exec_running_keeps h inv (inv.windowExpires .completion inv.planCompletionExpiry k)
    | settleExpiry g => exact exec_running_keeps h inv (inv.settleExpires g)
    | rampIntervalExpiry g => exact exec_running_keeps h inv (inv.intervalExpires g)
    | matchWindowExpiry g => exact exec_running_keeps h inv (inv.matchExpires g)
    | stepTrigger g => exact exec_running_keeps h inv (inv.trigger g)
    | transmitTake p =>
      cases p with
      | s => exact inv.of_only (exec_moves h rfl (by nofun)).only (by decide) (by decide)
      | f =>
        refine exec_running_keeps h inv ?_
        unfold transmitTake; split
        · exact inv
        · exact inv.transmitF
    | stopSupervision => exact exec_request_keeps h frame inv (fun _ kept => kept.stopEffect)
    | writeGroupParameters g fs =>
      exact exec_request_keeps h frame inv (fun _ kept => refuseIf_keeps _ _ kept
        (kept.of_entrySlots (entrySlots_eq_of_tracker rfl) rfl))
    | planRequest kind g target => exact exec_request_keeps h frame inv (fun _ kept => kept.planRequestEffect kind g target)
    | planResume id =>
      exact exec_request_keeps h frame inv (fun _ kept => kept.onPlan 24 id (fun g p =>
        refuseIf_keeps _ _ kept (kept.resumePlan g p)))
    | planAbandon id =>
      exact exec_request_keeps h frame inv (fun _ kept => kept.onPlan 25 id (fun g p => kept.abandonPlan g p))
    | readPortCounters clear =>
      refine exec_request_keeps h frame inv (fun u kept => ?_)
      unfold readCountersEffect; dsimp only; split
      · exact kept.of_entrySlots (entrySlots_eq_of_tracker rfl) rfl
      · exact kept
    | resetTraffic kind =>
      have e := Host.Outcome.next.inj h
      split at e
      · exact e ▸ inv
      · refine exec_request_keeps (congrArg _ e) frame inv (fun u kept => ?_)
        rcases resetTrafficEffect_cases kind u with refused | reset
        · rwa [refused]
        · rw [reset]; exact kept.trafficReset
    | frameSent p | abandonedTx p =>
      refine inv.of_only (exec_moves h rfl (by nofun)).only ?_ ?_ <;> cases p <;> decide
    | watchExpiry n =>
      refine inv.of_only (exec_moves h rfl (by nofun)).only ?_ ?_ <;> cases n <;> simp [touches]
    | _ =>
      refine inv.of_only (exec_moves h rfl (by nofun)).only ?_ ?_ <;>
        simp [touches, requestFields, portField_ne_seq, portField_ne_tracker]

end Sys2Proof.Machine
end

section
/-! PROOF. Every queue and list keeps within its places (R47, R59, R116, R160, R169 to R171, R174): the alarms by the acts
at the Alarm Unit, the orders and the priority queue by the moves of each command, the queues of the ports, the Visit
Register and the plan-origin entries each by its own invariant. -/

namespace Sys2Proof.Machine

/-- The Alarm List and the Notice Queue are within their places (R47, R59). -/
structure AlarmUnit.Within (a : AlarmUnit) : Prop where
  list : a.list.length ≤ alarmPlaces
  notices : a.notices.length ≤ noticePlaces

theorem AlarmActs.within {a b : AlarmUnit} (h : AlarmActs a b) (w : a.Within) : b.Within := by
  have keys : ∀ x : AlarmUnit, x.keys.length = x.list.length := fun _ => List.length_map _
  exact ⟨keys b ▸ h.list_within (keys a ▸ w.list), h.notices_within w.notices⟩

theorem exec_keeps_alarmWithin {i : Instr} {s t : State} (w : s.alarm.Within) (h : exec i s = .next t) :
    t.alarm.Within := by
  rcases exec_cases h with reset | ⟨f, -, rfl⟩ | moves
  · rw [show t.alarm = State.reset.alarm from reset.same .alarm (by decide)]
    exact ⟨Nat.zero_le _, Nat.zero_le _⟩
  · rwa [show (judgeOrder f (dropHead .s s)).alarm = s.alarm from (judgeOrder_only f _).same .alarm (by decide)]
  · exact moves.acts.within w

theorem exec_keeps_siteOrders_le {i : Instr} {s t : State} (w : siteOrders s ≤ sitePlaces) (h : exec i s = .next t) :
    siteOrders t ≤ sitePlaces := by
  rcases exec_cases h with reset | ⟨f, -, rfl⟩ | moves
  · rw [siteOrders, show t.tracker = State.reset.tracker from reset.same .tracker (by decide)]
    exact Nat.zero_le _
  · exact (judgeOrder_orders f (dropHead .s s)).siteOrders_le w
  · rw [siteOrders_eq_length_siteKeys] at w ⊢
    exact moves.keys.length_le.trans w

theorem exec_keeps_prioInPlace {i : Instr} {s t : State} (inPlace : PrioInPlace s) (h : exec i s = .next t) :
    PrioInPlace t := by
  rcases exec_cases h with reset | ⟨f, -, rfl⟩ | moves
  · rw [PrioInPlace, show t.prio = State.reset.prio from reset.same .prio (by decide)]
    exact ⟨List.nodup_nil, fun _ h => nomatch h⟩
  · rwa [PrioInPlace, show (judgeOrder f (dropHead .s s)).prio = s.prio from (judgeOrder_only f _).same .prio (by decide)]
  · exact moves.prio inPlace

/-! The bounds that follow. -/

theorem length_le_of_nodup_of_lt {l : List Nat} (distinct : l.Nodup) {n : Nat} (h : ∀ x ∈ l, x < n) : l.length ≤ n := by
  have sub : l ⊆ List.range n := fun x hx => List.mem_range.mpr (h x hx)
  simpa using (List.subperm_of_subset distinct sub).length_le

/-- Entries one a slot are no more than the slots (R116). -/
theorem PlanEntriesInPlace.count_le {s : State} (inv : PlanEntriesInPlace s) :
    s.tracker.orders.countP (fun e => e.origin == .plan) ≤ 4 := by
  obtain ⟨distinct, held⟩ := (planEntriesInPlace_iff s).mp inv
  have sub : entrySlots s ⊆ (List.range 4).map some := fun x hx => by
    obtain ⟨g, p, rfl, found, -⟩ := held x hx
    exact List.mem_map_of_mem (List.mem_range.mpr (plan?_lt found))
  have slots := (List.subperm_of_subset distinct sub).length_le
  rwa [entrySlots, List.length_map, ← List.countP_eq_length_filter, List.length_map, List.length_range] at slots

/-- The Force Close list names each cabinet at most once, so no more than there are (R160). -/
theorem ScopesInRange.forceClose_length_le {s : State} (inv : ScopesInRange s) : s.visits.forceClose.length ≤ 24 := by
  obtain ⟨distinct, range⟩ := inv.forceClose
  have named : ∀ c ∈ s.visits.forceClose.map Prod.fst, c < 24 := fun c hc => by
    obtain ⟨x, hx, rfl⟩ := List.mem_map.mp hc
    exact range x hx
  simpa using length_le_of_nodup_of_lt distinct named

/-- The invariant is made of six, each kept by every command. -/
theorem withinPlaces_iff (s : State) : WithinPlaces s ↔ QueuesWithin s ∧ s.alarm.Within ∧ siteOrders s ≤ sitePlaces ∧
    PlanEntriesInPlace s ∧ ScopesInRange s ∧ PrioInPlace s := by
  constructor
  · intro w
    refine ⟨⟨fun p => ?_, w.replies, w.run⟩, ⟨w.alarms, w.notices⟩, w.siteEntries, w.planSlots, w.scopes, w.prioSlots⟩
    cases p with
    | s => exact ⟨w.inboundS, w.forwardS, w.sound .s⟩
    | f => exact ⟨w.inboundF, w.forwardF, w.sound .f⟩
  · rintro ⟨queues, alarm, site, plan, scopes, prio⟩
    exact {
      inboundS := (queues.ports .s).inbound
      inboundF := (queues.ports .f).inbound
      forwardS := (queues.ports .s).forward
      forwardF := (queues.ports .f).forward
      replies := queues.replies
      notices := alarm.notices
      alarms := alarm.list
      siteEntries := site
      planEntries := plan.count_le
      planSlots := plan
      forceClose := scopes.forceClose_length_le
      scopes := scopes
      prioSlots := prio
      run := queues.run
      sound := fun p => (queues.ports p).sound }

theorem exec_keeps_withinPlaces {i : Instr} {s t : State} (w : WithinPlaces s) (h : exec i s = .next t) :
    WithinPlaces t := by
  obtain ⟨queues, alarm, site, plan, scopes, prio⟩ := (withinPlaces_iff s).mp w
  exact (withinPlaces_iff t).mpr ⟨exec_keeps_queuesWithin queues h, exec_keeps_alarmWithin alarm h,
    exec_keeps_siteOrders_le site h, exec_keeps_planEntriesInPlace plan h, exec_keeps_scopesInRange scopes h,
    exec_keeps_prioInPlace prio h⟩

theorem withPending_withinPlaces {s : State} (x : List Instr) (w : WithinPlaces s) : WithinPlaces (s.withPending x) := by
  obtain ⟨queues, alarm, site, plan, scopes, prio⟩ := (withinPlaces_iff s).mp w
  have only := only_withPending s x
  exact (withinPlaces_iff _).mpr ⟨(only.queuesKept (by decide) (by decide) (by decide) (by decide)).queues queues, alarm,
    site, plan.of_only only (by decide) (by decide), only.scopesInRange (by decide) scopes, prio⟩

/-- Settles O56: the parts of the invariant are each kept by every command, and none reads the queue of commands. -/
theorem everyStepKeepsWithinPlaces : Obligations.EveryStepKeepsWithinPlaces := fun _ _ w h =>
  step_keeps (fun _ x => withPending_withinPlaces x) (fun _ _ _ => exec_keeps_withinPlaces) w h

end Sys2Proof.Machine
end

section
/-! PROOF. Raise, clear, acknowledge and unshelve by the entry they find, and the notices (R48 to R54, R59, R60). -/

namespace Sys2Proof.Machine

/-! A notice (R59, R60). -/

/-- Settles O21, by the room in the queue. -/
theorem noticeEntersOrIsDropped : Obligations.NoticeEntersOrIsDropped := by
  intro k body s
  refine ⟨fun room => ?_, fun full => ?_⟩
  · have enters : s.alarm.notices.length < noticePlaces := room
    rw [queueNotice_eq, AlarmUnit.notice, if_pos enters]; rfl
  · have drops : ¬s.alarm.notices.length < noticePlaces := Nat.not_lt.mpr full
    rw [queueNotice_eq, AlarmUnit.notice, if_neg drops]; rfl

/-! A new entry (R50). -/

theorem AlarmUnit.append_find? (a : AlarmUnit) (sec : Word32) (e : AlarmEntry) (c : Nat) (sub : Subject) :
    (a.append sec e).find? c sub = (a.find? c sub).or (if e.key = (c, sub) then some e else none) := by
  have last : [e].find? (·.isFor c sub) = if e.key = (c, sub) then some e else none := by
    rw [List.find?_singleton]; simp only [AlarmEntry.isFor_iff]
  rw [AlarmUnit.find?, append_list, List.find?_append, last]; rfl

/-- A new entry is announced unless it is shelved (R50). -/
theorem AlarmUnit.append_newEntry_notices (a b : AlarmUnit) (sec : Word32) (shelve : Bool) (c : Nat) (sub : Subject)
    (d : Option Word32) : (a.append sec (b.newEntry sec shelve c sub d)).notices = if shelve then a.notices
      else (a.notice sec .alarmRaised (b.newEntry sec shelve c sub d).raisedBody).notices := by
  rw [append_notices]
  cases shelve <;> rfl

theorem AlarmUnit.remove_notice_notices (a : AlarmUnit) (c : Nat) (sub : Subject) (sec : Word32) (k : NoticeKind)
    (b : List Byte) : ((a.remove c sub).notice sec k b).notices = (a.notice sec k b).notices := by
  rw [remove, notice_withList]

/-! The shelving test (R50). -/

theorem mem_visitsIn_iff (s : State) (p : VisitState → Bool) (v : Visit) :
    v ∈ visitsIn s p ↔ ∃ k, visitEntry? s k = some v ∧ p v.state = true := by
  have entry : ∀ o : Option Visit, o.filter (fun v => p v.state) = some v ↔ o = some v ∧ p v.state = true := fun o =>
    Option.filter_eq_some_iff
  rw [visitsIn, List.mem_filterMap]
  simp only [entry, exists_and_right]
  constructor
  · rintro ⟨o, listed, rfl, holds⟩
    exact ⟨(mem_toList_filterMap_id s.visits.entries v).mp (List.mem_filterMap.mpr ⟨_, listed, rfl⟩), holds⟩
  · rintro ⟨stands, holds⟩
    obtain ⟨o, listed, rfl⟩ := List.mem_filterMap.mp ((mem_toList_filterMap_id s.visits.entries v).mpr stands)
    exact ⟨_, listed, rfl, holds⟩

theorem VisitState.shelves_iff (x : VisitState) : x.shelves = true ↔ x = .active ∨ x = .closing := by
  cases x <;> simp [VisitState.shelves]

theorem any_visitsIn_shelves_iff (s : State) (q : Visit → Bool) : (visitsIn s VisitState.shelves).any q = true ↔
    ∃ k v, visitEntry? s k = some v ∧ (v.state = .active ∨ v.state = .closing) ∧ q v = true := by
  simp only [List.any_eq_true, mem_visitsIn_iff, VisitState.shelves_iff]
  constructor
  · rintro ⟨v, ⟨k, stands, shelves⟩, holds⟩; exact ⟨k, v, stands, shelves, holds⟩
  · rintro ⟨k, v, stands, shelves, holds⟩; exact ⟨v, ⟨k, stands, shelves⟩, holds⟩

theorem subjectShelved_iff (s : State) (sub : Subject) : subjectShelved s sub = true ↔
    ∃ k v, visitEntry? s k = some v ∧ (v.state = .active ∨ v.state = .closing) ∧
      ((∃ x, sub = .cabinet x ∧ x ∈ v.cabinets) ∨ ∃ x, sub = .string x ∧ x ∈ v.strings) := by
  cases sub with
  | cabinet c => simp only [subjectShelved, any_visitsIn_shelves_iff]; simp
  | string i => simp only [subjectShelved, any_visitsIn_shelves_iff]; simp
  | _ => simp [subjectShelved]

theorem shelvingTest_iff (s : State) (c : Nat) (sub : Subject) : shelvingTest s c sub = true ↔
    (∃ k v, visitEntry? s k = some v ∧ (v.state = .active ∨ v.state = .closing) ∧
      ((∃ x, sub = .cabinet x ∧ x ∈ v.cabinets) ∨ ∃ x, sub = .string x ∧ x ∈ v.strings)) ∧
    (s.alarm.classOf c).shelvable = true ∧ c ≠ 9 ∧ c ≠ 10 ∧ c ≠ 11 := by
  rw [← subjectShelved_iff]
  simp [shelvingTest, and_assoc]

/-! A raise (R48 to R51). -/

theorem AlarmUnit.touch_find? {a : AlarmUnit} {sec : Word32} {c : Nat} {sub : Subject} {e : AlarmEntry}
    (found : a.find? c sub = some e) (c' : Nat) (sub' : Subject) : (a.modify c sub (·.touch sec)).find? c' sub' =
      if (c', sub') = (c, sub) then some (e.touch sec) else a.find? c' sub' := by
  rw [find?_modify a c sub (f := (·.touch sec)) (fun _ own => own), found, Option.map_some]

theorem AlarmUnit.reviveEntry_find? {a : AlarmUnit} {sec : Word32} {shelve : Bool} {d : Option Word32} {c : Nat}
    {sub : Subject} {e : AlarmEntry} (found : a.find? c sub = some e) (c' : Nat) (sub' : Subject) :
    (a.reviveEntry sec shelve e d).find? c' sub' = if (c', sub') = (c, sub)
      then some (e.revive sec (a.classOf e.code).level (if shelve then .shelved else .active) d)
      else a.find? c' sub' := by
  obtain rfl := find?_code found
  obtain rfl := find?_subject found
  rw [AlarmUnit.find?, reviveEntry_list, ← AlarmUnit.find?, find?_modify a e.code e.subject (by exact fun _ _ => rfl),
    found, Option.map_some]

/-- A raise with an entry, or with room for one, leaves every other entry. -/
theorem AlarmUnit.raise_find?_of_ne {a : AlarmUnit} (sec : Word32) (shelve : Bool) {c : Nat} {sub : Subject}
    (d : Option Word32) (simple : a.list.length < 64 ∨ (a.find? c sub).isSome) {c' : Nat} {sub' : Subject}
    (other : (c', sub') ≠ (c, sub)) : (a.raise sec shelve c sub d).find? c' sub' = a.find? c' sub' := by
  cases found : a.find? c sub with
  | some e =>
    by_cases cleared : e.state = .cleared
    · rw [raise_of_cleared found cleared, reviveEntry_find? found, if_neg other]
    · rw [raise_of_standing found cleared, touch_find? found, if_neg other]
  | none =>
    have room : a.list.length < alarmPlaces := simple.resolve_right (by simp [found])
    rw [raise_of_room found room, append_find?, if_neg (by rw [newEntry_key]; exact other.symm), Option.or_none]

/-- Settles O17: each case of the entry found is the equation of the raise in that case. -/
theorem raiseActsByTheEntryItFinds : Obligations.RaiseActsByTheEntryItFinds := by
  refine ⟨fun c sub d s => ?_, shelvingTest_iff⟩
  intro t sec level shelved announced
  have alarm : t.alarm = s.alarm.raise sec shelved c sub d := rfl
  refine ⟨(raise_moves c sub d s).only, fun e found stands => ?_, fun e found cleared => ?_, fun absent room => ?_,
    fun simple c' sub' other => ?_⟩
  · rw [alarm, AlarmUnit.raise_of_standing found stands, AlarmUnit.touch_find? found, if_pos rfl]
    exact ⟨rfl, rfl, AlarmUnit.length_modify ..⟩
  · intro e'
    rw [alarm, AlarmUnit.raise_of_cleared found cleared, AlarmUnit.reviveEntry_find? found, if_pos rfl,
      AlarmUnit.reviveEntry_list, AlarmUnit.length_modify, AlarmUnit.reviveEntry_notices]
    exact ⟨rfl, rfl, rfl⟩
  · rw [alarm, AlarmUnit.raise_of_room absent room]
    exact ⟨AlarmUnit.append_list .., AlarmUnit.append_newEntry_notices ..⟩
  · rw [alarm]; exact AlarmUnit.raise_find?_of_ne _ _ _ simple other

end Sys2Proof.Machine
end

section
/-! PROOF. A raise into a full Alarm List (R51): the entry that gives way, and what the raise leaves. -/

namespace Sys2Proof.Machine

/-- With distinct keys, removing an entry by its key takes it out of its place, and no other. -/
theorem AlarmUnit.remove_list_of_place {a : AlarmUnit} (distinct : a.keys.Nodup) {i : Nat} {v : AlarmEntry}
    (place : a.list[i]? = some v) : (a.remove v.code v.subject).list = a.list.eraseIdx i := by
  obtain ⟨inside, rfl⟩ := List.getElem?_eq_some_iff.mp place
  have split : a.list = a.list.take i ++ a.list[i] :: a.list.drop (i + 1) := by
    rw [List.getElem_cons_drop, List.take_append_drop]
  have apart := distinct
  rw [keys, split, List.map_append, List.map_cons, List.nodup_append, List.nodup_cons] at apart
  obtain ⟨-, ⟨after, -⟩, before⟩ := apart
  have stays : ∀ l : List AlarmEntry, a.list[i].key ∉ l.map AlarmEntry.key →
      l.filter (fun e => !e.isFor a.list[i].code a.list[i].subject) = l := fun l absent => by
    refine List.filter_eq_self.mpr fun e he => ?_
    rw [Bool.not_eq_true', ← Bool.not_eq_true, AlarmEntry.isFor_iff]
    exact fun same => absent (List.mem_map.mpr ⟨e, he, same⟩)
  have goes : (!a.list[i].isFor a.list[i].code a.list[i].subject) = false := by simp [AlarmEntry.isFor]
  calc (a.remove a.list[i].code a.list[i].subject).list
      = (a.list.take i ++ a.list[i] :: a.list.drop (i + 1)).filter
          (fun e => !e.isFor a.list[i].code a.list[i].subject) := by rw [← split]; rfl
    _ = a.list.take i ++ a.list.drop (i + 1) := by
        rw [List.filter_append, List.filter_cons_of_neg (by rw [goes]; decide),
          stays _ (fun h => before _ h _ (List.mem_cons_self ..) rfl), stays _ after]
    _ = a.list.eraseIdx i := (List.eraseIdx_eq_take_drop_succ _ _).symm

/-! The entry that gives way. -/

section
variable {a : AlarmUnit} {level i : Nat} {e : AlarmEntry}

/-- The entries of a state below a level, of which a full list gives one up (R51). -/
def AlarmEntry.lower (st : AlarmState) (level : Nat) (e : AlarmEntry) : Bool := e.state == st && decide (e.level < level)

theorem AlarmEntry.lower_iff (st : AlarmState) (level : Nat) (e : AlarmEntry) :
    e.lower st level = true ↔ e.state = st ∧ e.level < level := by simp [lower]

theorem AlarmUnit.victim?_of_cleared (place : a.list[i]? = some e) (cleared : e.state = .cleared)
    (oldest : ∀ j x, j < i → a.list[j]? = some x → x.state ≠ .cleared) : a.victim? level = some e := by
  have first : a.list.find? (·.state == .cleared) = some e := by
    obtain ⟨inside, rfl⟩ := List.getElem?_eq_some_iff.mp place
    refine List.find?_eq_some_iff_getElem.mpr ⟨by simp [cleared], i, inside, rfl, fun j hj => ?_⟩
    simpa using oldest j _ hj (List.getElem?_eq_getElem (by omega))
  rw [victim?, first, Option.some_or]

theorem AlarmUnit.victim?_of_none_cleared (none : ∀ x ∈ a.list, ¬x.state = .cleared) (level : Nat) :
    a.victim? level = (lowestOldest (AlarmEntry.lower .acknowledged level) a.list).or
      (lowestOldest (AlarmEntry.lower .active level) a.list) := by
  rw [victim?, List.find?_eq_none.mpr (fun x hx => by simpa using none x hx), Option.none_or]; rfl

theorem lowestOldest_lower_eq_none {st : AlarmState} {l : List AlarmEntry}
    (none : ∀ x ∈ l, ¬(x.state = st ∧ x.level < level)) : lowestOldest (AlarmEntry.lower st level) l = Option.none :=
  lowestOldest_eq_none fun x hx => Bool.eq_false_iff.mpr (mt (x.lower_iff st level).mp (none x hx))

end

/-- A raise into a full list that gives up the entry of a place (R51). -/
theorem raise_of_place {s : State} (distinct : AlarmKeysDistinct s) (full : s.alarm.list.length = 64) {c : Nat}
    {sub : Subject} (absent : s.alarm.find? c sub = none) (d : Option Word32) {i : Nat} {v : AlarmEntry}
    (place : s.alarm.list[i]? = some v) (gone : s.alarm.victim? (s.alarm.classOf c).level = some v) :
    let new := s.alarm.newEntry s.clock.sec (shelvingTest s c sub) c sub d
    (raise c sub d s).alarm.list = s.alarm.list.eraseIdx i ++ [new] ∧ (raise c sub d s).alarm.lost = s.alarm.lost ∧
      (raise c sub d s).alarm.notices = if shelvingTest s c sub then s.alarm.notices
        else (s.alarm.notice s.clock.sec .alarmRaised new.raisedBody).notices := by
  intro new
  have alarm : (raise c sub d s).alarm = (s.alarm.remove v.code v.subject).append s.clock.sec new :=
    AlarmUnit.raise_of_victim absent (by rw [full]; decide) gone
  rw [alarm]
  refine ⟨?_, AlarmUnit.append_lost .., ?_⟩
  · rw [AlarmUnit.append_list, AlarmUnit.remove_list_of_place distinct place]
  · rw [AlarmUnit.append_newEntry_notices, AlarmUnit.remove_notice_notices]; rfl

/-- Settles O18: each case of the statement is what `victim?` gives up. -/
theorem fullListGivesUpTheRightEntry : Obligations.FullListGivesUpTheRightEntry := by
  intro c sub d s distinct full absent t level new gone lower lowestOldest none'
  have givesUp : ∀ i e, s.alarm.list[i]? = some e → s.alarm.victim? level = some e → gone i := fun i e =>
    raise_of_place distinct full absent d
  have found : ∀ st i e, lowestOldest st i e →
      Machine.lowestOldest (AlarmEntry.lower st level) s.alarm.list = some e := by
    rintro st i e ⟨place, passes, lowest, oldest⟩
    have test : ∀ x : AlarmEntry, x.lower st level = true ↔ lower st x := AlarmEntry.lower_iff st level
    exact lowestOldest_eq_some ⟨place, (test e).mpr passes, fun x hx px => lowest x hx ((test x).mp px),
      fun j x hj hx px => oldest j x hj hx ((test x).mp px)⟩
  refine ⟨fun i e place cleared oldest => ?_, fun noCleared i e low => ?_, fun noCleared noAck i e low => ?_,
    fun noCleared noAck noActive => ?_⟩
  · exact givesUp i e place (AlarmUnit.victim?_of_cleared place cleared oldest)
  · refine givesUp i e low.1 ?_
    rw [AlarmUnit.victim?_of_none_cleared noCleared, found _ i e low, Option.some_or]
  · refine givesUp i e low.1 ?_
    rw [AlarmUnit.victim?_of_none_cleared noCleared, lowestOldest_lower_eq_none noAck, found _ i e low, Option.none_or]
  · have lost : s.alarm.victim? level = none := by
      rw [AlarmUnit.victim?_of_none_cleared noCleared, lowestOldest_lower_eq_none noAck,
        lowestOldest_lower_eq_none noActive, Option.none_or]
    exact congrArg s.withAlarm (AlarmUnit.raise_of_no_victim absent (by rw [full]; decide) lost)

end Sys2Proof.Machine
end

section
/-! PROOF. A clear by the entry it finds (R52). -/

namespace Sys2Proof.Machine

/-! The acts of a clear, by the state of the entry. -/

section
variable {a : AlarmUnit} {sec : Word32} {c : Nat} {sub : Subject} {e : AlarmEntry}

theorem AlarmUnit.clear_of_absent (absent : a.find? c sub = none) : a.clear sec c sub = a := by
  simp only [AlarmUnit.clear, absent]

theorem AlarmUnit.clear_of_latching (found : a.find? c sub = some e) (active : e.state = .active)
    (latching : (a.classOf c).latching = true) : a.clear sec c sub =
      (a.modify c sub (fun x => { x with state := .cleared })).clearedNotice sec c sub .cleared := by
  simp only [AlarmUnit.clear, found, active, latching, if_true]

theorem AlarmUnit.clear_of_not_latching (found : a.find? c sub = some e) (active : e.state = .active)
    (notLatching : (a.classOf c).latching = false) :
    a.clear sec c sub = (a.remove c sub).clearedNotice sec c sub .removed := by
  simp [AlarmUnit.clear, found, active, notLatching]

theorem AlarmUnit.clear_of_acknowledged (found : a.find? c sub = some e) (acknowledged : e.state = .acknowledged) :
    a.clear sec c sub = (a.remove c sub).clearedNotice sec c sub .removed := by
  simp only [AlarmUnit.clear, found, acknowledged]

theorem AlarmUnit.clear_of_shelved (found : a.find? c sub = some e) (shelved : e.state = .shelved) :
    a.clear sec c sub = a.remove c sub := by
  simp only [AlarmUnit.clear, found, shelved]

theorem AlarmUnit.clear_of_cleared (found : a.find? c sub = some e) (cleared : e.state = .cleared) :
    a.clear sec c sub = a := by
  simp only [AlarmUnit.clear, found, cleared]

theorem AlarmUnit.clearedNotice_find? (o : ClearOutcome) (c' : Nat) (sub' : Subject) :
    (a.clearedNotice sec c sub o).find? c' sub' = a.find? c' sub' := notice_find? ..

theorem AlarmUnit.modify_clearedNotice_notices (f : AlarmEntry → AlarmEntry) (o : ClearOutcome) :
    ((a.modify c sub f).clearedNotice sec c sub o).notices = (a.clearedNotice sec c sub o).notices := by
  rw [modify, clearedNotice, notice_withList]; rfl

theorem AlarmUnit.remove_clearedNotice_notices (o : ClearOutcome) :
    ((a.remove c sub).clearedNotice sec c sub o).notices = (a.clearedNotice sec c sub o).notices := by
  rw [clearedNotice, remove_notice_notices]; rfl

theorem AlarmUnit.find?_remove_self (a : AlarmUnit) (c : Nat) (sub : Subject) : (a.remove c sub).find? c sub = none := by
  rw [find?_remove, if_pos rfl]

/-- A clear leaves the entries of every other code and subject. -/
theorem AlarmUnit.clear_find?_of_ne (a : AlarmUnit) (sec : Word32) {c c' : Nat} {sub sub' : Subject}
    (other : (c', sub') ≠ (c, sub)) : (a.clear sec c sub).find? c' sub' = a.find? c' sub' := by
  have removed : (a.remove c sub).find? c' sub' = a.find? c' sub' := by rw [find?_remove, if_neg other]
  unfold AlarmUnit.clear; split
  · rfl
  · split
    · split
      · rw [clearedNotice_find?, find?_modify _ _ _ (by exact fun _ own => own), if_neg other]
      · rw [clearedNotice_find?, removed]
    · rw [clearedNotice_find?, removed]
    · exact removed
    · rfl

end

/-- Settles O19: each row of the table is the equation of the clear for that state. -/
theorem clearActsByTheStateOfTheEntry : Obligations.ClearActsByTheStateOfTheEntry := by
  intro c sub s t told
  have alarm : t.alarm = s.alarm.clear s.clock.sec c sub := rfl
  have unchanged : s.alarm.clear s.clock.sec c sub = s.alarm → t = s := congrArg s.withAlarm
  have removed : ((s.alarm.remove c sub).clearedNotice s.clock.sec c sub .removed).find? c sub = none ∧
      ((s.alarm.remove c sub).clearedNotice s.clock.sec c sub .removed).notices = told 2 :=
    ⟨by rw [AlarmUnit.clearedNotice_find?, AlarmUnit.find?_remove_self], AlarmUnit.remove_clearedNotice_notices _⟩
  refine ⟨(clear_moves c sub s).only, fun c' sub' other => AlarmUnit.clear_find?_of_ne _ _ other, fun e found => ⟨?_, ?_,
    ?_, ?_, ?_⟩, fun absent => unchanged (AlarmUnit.clear_of_absent absent)⟩
  · intro active latching
    rw [alarm, AlarmUnit.clear_of_latching found active latching]
    refine ⟨?_, AlarmUnit.modify_clearedNotice_notices _ _⟩
    rw [AlarmUnit.clearedNotice_find?, AlarmUnit.find?_modify _ _ _ (by exact fun _ own => own), if_pos rfl, found]; rfl
  · intro active notLatching
    rw [alarm, AlarmUnit.clear_of_not_latching found active notLatching]; exact removed
  · intro acknowledged
    rw [alarm, AlarmUnit.clear_of_acknowledged found acknowledged]; exact removed
  · intro shelved
    rw [alarm, AlarmUnit.clear_of_shelved found shelved]
    exact ⟨AlarmUnit.find?_remove_self .., rfl⟩
  · exact fun cleared => unchanged (AlarmUnit.clear_of_cleared found cleared)

end Sys2Proof.Machine
end

section
/-! PROOF. Acknowledge Alarm (R53) and the end of a visit (R54). -/

namespace Sys2Proof.Machine

/-! The checks of Acknowledge Alarm. -/

section
variable {s : State} {c kind index : Nat} {sub : Subject} {e : AlarmEntry}

theorem acknowledgeEffect_of_unconfigured (c kind index : Nat) (unconf : s.resp.mode = .unconfigured) :
    acknowledgeEffect c kind index s = (s, replyRefused 22 .mode) :=
  refuseIf_true _ _ _ (by simp [State.supervising, unconf])

theorem acknowledgeEffect_of_bad (sup : s.resp.mode = .supervising)
    (bad : classIndex c = none ∨ subjectOfFields kind index = none) :
    acknowledgeEffect c kind index s = (s, replyRefused 22 .badValue) := by
  refine (refuseIf_mode_of_supervising sup _ _).trans ?_
  split
  next _ _ coded fields => simp [coded, fields] at bad
  · rfl

theorem acknowledgeEffect_of_known (sup : s.resp.mode = .supervising) (coded : classIndex c ≠ none)
    (fields : subjectOfFields kind index = some sub) : acknowledgeEffect c kind index s = acknowledge c sub s := by
  obtain ⟨k, coded⟩ := Option.ne_none_iff_exists'.mp coded
  refine (refuseIf_mode_of_supervising sup _ _).trans ?_
  rw [coded, fields]

/-! Its act, by the state of the entry. -/

theorem acknowledge_of_absent (absent : s.alarm.find? c sub = none) :
    acknowledge c sub s = (s, replyRefused 22 .notFound) := by
  simp only [acknowledge, absent]

theorem acknowledge_of_shelved (found : s.alarm.find? c sub = some e) (shelved : e.state = .shelved) :
    acknowledge c sub s = (s, replyRefused 22 .state) := by
  simp only [acknowledge, found, shelved]

theorem acknowledge_of_active (found : s.alarm.find? c sub = some e) (active : e.state = .active) :
    acknowledge c sub s =
      (s.withAlarm (s.alarm.modify c sub (fun x => { x with state := .acknowledged })), replyOk 22) := by
  simp only [acknowledge, found, active]

theorem acknowledge_of_acknowledged (found : s.alarm.find? c sub = some e) (acknowledged : e.state = .acknowledged) :
    acknowledge c sub s = (s, replyOk 22) := by
  simp only [acknowledge, found, acknowledged]

theorem acknowledge_of_cleared (found : s.alarm.find? c sub = some e) (cleared : e.state = .cleared) :
    acknowledge c sub s = (s.withAlarm (s.alarm.remove c sub), replyOk 22) := by
  simp only [acknowledge, found, cleared]

/-- Acknowledge Alarm leaves every other entry. -/
theorem acknowledge_find?_of_ne (s : State) {c c' : Nat} {sub sub' : Subject} (other : (c', sub') ≠ (c, sub)) :
    (acknowledge c sub s).1.alarm.find? c' sub' = s.alarm.find? c' sub' := by
  unfold acknowledge; split
  · rfl
  · split
    · rw [State.withAlarm_alarm, AlarmUnit.find?_modify _ _ _ (by exact fun _ own => own), if_neg other]
    · rfl
    · rw [State.withAlarm_alarm, AlarmUnit.find?_remove, if_neg other]
    · rfl

/-- Acknowledge Alarm queues no notice, counts no lost raise and leaves the classes. -/
theorem acknowledge_keeps (c : Nat) (sub : Subject) (s : State) :
    (acknowledge c sub s).1.alarm.notices = s.alarm.notices ∧ (acknowledge c sub s).1.alarm.lost = s.alarm.lost ∧
      (acknowledge c sub s).1.alarm.classes = s.alarm.classes := by
  unfold acknowledge; split
  · exact ⟨rfl, rfl, rfl⟩
  · split <;> exact ⟨rfl, rfl, rfl⟩

theorem acknowledge_find?_self (found : s.alarm.find? c sub = some e) (notShelved : e.state ≠ .shelved) :
    (acknowledge c sub s).1.alarm.find? c sub = match e.state with
      | .active => some { e with state := .acknowledged }
      | .acknowledged => some e
      | _ => none := by
  cases st : e.state with
  | active =>
    rw [acknowledge_of_active found st, State.withAlarm_alarm, AlarmUnit.find?_modify _ _ _ (by exact fun _ own => own),
      if_pos rfl, found]; rfl
  | acknowledged => rw [acknowledge_of_acknowledged found st]; exact found
  | cleared => rw [acknowledge_of_cleared found st, State.withAlarm_alarm, AlarmUnit.find?_remove_self]
  | shelved => exact absurd st notShelved

theorem acknowledge_reply (found : s.alarm.find? c sub = some e) (notShelved : e.state ≠ .shelved) :
    (acknowledge c sub s).2 = replyOk 22 := by
  cases st : e.state with
  | active => rw [acknowledge_of_active found st]
  | acknowledged => rw [acknowledge_of_acknowledged found st]
  | cleared => rw [acknowledge_of_cleared found st]
  | shelved => exact absurd st notShelved

end

/-! The end of a visit. -/

/-- Notices queued one after the other do not read the list. -/
theorem AlarmUnit.foldl_notice_withList_notices (sec : Word32) (k : NoticeKind) (body : AlarmEntry → List Byte)
    (l entries : List AlarmEntry) (a : AlarmUnit) :
    (l.foldl (fun u e => u.notice sec k (body e)) ({ a with list := entries } : AlarmUnit)).notices =
      (l.foldl (fun u e => u.notice sec k (body e)) a).notices := by
  induction l generalizing a with
  | nil => rfl
  | cons e l ih => rw [List.foldl_cons, notice_withList, ih, List.foldl_cons]

/-- Notices queued one after the other act on the Alarm Unit alone. -/
theorem foldl_queueNotice_eq (k : NoticeKind) (body : AlarmEntry → List Byte) (l : List AlarmEntry) (s : State) :
    l.foldl (fun u e => queueNotice k (body e) u) s =
      s.withAlarm (l.foldl (fun a e => a.notice s.clock.sec k (body e)) s.alarm) := by
  induction l generalizing s with
  | nil => rfl
  | cons e l ih => rw [List.foldl_cons, ih]; rfl

/-- Settles O20, by the state of the entry found; the notices of R54 do not read the list they follow. -/
theorem acknowledgeAndUnshelveActByTheState : Obligations.AcknowledgeAndUnshelveActByTheState := by
  refine ⟨fun c kind index f s takes => ?_, fun id cs is s => ⟨(unshelveScopes_moves id cs is s).only,
    AlarmUnit.unshelve_list .., ?_⟩⟩
  · intro u got refused
    have answer : ∀ {t m}, acknowledgeEffect c kind index u = (t, m) → got = .next (answered f m t) :=
      next_request_of_effect takes
    refine ⟨fun unconf => answer (acknowledgeEffect_of_unconfigured c kind index unconf),
      fun sup bad => answer (acknowledgeEffect_of_bad sup bad), fun sub sup coded fields => ?_⟩
    have effect : acknowledgeEffect c kind index u = acknowledge c sub u := acknowledgeEffect_of_known sup coded fields
    refine ⟨fun absent => answer (effect.trans (acknowledge_of_absent absent)), fun e found =>
      ⟨fun shelved => answer (effect.trans (acknowledge_of_shelved found shelved)), fun notShelved => ?_⟩⟩
    obtain ⟨notices, lost, classes⟩ := acknowledge_keeps c sub u
    exact ⟨(acknowledge c sub u).1, answer (effect.trans (Prod.ext rfl (acknowledge_reply found notShelved))),
      (acknowledge_moves c sub u).only, fun c' sub' other => acknowledge_find?_of_ne u other, notices, lost, classes,
      acknowledge_find?_self found notShelved⟩
  · rw [foldl_queueNotice_eq]
    exact AlarmUnit.foldl_notice_withList_notices ..

end Sys2Proof.Machine
end

section
/-! PROOF. Read Alarm List (R56, R57, R188): the page, the read order and the packed entries. -/

namespace Sys2Proof.Machine

/-! Read order. -/

/-- Read order orders the entries by their key (R56). -/
theorem readOrder_pairwise (l : List AlarmEntry) : (readOrder l).Pairwise (fun x y => x.readKey ≤ y.readKey) := by
  have total : Std.Total (fun x y : AlarmEntry => x.readKey ≤ y.readKey) := ⟨fun x y => Nat.le_total ..⟩
  have trans : IsTrans AlarmEntry (fun x y => x.readKey ≤ y.readKey) := ⟨fun x y z => Nat.le_trans⟩
  exact List.pairwise_insertionSort _ l

theorem readOrder_perm (l : List AlarmEntry) : (readOrder l).Perm l := List.perm_insertionSort _ l

/-- The read key orders by level descending, code ascending and subject ascending while each is in its range (R56). -/
theorem readKey_le_iff_of_ranges {x y : AlarmEntry} (hx : x.level ≤ 3 ∧ x.code < 64 ∧ x.subject.number < 64)
    (hy : y.level ≤ 3 ∧ y.code < 64 ∧ y.subject.number < 64) : x.readKey ≤ y.readKey ↔ y.level < x.level ∨
      (x.level = y.level ∧ (x.code < y.code ∨ (x.code = y.code ∧ x.subject.number ≤ y.subject.number))) := by
  unfold AlarmEntry.readKey
  omega

theorem readOrder_sorted {l : List AlarmEntry} (ranges : ∀ e ∈ l, e.level ≤ 3 ∧ e.code < 64 ∧ e.subject.number < 64) :
    (readOrder l).Pairwise (fun x y => y.level < x.level ∨ (x.level = y.level ∧
      (x.code < y.code ∨ (x.code = y.code ∧ x.subject.number ≤ y.subject.number)))) := by
  have inside : ∀ e ∈ readOrder l, e.level ≤ 3 ∧ e.code < 64 ∧ e.subject.number < 64 := fun e he =>
    ranges e ((readOrder_perm l).mem_iff.mp he)
  exact (readOrder_pairwise l).imp_of_mem fun hx hy => (readKey_le_iff_of_ranges (inside _ hx) (inside _ hy)).mp

/-! The payload. -/

/-- The payload of Read Alarm List, within 128 bytes, is its front, the two numbers and then the entries (R188). -/
theorem alarmList_payload (seq : Byte) (count lost : Nat) {es : List AlarmEntry} (h : es.length ≤ 8) :
    (manageReplyFrame seq ⟨21, .ok, none, none, .alarmList count lost (es.map AlarmEntry.packed)⟩).payload =
      [21, 1, 0] ++ ((Config.alarmCountBytes count lost).take openWidth ++ (es.map AlarmEntry.packed).flatten) := by
  have fits := Result.alarmList_bytes_length_le 21 125 count lost h
  have all : ([21, 1, 0] ++ Result.bytes 21 125 (.alarmList count lost (es.map AlarmEntry.packed))).take 128 =
      [21, 1, 0] ++ Result.bytes 21 125 (.alarmList count lost (es.map AlarmEntry.packed)) :=
    List.take_of_length_le (by simp only [List.length_append, List.length_cons, List.length_nil]; omega)
  exact all

/-- Settles O22: the page of the effect, the sort by `readKey`, and the payload laid out in `alarmList_payload`. -/
theorem readAlarmListPagesInReadOrder : Obligations.ReadAlarmListPagesInReadOrder := by
  refine ⟨fun start f s takes => next_request_takes (readAlarmEffect start) takes,
    fun l => ⟨readOrder_perm l, readOrder_sorted⟩,
    fun count lost => ⟨(Config.alarmCountBytes count lost).take openWidth, List.length_take_le .., ?_⟩⟩
  intro seq es few pack
  have packed : AlarmEntry.packed = pack := by
    funext e
    simp only [AlarmEntry.packed, byteOf, Nat.mul_comm _ 4, pack]
    cases e.detail <;> rfl
  rw [alarmList_payload seq count lost few, packed, List.append_assoc]

end Sys2Proof.Machine
end

section
/-! PROOF. The tables that the site writes: Write Alarm Class (R46) and Write Gate Entry (R105). -/

namespace Sys2Proof.Machine

/-! The Alarm Class Table (R45). -/

theorem classIndex_isSome_iff (c : Nat) : (classIndex c).isSome ↔ (1 ≤ c ∧ c ≤ 20) ∨ (32 ≤ c ∧ c ≤ 63) := by
  unfold classIndex; split
  next low => simp [low]
  next notLow => split <;> simp_all

theorem classIndex_inj {c c' i : Nat} (h : classIndex c = some i) (h' : classIndex c' = some i) : c = c' := by
  simp only [classIndex] at h h'
  grind

theorem classIndex_lt {c i : Nat} (h : classIndex c = some i) : i < 52 := by
  simp only [classIndex] at h
  grind

/-- The class of a code after a place of the table is written: the new one for the code of that place. -/
theorem AlarmUnit.classOf_store (a : AlarmUnit) {c i : Nat} (place : classIndex c = some i) (x : AlarmClass) (c' : Nat) :
    ({ a with classes := a.classes.setIfInBounds i x } : AlarmUnit).classOf c' = if c' = c then x else a.classOf c' := by
  unfold classOf
  split
  next same =>
    subst same
    rw [place, Option.bind_some, Vector.getElem?_setIfInBounds_self_of_lt (classIndex_lt place), Option.getD_some]
  next other =>
    cases place' : classIndex c' with
    | none => rfl
    | some j =>
      have apart : i ≠ j := fun same => other (classIndex_inj place' (same ▸ place))
      rw [Option.bind_some, Option.bind_some, Vector.getElem?_setIfInBounds_ne apart]

theorem flagValue_neither : flagValue .neither = none := rfl

theorem flagValue_of_ne {x : FlagField} (h : x ≠ .neither) : flagValue x = some (decide (x = .yes)) := by
  cases x with
  | yes => rfl
  | no => rfl
  | neither => exact absurd rfl h

section
variable {c level : Nat} {la sh : FlagField} (s : State)

theorem writeClassEffect_of_bad (bad : ¬((1 ≤ c ∧ c ≤ 20) ∨ (32 ≤ c ∧ c ≤ 63)) ∨ la = .neither ∨ sh = .neither) :
    writeClassEffect c level la sh s = (s, replyRefused 9 .badValue) := by
  unfold writeClassEffect; split
  next i x y place flag flag' =>
    rcases bad with uncoded | rfl | rfl
    · exact absurd ((classIndex_isSome_iff c).mp (by rw [place]; rfl)) uncoded
    · cases flag
    · cases flag'
  · rfl

theorem writeClassEffect_of_good {i : Nat} (place : classIndex c = some i) (flag : la ≠ .neither)
    (flag' : sh ≠ .neither) : writeClassEffect c level la sh s =
      (s.withAlarm { s.alarm with classes :=
          s.alarm.classes.setIfInBounds i ⟨min 3 level, decide (la = .yes), decide (sh = .yes)⟩ },
        replyClamped 9 (clamped 0 3 level).2) := by
  simp only [writeClassEffect, place, flagValue_of_ne flag, flagValue_of_ne flag', clamp_zero]

end

/-! The Order Gate Table (R104). -/

theorem OrderKind.ofCode_toCode (k : OrderKind) : OrderKind.ofCode k.toCode = some k := by cases k <;> rfl

theorem OrderKind.toCode_of_ofCode {n : Nat} {k : OrderKind} (h : OrderKind.ofCode n = some k) : k.toCode = n := by
  unfold OrderKind.ofCode at h
  split at h <;> cases h <;> rfl

theorem OrderKind.toCode_range (k : OrderKind) : 1 ≤ k.toCode ∧ k.toCode ≤ 13 := by cases k <;> decide

theorem OrderKind.index_add_one (k : OrderKind) : k.index.val + 1 = k.toCode := by cases k <;> rfl

theorem OrderKind.index_inj {k k' : OrderKind} (h : k.index.val = k'.index.val) : k = k' := by
  have codes : k.toCode = k'.toCode := by rw [← index_add_one, ← index_add_one, h]
  exact Option.some.inj ((ofCode_toCode k).symm.trans ((congrArg ofCode codes).trans (ofCode_toCode k')))

theorem GateClass.ofCode_toCode (c : GateClass) : GateClass.ofCode c.toCode = some c := by cases c <;> rfl

theorem GateClass.toCode_of_ofCode {n : Nat} {c : GateClass} (h : GateClass.ofCode n = some c) : c.toCode = n := by
  unfold GateClass.ofCode at h
  split at h <;> cases h <;> rfl

theorem GateClass.toCode_range (c : GateClass) : 1 ≤ c.toCode ∧ c.toCode ≤ 3 := by cases c <;> decide

theorem writeGateEffect_of_bad {kind cls : Nat} (bad : ¬(1 ≤ kind ∧ kind ≤ 13) ∨ ¬(1 ≤ cls ∧ cls ≤ 3)) (s : State) :
    writeGateEffect kind cls s = (s, replyRefused 10 .badValue) := by
  unfold writeGateEffect; split
  next k c known known' =>
    rw [← OrderKind.toCode_of_ofCode known, ← GateClass.toCode_of_ofCode known'] at bad
    exact absurd bad (by simp [k.toCode_range, c.toCode_range])
  · rfl

theorem writeGateEffect_of_good (k : OrderKind) (c : GateClass) (s : State) :
    writeGateEffect k.toCode c.toCode s = (s.withGate (s.gate.set k.index c), replyOk 10) := by
  rw [writeGateEffect, OrderKind.ofCode_toCode, GateClass.ofCode_toCode]

end Sys2Proof.Machine
end

section
/-! PROOF. The fields of Write Group Parameters (R123, R124) and of Write Port Settings (R165, R187). -/

namespace Sys2Proof.Machine

theorem stepSet_iff (v : Nat) : stepSet v = true ↔ v = 10 ∨ v = 20 ∨ v = 40 ∨ v = 80 := by simp [stepSet, or_assoc]

theorem bitRateOk_iff (v : Nat) : bitRateOk v = true ↔ v = 19200 ∨ v = 57600 ∨ v = 115200 ∨ v = 460800 := by
  simp [bitRateOk, or_assoc]

/-! The group parameters. -/

theorem groupFieldBad_iff (a : GroupField × Nat) : groupFieldBad a = true ↔
    a.1 = .rampStep ∧ a.2 ≠ 10 ∧ a.2 ≠ 20 ∧ a.2 ≠ 40 ∧ a.2 ≠ 80 := by
  obtain ⟨k, v⟩ := a
  cases k
  case rampStep => simp [groupFieldBad, ← Bool.not_eq_true, stepSet_iff]
  all_goals simp [groupFieldBad]

theorem any_groupFieldBad_iff (fs : List (GroupField × Nat)) : fs.any groupFieldBad = true ↔
    ∃ v, (.rampStep, v) ∈ fs ∧ v ≠ 10 ∧ v ≠ 20 ∧ v ≠ 40 ∧ v ≠ 80 := by
  simp only [List.any_eq_true, groupFieldBad_iff, Prod.exists]
  constructor
  · rintro ⟨k, v, listed, rfl, bad⟩; exact ⟨v, listed, bad⟩
  · rintro ⟨v, listed, bad⟩; exact ⟨.rampStep, v, listed, rfl, bad⟩

/-- A value is cut when it lies outside its range. -/
theorem groupValue_bne_iff (a : GroupField × Nat) : (groupValue a != a.2) = true ↔
    a.2 < (groupRange a.1).1 ∨ (groupRange a.1).2 < a.2 :=
  clamped_snd_iff (by cases a.1 <;> decide) a.2

/-- A ramp step of the set is stored as it is carried. -/
theorem groupValue_rampStep {v : Nat} (good : ¬(v ≠ 10 ∧ v ≠ 20 ∧ v ≠ 40 ∧ v ≠ 80)) : groupValue (.rampStep, v) = v := by
  simp only [groupValue, groupRange, clamp]
  omega

theorem GroupField.exists_iff (p : GroupField → Prop) : (∃ x, p x) ↔ p .minInService ∨ p .capacityMargin ∨
    p .reserveThreshold ∨ p .rampStep ∨ p .rampInterval ∨ p .matchTolerance ∨ p .matchWindow ∨ p .replyWindow ∨
    p .completionWindow ∨ p .settleBypass ∨ p .settleMaint ∨ p .settleOutput ∨ p .settleIsolate ∨
    p .mismatchAllowance := by
  constructor
  · rintro ⟨x, holds⟩; cases x <;> simp [holds]
  · intro holds
    rcases holds with h | h | h | h | h | h | h | h | h | h | h | h | h | h <;> exact ⟨_, h⟩

/-- A field is carried with a value outside its range (R123). -/
def CutField (fs : List (GroupField × Nat)) (x : GroupField) : Prop :=
  ∃ v, (x, v) ∈ fs ∧ (v < (groupRange x).1 ∨ (groupRange x).2 < v)

theorem any_groupValue_bne_iff (fs : List (GroupField × Nat)) :
    fs.any (fun a => groupValue a != a.2) = true ↔ ∃ x, CutField fs x := by
  simp only [List.any_eq_true, groupValue_bne_iff, Prod.exists, CutField]

/-- No ramp step of the set is outside its range. -/
theorem not_cutField_rampStep {fs : List (GroupField × Nat)}
    (good : ¬∃ v, (.rampStep, v) ∈ fs ∧ v ≠ 10 ∧ v ≠ 20 ∧ v ≠ 40 ∧ v ≠ 80) : ¬CutField fs .rampStep := by
  rintro ⟨v, listed, out⟩
  refine good ⟨v, listed, ?_⟩
  simp only [groupRange] at out
  omega

section
variable {g : Nat} {fs : List (GroupField × Nat)} {s : State}

theorem writeGroupEffect_bad_iff : (decide (4 ≤ g) || fs.isEmpty || fs.any groupFieldBad) = true ↔
    4 ≤ g ∨ fs = [] ∨ ∃ v, (.rampStep, v) ∈ fs ∧ v ≠ 10 ∧ v ≠ 20 ∧ v ≠ 40 ∧ v ≠ 80 := by
  rw [Bool.or_eq_true, Bool.or_eq_true, any_groupFieldBad_iff, decide_eq_true_iff, List.isEmpty_iff, or_assoc]

/-- The parameters of a group after those of one group are stored. -/
theorem groupParams_store (x : GroupParams) (inside : g < 4) (j : Nat) :
    groupParams (s.withSeq { s.seq with groups := s.seq.groups.setIfInBounds g x }) j =
      if j = g then x else groupParams s j := by
  rw [groupParams, State.withSeq_seq, getD_setIfInBounds, groupParams]
  simp only [inside, and_true, eq_comm]

end

/-! The port settings. -/

theorem portOfCode_portCode (p : Port) : portOfCode (portCode p) = some p := by cases p <;> rfl

theorem portOfCode_of_two_le {port : Nat} (h : 2 ≤ port) : portOfCode port = none := by
  unfold portOfCode; split
  · omega
  · omega
  · rfl

theorem portFieldBad_iff (a : PortField × Nat) : portFieldBad a = true ↔
    a.1 = .bitRate ∧ a.2 ≠ 19200 ∧ a.2 ≠ 57600 ∧ a.2 ≠ 115200 ∧ a.2 ≠ 460800 := by
  obtain ⟨k, v⟩ := a
  cases k
  case bitRate => simp [portFieldBad, ← Bool.not_eq_true, bitRateOk_iff]
  all_goals simp [portFieldBad]

theorem writePortEffect_bad_iff (fs : List (PortField × Nat)) : (fs.isEmpty || fs.any portFieldBad) = true ↔
    fs = [] ∨ ∃ v, (.bitRate, v) ∈ fs ∧ v ≠ 19200 ∧ v ≠ 57600 ∧ v ≠ 115200 ∧ v ≠ 460800 := by
  rw [Bool.or_eq_true, List.isEmpty_iff]
  simp only [List.any_eq_true, portFieldBad_iff, Prod.exists]
  refine or_congr_right ⟨?_, ?_⟩
  · rintro ⟨k, v, listed, rfl, bad⟩; exact ⟨v, listed, bad⟩
  · rintro ⟨v, listed, bad⟩; exact ⟨.bitRate, v, listed, rfl, bad⟩

/-- A setting is cut when it has a range and lies outside it. -/
theorem portValue_bne_iff (a : PortField × Nat) : (portValue a != a.2) = true ↔ (a.1 = .guard ∧ 15 < a.2) ∨
    (a.1 = .waitLimit ∧ (a.2 < 2 ∨ 255 < a.2)) ∨ (a.1 = .raiseLevel ∧ (a.2 < 1 ∨ 255 < a.2)) := by
  obtain ⟨k, v⟩ := a
  cases k with
  | bitRate => simp [portValue]
  | guard => simpa [portValue, clamped] using clamped_snd_iff (lo := 0) (hi := 15) (by decide) v
  | waitLimit => simpa [portValue, clamped] using clamped_snd_iff (lo := 2) (hi := 255) (by decide) v
  | raiseLevel => simpa [portValue, clamped] using clamped_snd_iff (lo := 1) (hi := 255) (by decide) v

theorem any_portValue_bne_iff (fs : List (PortField × Nat)) : fs.any (fun a => portValue a != a.2) = true ↔
    ∃ v, ((.guard, v) ∈ fs ∧ 15 < v) ∨ ((.waitLimit, v) ∈ fs ∧ (v < 2 ∨ 255 < v)) ∨
      ((.raiseLevel, v) ∈ fs ∧ (v < 1 ∨ 255 < v)) := by
  simp only [List.any_eq_true, portValue_bne_iff, Prod.exists]
  constructor
  · rintro ⟨k, v, listed, ⟨rfl, out⟩ | ⟨rfl, out⟩ | ⟨rfl, out⟩⟩
    · exact ⟨v, .inl ⟨listed, out⟩⟩
    · exact ⟨v, .inr (.inl ⟨listed, out⟩)⟩
    · exact ⟨v, .inr (.inr ⟨listed, out⟩)⟩
  · rintro ⟨v, ⟨listed, out⟩ | ⟨listed, out⟩ | ⟨listed, out⟩⟩
    · exact ⟨.guard, v, listed, .inl ⟨rfl, out⟩⟩
    · exact ⟨.waitLimit, v, listed, .inr (.inl ⟨rfl, out⟩)⟩
    · exact ⟨.raiseLevel, v, listed, .inr (.inr ⟨rfl, out⟩)⟩

theorem writePortEffect_of_bad {port : Nat} {fs : List (PortField × Nat)} (bad : 2 ≤ port ∨
    (fs.isEmpty || fs.any portFieldBad) = true) (s : State) :
    writePortEffect port fs s = (s, replyRefused 11 .badValue) := by
  unfold writePortEffect; split
  · rfl
  next p known =>
    refine refuseIf_true _ _ _ (bad.resolve_left fun out => ?_)
    rw [portOfCode_of_two_le out] at known
    cases known

theorem writePortEffect_of_good (p : Port) {fs : List (PortField × Nat)}
    (good : (fs.isEmpty || fs.any portFieldBad) = false) (s : State) : writePortEffect (portCode p) fs s =
      (s.withPort p { s.port p with settings := storePortFields (s.port p).settings fs },
        replyClamped 11 (fs.any (fun a => portValue a != a.2))) := by
  simp only [writePortEffect, portOfCode_portCode]
  exact refuseIf_false _ _ _ good

theorem dropHead_s_settings (p : Port) (s : State) : ((dropHead .s s).port p).settings = (s.port p).settings := by
  cases p <;> rfl

end Sys2Proof.Machine
end

section
/-! PROOF. The tables that the site writes store their fields (R46, R105, R124, R187). -/

namespace Sys2Proof.Machine

/-- Settles O23, request by request: the refusals, and what the effect stores. -/
theorem tableWritesStoreTheirFields : Obligations.TableWritesStoreTheirFields := by
  refine ⟨fun c level la sh f s takes => ?_, fun kind cls f s takes => ?_, fun g fs f s takes => ?_,
    fun port fs f s takes => ?_⟩
  · intro u got coded
    refine ⟨fun bad => next_request_of_effect takes (writeClassEffect_of_bad u bad), fun isCoded flag flag' => ?_⟩
    obtain ⟨i, place⟩ := Option.isSome_iff_exists.mp ((classIndex_isSome_iff c).mpr isCoded)
    have effect := writeClassEffect_of_good (level := level) u place flag flag'
    have only := (writeClassEffect_moves c level la sh u).only
    have status : (clamped 0 3 level).2 = decide (3 < level) := by
      rw [Bool.eq_iff_iff, clamped_snd_iff (by decide), decide_eq_true_iff]; omega
    rw [effect] at only
    refine ⟨_, (next_request_of_effect takes effect).trans ?_, only, ?_, fun c' other => ?_, rfl, rfl, rfl⟩
    · simp only [replyClamped, status, decide_eq_true_eq]
    · rw [State.withAlarm_alarm, AlarmUnit.classOf_store _ place, if_pos rfl]
    · rw [State.withAlarm_alarm, AlarmUnit.classOf_store _ place, if_neg other]; rfl
  · intro u got
    refine ⟨fun bad => next_request_of_effect takes (writeGateEffect_of_bad bad u), ?_⟩
    rintro k c rfl rfl
    have effect := writeGateEffect_of_good k c u
    have only := (writeGateEffect_moves k.toCode c.toCode u).only
    rw [effect] at only
    refine ⟨_, next_request_of_effect takes effect, Vector.getElem_set_self _, fun k' other => ?_, only⟩
    exact Vector.getElem_set_ne k.index.isLt k'.index.isLt fun same => other (OrderKind.index_inj same).symm
  · intro u bad
    have test := writeGroupEffect_bad_iff (g := g) (fs := fs)
    refine ⟨fun isBad => next_request_of_effect takes (refuseIf_true _ _ _ (test.mpr isBad)), ?_⟩
    intro outside cut stored good
    have noStep : ¬∃ v, (.rampStep, v) ∈ fs ∧ v ≠ 10 ∧ v ≠ 20 ∧ v ≠ 40 ∧ v ≠ 80 := fun h => good (.inr (.inr h))
    have inside : g < 4 := Nat.lt_of_not_le fun h => good (.inl h)
    have isStored : ∀ x, storeGroupFields x fs = stored x := fun x => by
      refine List.foldl_ext _ _ _ fun x ⟨k, v⟩ listed => ?_
      cases k
      case rampStep => exact congrArg (setGroupField x · .rampStep) (groupValue_rampStep fun h => noStep ⟨v, listed, h⟩)
      case reserveThreshold | settleBypass | settleMaint | settleOutput | settleIsolate =>
        exact congrArg (setGroupField x · _) (clamp_zero _ v)
      all_goals rfl
    have isCut : fs.any (fun a => groupValue a != a.2) = true ↔ cut := by
      rw [any_groupValue_bne_iff, GroupField.exists_iff]
      simp only [not_cutField_rampStep noStep, false_or]
      exact Iff.rfl
    have effect : writeGroupEffect g fs u = (_, _) := refuseIf_false _ _ _ (Bool.eq_false_iff.mpr (mt test.mp good))
    refine ⟨_, _, next_request_of_effect takes effect, fun h => if_pos (isCut.mpr h), fun h => if_neg (mt isCut.mp h), ?_,
      fun j other => ?_, rfl, rfl, rfl, (moves_withSeq ..).only⟩
    · rw [groupParams_store _ inside, if_pos rfl, isStored]; rfl
    · rw [groupParams_store _ inside, if_neg other]; rfl
  · intro u got bad stored cut
    have test : (fs.isEmpty || fs.any portFieldBad) = true ↔ bad := writePortEffect_bad_iff fs
    have isCut : fs.any (fun a => portValue a != a.2) = true ↔ cut := any_portValue_bne_iff fs
    have isStored : ∀ x, storePortFields x fs = stored x := fun x => by
      refine List.foldl_ext _ _ _ fun x ⟨k, v⟩ _ => ?_
      cases k
      case guard => exact congrArg (setPortField x · .guard) (clamp_zero 15 v)
      all_goals rfl
    refine ⟨fun refused => next_request_of_effect takes (writePortEffect_of_bad (refused.imp_right test.mpr) u), ?_⟩
    rintro p rfl good t
    have effect := writePortEffect_of_good p (Bool.eq_false_iff.mpr (mt test.mp good)) u
    rw [isStored, dropHead_s_settings] at effect
    refine ⟨fun h => ?_, fun h => ?_⟩
    · rw [replyClamped, if_pos (isCut.mpr h)] at effect; exact next_request_of_effect takes effect
    · rw [replyClamped, if_neg (mt isCut.mp h)] at effect; exact next_request_of_effect takes effect

end Sys2Proof.Machine
end

section
/-! PROOF. Calendar wear keeps every fraction, and the temperature factor lies on the line between two points of its table
(R74, R75). -/

namespace Sys2Proof.Machine

/-! Calendar wear. -/

theorem calendarWear_eq (a : Ageing) (dt factor : Nat) : calendarWear a dt factor = { a with
    wCal := min (2 ^ 40 - 1) (a.wCal + (dt * factor + a.rCal) / 256), rCal := (dt * factor + a.rCal) % 256 } := rfl

/-- Below the stop of W_cal, wear and remainder together gain exactly Δt × F. -/
theorem calendarWear_total {a : Ageing} {dt factor : Nat}
    (below : 256 * a.wCal + a.rCal + dt * factor < 256 * 2 ^ 40) :
    256 * (calendarWear a dt factor).wCal + (calendarWear a dt factor).rCal = 256 * a.wCal + a.rCal + dt * factor := by
  rw [calendarWear_eq]
  dsimp only
  omega

theorem foldl_calendarWear_total (l : List (Nat × Nat)) {a : Ageing} (remainder : a.rCal < 256)
    (below : 256 * a.wCal + a.rCal + (l.map (fun x => x.1 * x.2)).sum < 256 * 2 ^ 40) :
    let b := l.foldl (fun a x => calendarWear a x.1 x.2) a
    256 * b.wCal + b.rCal = 256 * a.wCal + a.rCal + (l.map (fun x => x.1 * x.2)).sum ∧ b.rCal < 256 ∧
      b = { a with wCal := b.wCal, rCal := b.rCal } := by
  induction l generalizing a with
  | nil => exact ⟨rfl, remainder, rfl⟩
  | cons x l ih =>
    rw [List.map_cons, List.sum_cons] at below ⊢
    have first := calendarWear_total (a := a) (dt := x.1) (factor := x.2) (by omega)
    obtain ⟨total, rest, frame⟩ := ih (a := calendarWear a x.1 x.2) (Nat.mod_lt _ (by decide)) (by omega)
    exact ⟨by rw [List.foldl_cons]; omega, rest, frame⟩

/-! The temperature factor. -/

/-- A part of a distance up from a point, cut toward the point. -/
theorem interpolate_up (lo d frac : Nat) :
    (lo : Int) + (((lo + d : Nat) - lo : Int) * frac).tdiv 100 = (lo + d * frac / 100 : Nat) := by
  rw [show ((lo + d : Nat) - lo : Int) * frac = (d * frac : Nat) by push_cast; ring, Int.tdiv_eq_ediv_of_nonneg (by omega)]
  omega

/-- A part of a distance down from a point, cut toward the point. -/
theorem interpolate_down (hi d : Nat) {frac : Nat} (part : frac < 100) :
    ((hi + d : Nat) : Int) + ((hi - (hi + d : Nat) : Int) * frac).tdiv 100 = (hi + d - d * frac / 100 : Nat) := by
  have short : d * frac ≤ d * 100 := Nat.mul_le_mul_left d part.le
  rw [show (hi - (hi + d : Nat) : Int) * frac = -(d * frac : Nat) by push_cast; ring, Int.neg_tdiv,
    Int.tdiv_eq_ediv_of_nonneg (by omega)]
  omega

/-- A point of the line between two values lies between them. -/
theorem interpolate_between (x y : Nat) {frac : Nat} (part : frac < 100) :
    (min x y : Nat) ≤ (x : Int) + ((y - x : Int) * frac).tdiv 100 ∧
      (x : Int) + ((y - x : Int) * frac).tdiv 100 ≤ (max x y : Nat) := by
  rcases Nat.le_total x y with up | down
  · obtain ⟨d, rfl⟩ := Nat.exists_eq_add_of_le up
    have short : d * frac ≤ d * 100 := Nat.mul_le_mul_left d part.le
    rw [interpolate_up]
    omega
  · obtain ⟨d, rfl⟩ := Nat.exists_eq_add_of_le down
    have short : d * frac ≤ d * 100 := Nat.mul_le_mul_left d part.le
    rw [interpolate_down y d part]
    omega

theorem temperatureFactor_top (fs : Vector Nat 10) : temperatureFactor fs 700 = fs[9] := rfl

/-- Between two points of the table the factor is the value on the line, which is no negative number. -/
theorem temperatureFactor_between (fs : Vector Nat 10) {teff : Int} {i frac : Nat} (h : i < 9) (part : frac < 100)
    (place : teff + 200 = 100 * i + frac) :
    (temperatureFactor fs teff : Int) = fs[i] + (((fs[i + 1] : Int) - fs[i]) * frac).tdiv 100 := by
  have offset : (teff + 200).toNat = 100 * i + frac := by omega
  have index : (100 * i + frac) / 100 = i := by omega
  have rest : (100 * i + frac) % 100 = frac := by omega
  have least := (interpolate_between fs[i] fs[i + 1] part).1
  have lo : fs.getD i 0 = fs[i] := by simp [Vector.getD, show i < 10 by omega]
  have hi : fs.getD (i + 1) 0 = fs[i + 1] := by simp [Vector.getD, show i + 1 < 10 by omega]
  simp only [temperatureFactor, offset, index, rest, if_neg (Nat.not_le.mpr h), lo, hi]
  exact Int.toNat_of_nonneg ((Int.natCast_nonneg _).trans least)

/-- Settles O24: the wear by induction on the updates, the factor by the line on which it lies. -/
theorem wearAndTemperatureFactorAreExact : Obligations.WearAndTemperatureFactorAreExact := by
  refine ⟨⟨fun dt factor a => calendarWear_eq a dt factor, fun l a remainder below =>
    foldl_calendarWear_total l remainder below⟩, fun fs teff _ => ⟨?_, fun i h frac part place => ?_⟩⟩
  · rintro rfl
    exact temperatureFactor_top fs
  · have line := temperatureFactor_between fs h part place
    obtain ⟨least, greatest⟩ := interpolate_between fs[i] fs[i + 1] part
    rw [← line] at least greatest
    refine ⟨line, Int.ofNat_le.mp least, Int.ofNat_le.mp greatest, fun positive => ?_⟩
    exact (le_min (positive ⟨i, by omega⟩) (positive ⟨i + 1, by omega⟩)).trans (Int.ofNat_le.mp least)

end Sys2Proof.Machine
end

section
/-! PROOF. The steps of an ageing update on a record: time, temperature, the activity step with its discharge events, and the
resistance list (R70, R71, R73, R78, R79, R87 to R93). -/

namespace Sys2Proof.Machine

/-! Step 1, the time base (R70, R71). -/

section
variable {p : AgeingParams} {a : Ageing} {now : Word32}

theorem timeStep_of_fresh (fresh : a.base = .fresh) : timeStep p a now = ⟨0, now, false⟩ := by
  simp only [timeStep, fresh]

theorem timeStep_of_broken (broken : a.base = .broken) : timeStep p a now = ⟨p.dtLimit, now, true⟩ := by
  simp only [timeStep, broken]

theorem timeStep_of_within (valid : a.base = .valid) (within : (now - a.lastMs).toNat / 1000 ≤ p.dtLimit) :
    timeStep p a now = ⟨(now - a.lastMs).toNat / 1000,
      a.lastMs + BitVec.ofNat 32 (1000 * ((now - a.lastMs).toNat / 1000)), false⟩ := by
  rw [Nat.mul_comm 1000]
  simp only [timeStep, valid]
  exact if_pos within

theorem timeStep_of_beyond (valid : a.base = .valid) (beyond : p.dtLimit < (now - a.lastMs).toNat / 1000) :
    timeStep p a now = ⟨p.dtLimit, now, true⟩ := by
  simp only [timeStep, valid]
  exact if_neg beyond.not_ge

end

/-! Step 2, the effective temperature (R73). -/

theorem effectiveTemp_of_greatest {last : Option Int} {temps : List Int} {t : Int} (best : greatestTemp temps = some t) :
    effectiveTemp last temps = (max (-200) (min 700 t), some (max (-200) (min 700 t))) := by
  simp only [effectiveTemp, best, clampInt]

theorem effectiveTemp_of_none {last : Option Int} {temps : List Int} (none : greatestTemp temps = .none) :
    effectiveTemp last temps = (last.getD 200, last) := by
  simp only [effectiveTemp, none]

/-! Learning and rises (R78, R92). -/

theorem trimBaseline_up {trim base m : Nat} (learned : base ≠ 0) (up : base ≤ m) :
    trimBaseline trim base m = min m (base + trim) := by
  unfold trimBaseline
  rw [if_neg (by omega), if_neg learned]
  split
  · omega
  · rw [if_neg (by omega)]; omega

theorem trimBaseline_down {trim base m : Nat} (measured : m ≠ 0) (down : m ≤ base) :
    trimBaseline trim base m = max m (base - trim) := by
  unfold trimBaseline
  rw [if_neg measured, if_neg (by omega), if_neg (by omega)]
  split <;> omega

/-! The activity step's table (R87). -/

section
variable {p : AgeingParams} {a : Ageing} {i : Int}

theorem activityMove_float_below (float : a.activity = .float) (below : i ≤ p.dTh) : activityMove p a i = .stay 0 := by
  simp only [activityMove, float, decide_eq_true_eq, if_neg below.not_gt]

/-- Outside a discharge a current above the threshold is confirmed once, then begins an event. -/
theorem activityMove_above (outside : a.activity ≠ .discharge) (above : p.dTh < i) : activityMove p a i =
    if 1 ≤ a.confirm then .beginEvent else .stay (a.confirm + 1) := by
  cases state : a.activity with
  | discharge => exact absurd state outside
  | float | recharge =>
    simp only [activityMove, state, decide_eq_true_eq, if_pos above]
    exact if_congr Nat.succ_le_succ_iff rfl rfl

theorem activityMove_discharge_above (discharge : a.activity = .discharge) (above : p.dTh < i) :
    activityMove p a i = .stay 0 := by
  simp only [activityMove, discharge, decide_eq_true_eq, if_pos above]

/-- In a discharge a current at or below the threshold is confirmed once, then ends the event. -/
theorem activityMove_discharge_below (discharge : a.activity = .discharge) (below : i ≤ p.dTh) : activityMove p a i =
    if 1 ≤ a.confirm then .endEvent else .stay (a.confirm + 1) := by
  simp only [activityMove, discharge, decide_eq_true_eq, if_neg below.not_gt]
  exact if_congr Nat.succ_le_succ_iff rfl rfl

theorem activityMove_recharge_below (recharge : a.activity = .recharge) (below : i ≤ p.dTh) : activityMove p a i =
    if i < -p.dTh then .stay 0 else .toFloat := by
  simp only [activityMove, recharge, decide_eq_true_eq, if_neg below.not_gt]

end

/-! The charge of a discharge event (R88, R89). -/

theorem depthOf_mono (capacity : Nat) {x y : Nat} (le : x ≤ y) : depthOf capacity x ≤ depthOf capacity y :=
  Nat.div_le_div_right (Nat.mul_le_mul_right 1000 le)

/-- However its updates cut a charge, the state of charge falls by the depth that the charge has gained. -/
theorem foldl_addCharge (capacity : Nat) (products : List Nat) {a : Ageing} (top : a.charge ≤ max32) :
    let b := products.foldl (fun a p => addCharge capacity p a) a
    b.charge = min max32 (a.charge + products.sum) ∧
      b.soc = a.soc - (depthOf capacity b.charge - depthOf capacity a.charge) := by
  induction products generalizing a with
  | nil => exact ⟨(min_eq_right top).symm, by rw [List.foldl_nil, Nat.sub_self, Nat.sub_zero]⟩
  | cons x products ih =>
    have charge : (addCharge capacity x a).charge = min max32 (a.charge + x) := rfl
    have soc : (addCharge capacity x a).soc =
      a.soc - (depthOf capacity (addCharge capacity x a).charge - depthOf capacity a.charge) := rfl
    obtain ⟨total, fall⟩ := ih (a := addCharge capacity x a) (min_le_left ..)
    have first := depthOf_mono capacity (show a.charge ≤ (addCharge capacity x a).charge by omega)
    have rest := depthOf_mono capacity (show (addCharge capacity x a).charge ≤
      (products.foldl (fun a p => addCharge capacity p a) (addCharge capacity x a)).charge by omega)
    rw [List.foldl_cons, List.sum_cons]
    exact ⟨by omega, by omega⟩

/-! What the moves do to the record (R87 to R91). -/

section
variable {p : AgeingParams} {capacity : Nat} {test : Bool} {timer : Timer} {i : Int} {product : Nat} {a : Ageing}

theorem activityStep_of_stay {n : Nat} (move : activityMove p a i = .stay n) :
    activityStep p capacity test timer i product a = if a.activity = .discharge then
      addCharge capacity product { a with confirm := n } else { a with confirm := n } := by
  simp only [activityStep, move]

theorem activityStep_of_beginEvent (move : activityMove p a i = .beginEvent) :
    activityStep p capacity test timer i product a = addCharge capacity product
      { a with activity := .discharge, confirm := 0, charge := 0, eventIsTest := test, recovery := none } := by
  simp only [activityStep, move]

theorem activityStep_of_endEvent (move : activityMove p a i = .endEvent) :
    activityStep p capacity test timer i product a = endEvent capacity a := by
  simp only [activityStep, move]

theorem activityStep_of_toFloat (move : activityMove p a i = .toFloat) :
    activityStep p capacity test timer i product a =
      { a with activity := .float, confirm := 0, recovery := some timer } := by
  simp only [activityStep, move]

end

/-- The bins cover the depths without overlap (R90). -/
theorem binOf_eq {k : Fin 4} {d : Nat} (bin : (k = 0 ∧ d < 100) ∨ (k = 1 ∧ 100 ≤ d ∧ d < 300) ∨
    (k = 2 ∧ 300 ≤ d ∧ d < 600) ∨ (k = 3 ∧ 600 ≤ d)) : binOf d = k := by
  unfold binOf
  rcases bin with ⟨rfl, below⟩ | ⟨rfl, least, below⟩ | ⟨rfl, least, below⟩ | ⟨rfl, least⟩
  · rw [if_pos below]; rfl
  · rw [if_neg (by omega), if_pos below]; rfl
  · rw [if_neg (by omega), if_neg (by omega), if_pos below]; rfl
  · rw [if_neg (by omega), if_neg (by omega), if_neg (by omega)]; rfl

/-- The count of the event's own bin gains 1 up to its stop, and no other count changes (R90). -/
theorem endEvent_bins {capacity : Nat} {a : Ageing} {k : Fin 4} (own : binOf (min 1000 (depthOf capacity a.charge)) = k) :
    (endEvent capacity a).bins[k] = min 65535 (a.bins[k] + 1) ∧
      ∀ j : Fin 4, j ≠ k → (endEvent capacity a).bins[j] = a.bins[j] := by
  have bins : (endEvent capacity a).bins = a.bins.setIfInBounds k (min 65535 (a.bins[k] + 1)) := by
    simp [endEvent, own, satAdd, Vector.getD]
  refine ⟨?_, fun j other => ?_⟩
  · simp [bins]
  · simp only [bins, Fin.getElem_fin]
    exact Vector.getElem_setIfInBounds_ne _ fun same => other (Fin.ext same.symm)

/-! The resistance list (R78, R79, R92, R93). -/

section
variable {rs : List (Nat × Nat)} {j : Nat}

/-- The values of a list per block after a resistance list: a listed block's is changed by its measurement. -/
theorem updateBlocks_getElem? (f : Nat → Nat → Nat) {l : List Nat} {x : Nat} (here : l[j]? = some x) :
    let named := rs.find? (fun r => r.1 == j + 1)
    (named = none → (updateBlocks l rs f)[j]? = some x) ∧
      ∀ m, named = some m → (updateBlocks l rs f)[j]? = some (f x m.2) := by
  intro named
  have value : (updateBlocks l rs f)[j]? = some (match named with
      | some r => f x r.2
      | none => x) := by
    rw [updateBlocks, List.getElem?_mapIdx, here]; rfl
  exact ⟨fun absent => by rw [value, absent], fun m listed => by rw [value, listed]⟩

theorem takeRises_getElem? {a : Ageing} {x y : Nat} (here : a.rises[j]? = some x) (baseline : a.baseline[j]? = some y) :
    let named := rs.find? (fun r => r.1 == j + 1)
    (named = none → (takeRises rs a).rises[j]? = some x) ∧
      ∀ m, named = some m → (takeRises rs a).rises[j]? = some (riseOf y m.2) := by
  intro named
  have value : (takeRises rs a).rises[j]? = some (match named with
      | some r => riseOf (a.baseline.getD j 0) r.2
      | none => x) := by
    simp only [takeRises, List.getElem?_mapIdx, here]; rfl
  have measured : a.baseline.getD j 0 = y := by rw [List.getD_eq_getElem?_getD, baseline, Option.getD_some]
  exact ⟨fun absent => by rw [value, absent], fun m listed => by rw [value, listed, measured]⟩

end

/-- The worst rise of a string with blocks is the greatest of its rises (R79). -/
theorem takeRises_max? (rs : List (Nat × Nat)) {a : Ageing} (blocks : (takeRises rs a).rises ≠ []) :
    (takeRises rs a).rises.max? = some (takeRises rs a).worstRise := by
  have worst : (takeRises rs a).worstRise = (takeRises rs a).rises.foldl max 0 := rfl
  obtain ⟨x, l, cons⟩ := List.exists_cons_of_ne_nil blocks
  rw [worst, cons, List.max?_cons', List.foldl_cons, Nat.zero_max]

/-- Settles O25, step by step: each clause is the lemma of its function. -/
theorem updateStepsFollowTheirRules : Obligations.UpdateStepsFollowTheirRules := by
  refine ⟨fun p a now => ?_, fun last temps => ?_, fun trim base m => ?_, fun p a i => ?_,
    fun capacity products a _ empty => ?_, fun p capacity test timer i product a => ?_, fun p rs a => ?_⟩
  · intro seconds
    exact ⟨timeStep_of_fresh, timeStep_of_broken, timeStep_of_within, timeStep_of_beyond⟩
  · intro valid
    refine ⟨fun t isValid greatest =>
      effectiveTemp_of_greatest ((greatestTemp_eq_some_iff temps t).mpr ⟨isValid, greatest⟩), fun none => ?_⟩
    have absent := effectiveTemp_of_none (last := last) (greatestTemp_of_none_valid none)
    exact ⟨fun t known => by rw [absent, known]; rfl, fun unknown => by rw [absent, unknown]; rfl⟩
  · exact ⟨fun measured => (if_neg measured).trans (if_pos rfl), if_pos rfl, fun learned measured =>
      ⟨trimBaseline_up learned, trimBaseline_down measured⟩, if_pos rfl, fun learned => if_neg learned⟩
  · intro dTh
    refine ⟨activityMove_float_below, fun outside above once => ?_, fun outside above twice => ?_,
      activityMove_discharge_above, fun discharge below once => ?_, fun discharge below twice => ?_,
      fun recharge charging => ?_, fun recharge rest below => ?_⟩
    · rw [activityMove_above outside above, once]; rfl
    · rw [activityMove_above outside above, if_pos twice]
    · rw [activityMove_discharge_below discharge below, once]; rfl
    · rw [activityMove_discharge_below discharge below, if_pos twice]
    · rw [activityMove_recharge_below recharge (by omega), if_pos charging]
    · rw [activityMove_recharge_below recharge below, if_neg rest.not_gt]
  · obtain ⟨charge, soc⟩ := foldl_addCharge capacity products (a := a) (by rw [empty]; exact Nat.zero_le _)
    rw [empty, Nat.zero_add] at charge
    have noDepth : depthOf capacity 0 = 0 := by simp [depthOf]
    rw [empty, noDepth, Nat.sub_zero] at soc
    exact ⟨charge, soc⟩
  · intro b depth charged bin
    refine ⟨fun n move outside => (activityStep_of_stay move).trans (if_neg outside),
      fun n move within => (activityStep_of_stay move).trans (if_pos within), activityStep_of_beginEvent,
      fun move k own => ?_, activityStep_of_toFloat⟩
    have ended : b = endEvent capacity a := activityStep_of_endEvent move
    obtain ⟨counted, others⟩ := endEvent_bins (capacity := capacity) (a := a) (binOf_eq own)
    rw [ended]
    exact ⟨rfl, counted, others⟩
  · intro named b c
    refine ⟨⟨rfl, List.length_mapIdx, fun j x here => updateBlocks_getElem? _ here⟩, rfl, List.length_mapIdx,
      fun j x y here baseline => takeRises_getElem? here baseline, fun x listed => ?_, fun blocks => ?_⟩
    · exact (List.max?_eq_some_iff.mp (takeRises_max? rs (List.ne_nil_of_mem listed))).2 x listed
    · exact (List.max?_eq_some_iff.mp (takeRises_max? rs blocks)).1

end Sys2Proof.Machine
end

section
/-! PROOF. The life figures of a record: the fraction that gives L, the grade, and the bound of the reserve (R80 to R84). -/

namespace Sys2Proof.Machine

/-! The limiting factor (R83): the first of the fractions that equal the greatest. -/

theorem limitingOf_calendar_iff (c y r : Nat) : limitingOf c y r = .calendar ↔ max c (max y r) = c := by
  rw [max_eq_left_iff, max_le_iff, limitingOf]
  split
  next first => simp only [first, and_self]
  next notFirst => split <;> simp only [reduceCtorEq, notFirst]

theorem limitingOf_cycles_iff (c y r : Nat) :
    limitingOf c y r = .cycles ↔ max c (max y r) = y ∧ max c (max y r) ≠ c := by
  unfold limitingOf
  split
  next first => simp only [reduceCtorEq, false_iff]; omega
  next notFirst =>
    split
    next second => simp only [true_iff]; omega
    next notSecond => simp only [reduceCtorEq, false_iff]; omega

theorem limitingOf_resistance_iff (c y r : Nat) : limitingOf c y r = .resistance ↔
    max c (max y r) = r ∧ max c (max y r) ≠ c ∧ max c (max y r) ≠ y := by
  unfold limitingOf
  split
  next first => simp only [reduceCtorEq, false_iff]; omega
  next notFirst =>
    split
    next second => simp only [reduceCtorEq, false_iff]; omega
    next notSecond => simp only [true_iff]; omega

/-! The grade (R83): the threshold that the life figure has reached last. -/

theorem gradeOf_spec (p : AgeingParams) (life : Nat) (first : p.t1 < p.t2) (second : p.t2 < p.t3) :
    (gradeOf p life = .good ↔ life < p.t1) ∧ (gradeOf p life = .fair ↔ p.t1 ≤ life ∧ life < p.t2) ∧
      (gradeOf p life = .poor ↔ p.t2 ≤ life ∧ life < p.t3) ∧ (gradeOf p life = .replace ↔ p.t3 ≤ life) := by
  unfold gradeOf
  split
  next good => simp only [reduceCtorEq, true_iff, false_iff]; omega
  next notGood =>
    split
    next fair => simp only [reduceCtorEq, true_iff, false_iff]; omega
    next notFair => split <;> simp only [reduceCtorEq, true_iff, false_iff] <;> omega

/-- The reserve is a part of what the life figure leaves. -/
theorem reserve_le {left soc : Nat} (full : soc ≤ 1000) : left * soc / 1000 ≤ left :=
  Nat.div_le_of_le_mul ((Nat.mul_le_mul_left left full).trans_eq (Nat.mul_comm left 1000))

/-- Settles O26: each figure is the one `withLife` writes, and the rules of `limitingOf` and `gradeOf` apply to them. -/
theorem lifeGradeAndReserveFollowTheFractions : Obligations.LifeGradeAndReserveFollowTheFractions := by
  intro p a b s
  have cTop : b.cFrac ≤ 1000 := min_le_left ..
  have yTop : b.yFrac ≤ 1000 := min_le_left ..
  have rTop : b.rFrac ≤ 1000 := min_le_left ..
  exact ⟨rfl, rfl, rfl, ⟨le_max_left .., (le_max_left ..).trans (le_max_right ..), (le_max_right ..).trans (le_max_right ..)⟩,
    max_le cTop (max_le yTop rTop), limitingOf_calendar_iff .., limitingOf_cycles_iff .., limitingOf_resistance_iff ..,
    gradeOf_spec p b.life, rfl, fun full => reserve_le full⟩

end Sys2Proof.Machine
end

section
/-! PROOF. Life, grade and reserve recomputed on a string's record: the record, the acts of a grade change and the judgement
of the owner's reserve (R83 to R85), and the recovery timer (R91). -/

namespace Sys2Proof.Machine

/-! The String Table. -/

theorem Moves.str?_eq_of_alarm {s t : State} (h : Moves [.alarm] s t) (j : Nat) : str? t j = str? s j := by
  rw [str?, h.only.same .strs (by decide)]; rfl

/-- The records after the record of a string that stands is replaced. -/
theorem str?_setStr_of_found {s : State} {i : Nat} {r : StrRec} (found : str? s i = some r) (q : StrRec) (j : Nat) :
    str? (setStr s i q) j = if i = j then some q else str? s j := by
  rw [str?_setStr]
  simp only [str?_lt found, and_true]

theorem modAge_of_found {s : State} {i : Nat} {r : StrRec} (found : str? s i = some r) (f : Ageing → Ageing) :
    modAge i f s = setStr s i { r with ageing := f r.ageing } := by
  simp only [modAge, modStr, found]

theorem strNode?_congr {s t : State} (resp : t.resp = s.resp) (i : Nat) : strNode? t i = strNode? s i := by
  simp only [strNode?, strEntry?, resp]

/-- The reserve of a cabinet is read from the directory and the String Table alone (R15). -/
theorem cabReserve_congr {s t : State} (resp : t.resp = s.resp) (strs : t.strs = s.strs) (c : Nat) :
    cabReserve t c = cabReserve s c := by
  have table : str? t = str? s := funext fun i => by rw [str?, str?, strs]
  simp only [cabReserve, stringsOf, strNode?_congr resp, table]

/-! The acts of a grade change and of the RESERVE_LOW judgement. -/

theorem gradeActs_of_same {i : Nat} {old : Grade} {a : Ageing} (same : old = a.grade) (s : State) :
    gradeActs i old a s = s := if_pos same

theorem raiseOrClear_decide (c : Prop) [Decidable c] (code : Nat) (sub : Subject) (d : Option Word32) (s : State) :
    raiseOrClear (decide c) code sub d s = if c then raise code sub d s else clear code sub s := by
  simp only [raiseOrClear, decide_eq_true_eq]

section
variable {p : AgeingParams} {i : Nat} {r : StrRec} {s : State}

/-- A recomputation of a string that stands: the acts of its grade, the record, and the judgement of its owner. -/
theorem recompute_of_found (found : str? s i = some r) : recompute p i s = judgeOwnerReserve i
    (setStr (gradeActs i r.ageing.grade (withLife p r.ageing) s) i { r with ageing := withLife p r.ageing }) := by
  simp only [recompute, found]

/-- The String Table after a recomputation. -/
theorem str?_recompute (found : str? s i = some r) (j : Nat) : str? (recompute p i s) j =
    if i = j then some { r with ageing := withLife p r.ageing } else str? s j := by
  have acts := (gradeActs_moves i r.ageing.grade (withLife p r.ageing) s).str?_eq_of_alarm
  rw [recompute_of_found found, (judgeOwnerReserve_moves ..).str?_eq_of_alarm,
    str?_setStr_of_found ((acts i).trans found), acts]

/-- The alarms after a recomputation: the acts of the grade, then RESERVE_LOW of the owner judged on the record as it then
stands, whose reserve the recomputation leaves. -/
theorem recompute_alarmsAgree {n : StrNode} (found : str? s i = some r) (node : strNode? s i = some n) :
    let reserve := cabReserve (recompute p i s) n.owner
    AlarmsAgree (if reserve < (groupParams s ((groupOf? s n.owner).getD 0)).reserveThreshold then
        raise codeReserveLow (.cabinet n.owner) (some (BitVec.ofNat 32 reserve))
          (gradeActs i r.ageing.grade (withLife p r.ageing) s)
      else clear codeReserveLow (.cabinet n.owner) (gradeActs i r.ageing.grade (withLife p r.ageing) s))
      (recompute p i s) := by
  intro reserve
  have acts := gradeActs_moves i r.ageing.grade (withLife p r.ageing) s
  generalize eq : gradeActs i r.ageing.grade (withLife p r.ageing) s = graded at acts ⊢
  have writes := setStr_moves graded i { r with ageing := withLife p r.ageing }
  have before := recompute_of_found (p := p) found
  rw [eq] at before
  generalize setStr graded i { r with ageing := withLife p r.ageing } = written at writes before
  have resp : written.resp = s.resp := (writes.only.same .resp (by decide)).trans (acts.only.same .resp (by decide))
  have seq : written.seq = s.seq := (writes.only.same .seq (by decide)).trans (acts.only.same .seq (by decide))
  have cabs : written.cabs = s.cabs := (writes.only.same .cabs (by decide)).trans (acts.only.same .cabs (by decide))
  have judged : recompute p i s = judgeReserve n.owner written := by
    rw [before, judgeOwnerReserve, strNode?_congr resp, node]
  have moves := judgeReserve_moves n.owner written
  have reserveBefore : cabReserve written n.owner = reserve := by
    rw [← cabReserve_congr (moves.only.same .resp (by decide)) (moves.only.same .strs (by decide)), ← judged]
  rw [judged, judgeReserve, reserveBefore, raiseOrClear_decide]
  have agree : AlarmsAgree graded written := writes.alarmsAgree (by decide)
  refine .ite (by simp only [groupParams, groupOf?, cab?, seq, cabs]) (fun _ => ?_) (fun _ => ?_)
  · exact agree.raise ..
  · exact agree.clear ..

/-- A recovery timer that has run out fills the charge of its string and has life recomputed (R91). -/
theorem exec_recoveryTimerExpiry {w : Timer} (opened : s.bridge = .opened) (found : str? s i = some r)
    (runs : r.ageing.recovery = some w) (out : RunOut w s) : exec (.recoveryTimerExpiry i) s =
      .next (recompute s.params.active i (setStr s i { r with ageing := { r.ageing with soc := 1000, recovery := none } })) := by
  refine congrArg Host.Outcome.next ((whenRunning_of_opened opened _).trans ?_)
  simp only [recoveryExpires, found, State.now, timerDue_of_runOut runs out, if_true, modAge_of_found found]

end

/-- Settles O28: the record by `str?_recompute`, the alarms by `recompute_alarmsAgree`, whose grade acts are those the statement
writes out. -/
theorem recoveryExpiryAndGradeChange : Obligations.RecoveryExpiryAndGradeChange := by
  refine ⟨fun i r n w s opened found node runs out => ?_, fun p i r n s found node => ?_⟩
  · intro a
    have writes := setStr_moves s i { r with ageing := { r.ageing with soc := 1000, recovery := none } }
    have stands := str?_setStr_of_found found { r with ageing := { r.ageing with soc := 1000, recovery := none } }
    have here := (stands i).trans (if_pos rfl)
    have record := str?_recompute (p := s.params.active) here
    refine ⟨_, exec_recoveryTimerExpiry opened found runs out, (record i).trans (if_pos rfl), fun j other => ?_,
      (writes.only.mono (by decide)).trans (recompute_moves ..).only, rfl, ?_⟩
    · rw [record, if_neg other.symm, stands, if_neg other.symm]
    · intro same reserve low
      have agree := recompute_alarmsAgree (p := s.params.active) here (n := n) node
      rw [gradeActs_of_same same.symm] at agree
      have plain : AlarmsAgree s _ := writes.alarmsAgree (by decide)
      refine agree.alarm.trans (AlarmsAgree.ite Iff.rfl (fun _ => ?_) (fun _ => ?_)).alarm
      · exact plain.raise ..
      · exact plain.clear ..
  · intro a t codeOf cleared raised told reserve judged
    refine ⟨(str?_recompute found i).trans (if_pos rfl), (recompute_moves p i s).only, ?_⟩
    have codes : gradeAlarm = codeOf := funext fun g => by cases g <;> rfl
    have acts : gradeActs i r.ageing.grade a s = if a.grade = r.ageing.grade then s else told := by
      unfold gradeActs
      rw [codes]
      exact if_congr eq_comm rfl rfl
    have agree := recompute_alarmsAgree (p := p) found node
    rw [acts] at agree
    exact agree.alarm

end Sys2Proof.Machine
end
section
/-! PROOF. The ageing update (R67, R68): the hand-over taken, swap detection on its serial, and the steps on the record it
leaves. -/

namespace Sys2Proof.Machine

/-! The records of the other strings. -/

section
variable {i j : Nat} {s : State}

theorem str?_modStr_of_ne (f : StrRec → StrRec) (other : j ≠ i) : str? (modStr i f s) j = str? s j := by
  unfold modStr; split
  · rw [str?_setStr, if_neg fun same => other same.1.symm]
  · rfl

theorem str?_recompute_of_ne (p : AgeingParams) (other : j ≠ i) : str? (recompute p i s) j = str? s j := by
  cases found : str? s i with
  | none => simp only [recompute, found]
  | some r => rw [str?_recompute found, if_neg other.symm]

theorem str?_swapActs (x y : Word32) : str? (swapActs i x y s) j = str? s j := (swapActs_moves ..).str?_eq_of_alarm j

theorem str?_replaceString_of_ne (serial : Word32) (other : j ≠ i) : str? (replaceString i serial s) j = str? s j := by
  unfold replaceString
  rw [str?_recompute_of_ne _ other, str_queueNotice, str?_modStr_of_ne _ other]

/-- Swap detection acts on the record of its own string alone. -/
theorem str?_swapDetection_of_ne (serial : Word32) (other : j ≠ i) : str? (swapDetection i serial s) j = str? s j := by
  have pends : ∀ (f : Ageing → Ageing) (x : Word32), str? (swapActs i x serial (modAge i f s)) j = str? s j :=
    fun f x => (str?_swapActs ..).trans (str?_modStr_of_ne _ other)
  unfold swapDetection; split
  · rfl
  next r found =>
    split
    · rfl
    split
    · split
      · rfl
      · exact pends ..
    split
    · rw [str?_setStr_of_found found, if_neg other.symm]
    split
    · rfl
    split
    · exact str?_replaceString_of_ne serial other
    · exact pends ..

end

/-! The steps leave the gap count of step 1. -/

theorem activityStep_gaps (p : AgeingParams) (capacity : Nat) (test : Bool) (timer : Timer) (i : Int) (product : Nat)
    (a : Ageing) : (activityStep p capacity test timer i product a).gaps = a.gaps := by
  unfold activityStep; split
  · dsimp only; split <;> rfl
  all_goals rfl

theorem throughput_gaps (product : Nat) (a : Ageing) : (throughput product a).gaps = a.gaps := by
  unfold throughput; split <;> rfl

theorem resistanceStep_eq (p : AgeingParams) (rs : List (Nat × Nat)) (a : Ageing) : resistanceStep p rs a =
    if rs = [] then a else if a.baselineState = .learning then learn p rs a else takeRises rs a := by
  unfold resistanceStep
  refine if_congr List.isEmpty_iff rfl ?_
  split
  next learning => rw [if_pos learning]
  next learned => rw [if_neg (by rw [learned]; decide)]

theorem resistanceStep_gaps (p : AgeingParams) (rs : List (Nat × Nat)) (a : Ageing) :
    (resistanceStep p rs a).gaps = a.gaps := by
  unfold resistanceStep; split
  · rfl
  · split <;> rfl

theorem ageRecord_gaps (p : AgeingParams) (capacity : Nat) (test : Bool) (timer : Timer) (h : AgeingHand) (a : Ageing) :
    (ageRecord p capacity test timer h a).gaps =
      if (timeStep p a h.now).gap then min 65535 (a.gaps + 1) else a.gaps := by
  unfold ageRecord
  dsimp only
  rw [resistanceStep_gaps, throughput_gaps, activityStep_gaps]
  rfl

/-! The update. -/

section
variable {h : AgeingHand} {r : StrRec} {s : State}

theorem exec_ageingUpdate_of_hand {rest : List AgeingHand} (opened : s.bridge = .opened)
    (hand : s.hand.ageing = h :: rest) :
    exec .ageingUpdate s = .next (takeAgeingHand h (s.withHand { s.hand with ageing := rest })) := by
  refine congrArg Host.Outcome.next ((whenRunning_of_opened opened _).trans ?_)
  simp only [hand]

theorem takeAgeingHand_of_frozen (found : str? (swapDetection h.string h.serial s) h.string = some r)
    (frozen : r.ageing.frozen = true) : takeAgeingHand h s = swapDetection h.string h.serial s := by
  simp only [takeAgeingHand, found, Option.any_some, frozen, if_true]

theorem takeAgeingHand_of_not_frozen (found : str? (swapDetection h.string h.serial s) h.string = some r)
    (notFrozen : r.ageing.frozen = false) :
    takeAgeingHand h s = ageingStep h (swapDetection h.string h.serial s) := by
  simp only [takeAgeingHand, found, Option.any_some, notFrozen, Bool.false_eq_true, if_false]

theorem ageingStep_of_found {n : StrNode} (found : str? s h.string = some r) (node : strNode? s h.string = some n) :
    let a := ageRecord s.params.active n.capacity (ownerTestFlag s n) (recoveryTimer s s.params.active.recoveryTime) h
      r.ageing
    ageingStep h s = recompute s.params.active h.string (raiseOrClear (timeStep s.params.active r.ageing h.now).gap
      codeAgeingGap (.string h.string) (some (detailNat a.gaps)) (setStr s h.string { r with ageing := a })) := by
  simp only [ageingStep, found, node]

end

/-- Settles O27: swap detection leaves the parameters, the directory, the cabinets and the clock, so the steps run on what
the statement names; the last of them is a recomputation of the string's record. -/
theorem ageingUpdateRunsItsSteps : Obligations.AgeingUpdateRunsItsSteps := by
  intro h rest r s opened hand u found
  have taken := exec_ageingUpdate_of_hand opened hand
  refine ⟨fun frozen => taken.trans (congrArg _ (takeAgeingHand_of_frozen found frozen)), fun n notFrozen node => ?_⟩
  intro p step teff product a1 a2 a3 a4 a5 aged judged
  have swap : Moves [.strs, .alarm] (s.withHand { s.hand with ageing := rest }) u := swapDetection_moves ..
  have params : u.params = s.params := swap.only.same .params (by decide)
  have clock : u.clock = s.clock := swap.only.same .clock (by decide)
  have cabs : u.cabs = s.cabs := swap.only.same .cabs (by decide)
  have resp : u.resp = s.resp := swap.only.same .resp (by decide)
  have steps : ageRecord u.params.active n.capacity (ownerTestFlag u n)
      (recoveryTimer u u.params.active.recoveryTime) h r.ageing = a5 := by
    rw [params, ownerTestFlag, cab?, cabs, recoveryTimer, State.now, clock, ageRecord, resistanceStep_eq]
    rfl
  have gaps : a5.gaps = a1.gaps := by rw [← steps, ageRecord_gaps, params]
  have final := (takeAgeingHand_of_not_frozen found notFrozen).trans
    (ageingStep_of_found found ((strNode?_congr resp _).trans node))
  rw [steps, params, gaps] at final
  have written := str?_setStr_of_found found { r with ageing := a5 }
  have gapActs : Moves [.alarm] (setStr u h.string { r with ageing := a5 }) judged := raiseOrClear_moves step.gap ..
  have record := str?_recompute (p := p) ((gapActs.str?_eq_of_alarm h.string).trans ((written _).trans (if_pos rfl)))
  have frame := exec_ageingUpdate_moves (taken.trans (congrArg _ final))
  refine ⟨_, taken.trans (congrArg _ final), (record _).trans (if_pos rfl), fun i other => ?_, ?_, rfl,
    frame.only.mono (by decide)⟩
  · calc str? (recompute p h.string judged) i
      _ = str? judged i := str?_recompute_of_ne p other
      _ = str? (setStr u h.string { r with ageing := a5 }) i := gapActs.str?_eq_of_alarm i
      _ = str? u i := (written i).trans (if_neg other.symm)
      _ = str? s i := str?_swapDetection_of_ne h.serial other
  · have acts : Moves [.strs, .alarm] u (recompute p h.string judged) :=
      ((setStr_moves ..).mono (by decide)).trans ((gapActs.mono (by decide)).trans (recompute_moves ..))
    exact (acts.only.same .hand (by decide)).trans (swap.only.same .hand (by decide))

end Sys2Proof.Machine
end

section
/-! PROOF. The two copies of the Ageing Parameter Set: Stage, Commit and Read Ageing Parameters (R63 to R66). -/

namespace Sys2Proof.Machine

/-! Staged fields (R63, R64). -/

theorem ageingFieldBad_iff (x : AgeingField) : ageingFieldBad x = true ↔ (∃ i v, x = .factor i v ∧ 10 ≤ i) ∨
    (∃ i v, x = .weight i v ∧ 4 ≤ i) ∨ ∃ v, x = .trimStep v ∧ v ≠ 10 ∧ v ≠ 20 ∧ v ≠ 40 ∧ v ≠ 80 := by
  cases x
  case factor i v => simp [ageingFieldBad, Nat.succ_le_iff]
  case weight i v => simp [ageingFieldBad, Nat.succ_le_iff]
  case trimStep v => simp [ageingFieldBad, ← Bool.not_eq_true, stepSet_iff]
  all_goals simp [ageingFieldBad]

theorem any_ageingFieldBad_iff (fs : List AgeingField) : fs.any ageingFieldBad = true ↔
    (∃ i v, .factor i v ∈ fs ∧ 10 ≤ i) ∨ (∃ i v, .weight i v ∈ fs ∧ 4 ≤ i) ∨
      ∃ v, .trimStep v ∈ fs ∧ v ≠ 10 ∧ v ≠ 20 ∧ v ≠ 40 ∧ v ≠ 80 := by
  simp only [List.any_eq_true, ageingFieldBad_iff]
  constructor
  · rintro ⟨x, listed, ⟨i, v, rfl, out⟩ | ⟨i, v, rfl, out⟩ | ⟨v, rfl, out⟩⟩
    · exact .inl ⟨i, v, listed, out⟩
    · exact .inr (.inl ⟨i, v, listed, out⟩)
    · exact .inr (.inr ⟨v, listed, out⟩)
  · rintro (⟨i, v, listed, out⟩ | ⟨i, v, listed, out⟩ | ⟨v, listed, out⟩)
    · exact ⟨_, listed, .inl ⟨i, v, rfl, out⟩⟩
    · exact ⟨_, listed, .inr (.inl ⟨i, v, rfl, out⟩)⟩
    · exact ⟨_, listed, .inr (.inr ⟨v, rfl, out⟩)⟩

theorem AgeingParams.ascending_iff (p : AgeingParams) : p.ascending = true ↔ p.t1 < p.t2 ∧ p.t2 < p.t3 := by
  simp only [ascending, Bool.and_eq_true, decide_eq_true_eq]

theorem stageEffect_bad_iff (fs : List AgeingField) (p : AgeingParams) :
    (fs.isEmpty || fs.any ageingFieldBad || !p.ascending) = true ↔ fs = [] ∨ (∃ i v, .factor i v ∈ fs ∧ 10 ≤ i) ∨
      (∃ i v, .weight i v ∈ fs ∧ 4 ≤ i) ∨ (∃ v, .trimStep v ∈ fs ∧ v ≠ 10 ∧ v ≠ 20 ∧ v ≠ 40 ∧ v ≠ 80) ∨
      ¬(p.t1 < p.t2 ∧ p.t2 < p.t3) := by
  rw [Bool.or_eq_true, Bool.or_eq_true, List.isEmpty_iff, any_ageingFieldBad_iff, Bool.not_eq_true', ← Bool.not_eq_true,
    AgeingParams.ascending_iff]
  simp only [or_assoc]

/-- A value is cut when it lies outside its range. -/
theorem clamped_snd {lo hi : Nat} (range : lo ≤ hi) (v : Nat) : (clamped lo hi v).2 = decide (v < lo ∨ hi < v) := by
  rw [Bool.eq_iff_iff, clamped_snd_iff range, decide_eq_true_iff]

/-- A value with no least bound is cut when it lies above its greatest. -/
theorem clamped_zero_snd (hi v : Nat) : (clamped 0 hi v).2 = decide (hi < v) := by
  rw [clamped_snd (Nat.zero_le hi)]
  simp only [Nat.not_lt_zero, false_or]

/-- A table is cut when one of its values lies above the greatest. -/
theorem any_clamped_zero_snd {n : Nat} (hi : Nat) (vs : Vector Nat n) :
    vs.toList.any (fun v => (clamped 0 hi v).2) = decide (∃ i : Fin n, hi < vs[i]) := by
  simp only [clamped_zero_snd]
  rw [Bool.eq_iff_iff, List.any_eq_true, decide_eq_true_iff]
  simp only [decide_eq_true_eq, Vector.mem_toList_iff, Vector.mem_iff_getElem]
  constructor
  · rintro ⟨v, ⟨i, inside, rfl⟩, above⟩; exact ⟨⟨i, inside⟩, above⟩
  · rintro ⟨i, above⟩; exact ⟨_, ⟨i, i.isLt, rfl⟩, above⟩

theorem storeAgeingFields_append (p : AgeingParams) (fs : List AgeingField) (x : AgeingField) :
    storeAgeingFields p (fs ++ [x]) = ((storeAgeingField (storeAgeingFields p fs).1 x).1,
      (storeAgeingFields p fs).2 || (storeAgeingField (storeAgeingFields p fs).1 x).2) := by
  simp only [storeAgeingFields, List.foldl_append, List.foldl_cons, List.foldl_nil]

section
variable {fs : List AgeingField} {s : State}

theorem stageEffect_of_bad (bad : (fs.isEmpty || fs.any ageingFieldBad ||
    !(storeAgeingFields s.params.staged fs).1.ascending) = true) :
    stageEffect fs s = (s, replyRefused 12 .badValue) := by
  unfold stageEffect; exact refuseIf_true _ _ _ bad

theorem stageEffect_of_good (good : (fs.isEmpty || fs.any ageingFieldBad ||
    !(storeAgeingFields s.params.staged fs).1.ascending) = false) : stageEffect fs s =
      (s.withParams { s.params with staged := (storeAgeingFields s.params.staged fs).1 },
        replyClamped 12 (storeAgeingFields s.params.staged fs).2) := by
  unfold stageEffect; exact refuseIf_false _ _ _ good

end

/-- Settles O30: the checks of the request, and field by field what is stored and whether it was cut. -/
theorem stageWritesTheStagedCopy : Obligations.StageWritesTheStagedCopy := by
  refine ⟨fun fs f s takes => ?_, fun p fs => ⟨rfl, storeAgeingFields_append p fs, fun i v => ?_, fun i v => ?_,
    fun vs => ?_, fun vs => ?_, fun v => ?_⟩⟩
  · intro u stored bad
    have test := stageEffect_bad_iff fs stored.1
    exact ⟨fun isBad => next_request_of_effect takes (stageEffect_of_bad (s := u) (test.mpr isBad)), fun good =>
      next_request_of_effect takes (stageEffect_of_good (s := u) (Bool.eq_false_iff.mpr (mt test.mp good)))⟩
  · simp only [storeAgeingField, clamp_zero, clamped_zero_snd]
  · simp only [storeAgeingField, clamp_zero, clamped_zero_snd]
  · simp only [storeAgeingField, any_clamped_zero_snd, funext (clamp_zero 8192)]
  · simp only [storeAgeingField, any_clamped_zero_snd, funext (clamp_zero 65535)]
  · simp only [storeAgeingField, clamped_zero_snd, clamped_snd (show 50 ≤ 2000 by decide),
      clamped_snd (show 365 ≤ 7300 by decide), clamped_snd (show 1 ≤ 1000 by decide),
      clamped_snd (show 10 ≤ 3600 by decide), clamped_snd (show 1 ≤ 15 by decide),
      clamped_snd (show 10 ≤ 1440 by decide), clamp, Nat.zero_max, and_self]

/-! Commit and Read (R65, R66). -/

theorem commitEffect_of_zero {s : State} {i : Fin 10} (zero : s.params.staged.factors[i] = 0)
    (lowest : ∀ j : Fin 10, j < i → s.params.staged.factors[j] ≠ 0) :
    commitEffect s = (s, replyRefusedAt 13 .badValue i) := by
  have found : s.params.staged.factors.toList.findIdx? (· == 0) = some i.val := by
    rw [List.findIdx?_eq_some_iff_getElem]
    refine ⟨by rw [Vector.length_toList]; exact i.isLt, beq_iff_eq.mpr zero, fun j before => ?_⟩
    rw [Bool.not_eq_true, beq_eq_false_iff_ne]
    exact lowest ⟨j, before.trans i.isLt⟩ before
  simp only [commitEffect, found]

theorem commitEffect_of_no_zero {s : State} (noZero : ∀ i : Fin 10, s.params.staged.factors[i] ≠ 0) :
    commitEffect s = (s.withParams ⟨s.params.staged, s.params.staged⟩, replyOk 13) := by
  have found : s.params.staged.factors.toList.findIdx? (· == 0) = none := by
    rw [List.findIdx?_eq_none_iff]
    intro x listed
    obtain ⟨i, inside, rfl⟩ := Vector.mem_iff_getElem.mp (Vector.mem_toList_iff.mp listed)
    exact beq_eq_false_iff_ne.mpr (noZero ⟨i, inside⟩)
  simp only [commitEffect, found]

theorem readParamsEffect_eq (copy : Nat) (s : State) : readParamsEffect copy s = (s,
    if copy = 1 then replyWith 14 (.params s.params.active (decide (s.params.active = s.params.staged)))
    else if copy = 2 then replyWith 14 (.params s.params.staged (decide (s.params.active = s.params.staged)))
    else replyRefused 14 .badValue) := by
  unfold readParamsEffect
  split
  · rfl
  · rfl
  next notActive notStaged => rw [if_neg notActive, if_neg notStaged]

/-- Settles O31, by the effects of the two requests. -/
theorem commitAndReadTheParameterCopies : Obligations.CommitAndReadTheParameterCopies := by
  refine ⟨fun f s takes => ⟨fun i zero lowest => ?_, fun noZero => ?_⟩, fun copy f s takes => ?_⟩
  · exact next_request_of_effect takes (commitEffect_of_zero (s := dropHead .s s) zero lowest)
  · exact next_request_of_effect takes (commitEffect_of_no_zero (s := dropHead .s s) noZero)
  · exact next_request_of_effect takes (readParamsEffect_eq copy (dropHead .s s))

end Sys2Proof.Machine
end
section
/-! PROOF. Swap detection, replacement and Accept Replacement (R94 to R99). -/

namespace Sys2Proof.Machine

/-- A string lies in the string scope of an ACTIVE visit of the register (R94, R161). -/
theorem strInActiveVisit_iff (s : State) (i : Nat) : strInActiveVisit s i = true ↔
    ∃ k v, visitEntry? s k = some v ∧ v.state = .active ∧ i ∈ v.strings := by
  simp only [strInActiveVisit, List.any_eq_true, mem_visitsIn_iff, beq_iff_eq, List.contains_iff_mem]
  constructor
  · rintro ⟨v, ⟨k, stands, active⟩, listed⟩; exact ⟨k, v, stands, active, listed⟩
  · rintro ⟨k, v, stands, active, listed⟩; exact ⟨v, ⟨k, stands, active⟩, listed⟩

/-! A replacement (R95). -/

section
variable {i : Nat} {r : StrRec} {s : State} (found : str? s i = some r) (serial : Word32)
include found

theorem replaceString_of_found : replaceString i serial s =
    recompute s.params.active i (queueNotice .stringReplaced (byteOf i :: bytes32 serial)
      (setStr s i { r with serial := serial, ageing := resetAgeing r.ageing.baseline.length r.ageing })) := by
  simp only [replaceString, modStr, found]
  rfl

theorem str?_replaceString : str? (replaceString i serial s) i =
    some { r with
      serial := serial
      ageing := withLife s.params.active (resetAgeing r.ageing.baseline.length r.ageing) } := by
  have fresh := (str?_setStr_of_found found
    { r with serial := serial, ageing := resetAgeing r.ageing.baseline.length r.ageing } i).trans (if_pos rfl)
  rw [replaceString_of_found found, str?_recompute ((str_queueNotice ..).trans fresh), if_pos rfl]

end

/-! Swap detection, by the serial of the report and what the record holds (R94, R96, R97). -/

section
variable {i : Nat} {serial : Word32} {r : StrRec} {s : State}

theorem swapDetection_of_zero (i : Nat) (s : State) : swapDetection i 0 s = s := by
  unfold swapDetection; split
  · rfl
  · exact if_pos rfl

theorem swapActs_modAge_of_found (found : str? s i = some r) (f : Ageing → Ageing) (serial : Word32) :
    swapActs i r.serial serial (modAge i f s) =
      queueNotice .stringSwapPending (byteOf i :: (bytes32 r.serial ++ bytes32 serial))
        (raise codeStringSwapUnscoped (.string i) (some serial) (setStr s i { r with ageing := f r.ageing })) := by
  rw [modAge_of_found found]; rfl

variable (found : str? s i = some r)
include found

theorem swapDetection_of_first (notFrozen : r.ageing.frozen = false) (carried : serial ≠ 0) (unknown : r.serial = 0) :
    swapDetection i serial s = setStr s i { r with serial := serial } := by
  simp only [swapDetection, found, notFrozen, carried, unknown, Bool.false_eq_true, if_false, if_true]

theorem swapDetection_of_recorded (notFrozen : r.ageing.frozen = false) (known : r.serial ≠ 0)
    (same : serial = r.serial) : swapDetection i serial s = s := by
  simp only [swapDetection, found, notFrozen, same, known, Bool.false_eq_true, if_false, if_true]

theorem swapDetection_of_swap (notFrozen : r.ageing.frozen = false) (carried : serial ≠ 0) (known : r.serial ≠ 0)
    (other : serial ≠ r.serial) : swapDetection i serial s =
      if strInActiveVisit s i then replaceString i serial s else freezeString i r.serial serial s := by
  simp only [swapDetection, found, notFrozen, carried, known, other, Bool.false_eq_true, if_false]

theorem swapDetection_of_pending (frozen : r.ageing.frozen = true) (pending : r.ageing.pendingSerial = some serial) :
    swapDetection i serial s = s := by
  simp only [swapDetection, found, frozen, pending, if_true, ite_self]

theorem swapDetection_of_not_pending (frozen : r.ageing.frozen = true) (carried : serial ≠ 0)
    (other : r.ageing.pendingSerial ≠ some serial) : swapDetection i serial s = repend i r.serial serial s := by
  simp only [swapDetection, found, frozen, carried, other, if_true, if_false]

end

/-! The checks of Accept Replacement (R98, R99). -/

section
variable {i : Nat} (act : StrRec → State → State) {r : StrRec} {s : State}

theorem acceptChecked_of_out (s : State) (out : 32 ≤ i) : acceptChecked i act s = (s, replyRefused 20 .badValue) :=
  refuseIf_true _ _ _ (decide_eq_true out)

theorem acceptChecked_of_absent (inside : i < 32) (absent : str? s i = none) :
    acceptChecked i act s = (s, replyRefused 20 .notFound) := by
  refine (refuseIf_false _ _ _ (decide_eq_false (Nat.not_le.mpr inside))).trans ?_
  simp only [absent]

theorem acceptChecked_of_found (found : str? s i = some r) : acceptChecked i act s =
    refuseIf (!r.ageing.frozen) (replyRefused 20 .state)
      (fun u => (clear codeStringSwapUnscoped (.string i) (act r u), replyOk 20)) s := by
  refine (refuseIf_false _ _ _ (decide_eq_false (Nat.not_le.mpr (str?_lt found)))).trans ?_
  simp only [found]

theorem acceptChecked_of_not_frozen (found : str? s i = some r) (notFrozen : r.ageing.frozen = false) :
    acceptChecked i act s = (s, replyRefused 20 .state) :=
  (acceptChecked_of_found act found).trans (refuseIf_true _ _ _ (by rw [notFrozen]; rfl))

theorem acceptChecked_of_frozen (found : str? s i = some r) (frozen : r.ageing.frozen = true) :
    acceptChecked i act s = (clear codeStringSwapUnscoped (.string i) (act r s), replyOk 20) :=
  (acceptChecked_of_found act found).trans (refuseIf_false _ _ _ (by rw [frozen]; rfl))

end

/-! The two commands of Accept Replacement, whose choice parts their frames (log entry 25). -/

section
variable {i choice : Nat} {f : Frame} {s t : State} {m : ManageReply} (takes : Takes 20 (plainForm 20) f s)
  (sup : s.resp.mode = .supervising)
include takes sup

theorem exec_acceptReplacementNew_of_checked (checked : acceptChecked i (acceptNew i) (dropHead .s s) = (t, m)) :
    exec (.acceptReplacementNew i 1) s = .next (answered f m t) :=
  next_request_of_effect takes ((refuseIf_mode_of_supervising (s := dropHead .s s) sup _ _).trans
    ((refuseIf_false _ _ _ rfl).trans checked))

theorem exec_acceptReplacementSame_of_checked (checked : acceptChecked i (acceptSame i) (dropHead .s s) = (t, m)) :
    exec (.acceptReplacementSame i) s = .next (answered f m t) :=
  next_request_of_effect takes ((refuseIf_mode_of_supervising (s := dropHead .s s) sup _ _).trans checked)

theorem exec_acceptReplacementNew_of_bad_choice (notNew : choice ≠ 1) (notSame : choice ≠ 2) :
    exec (.acceptReplacementNew i choice) s =
      .next (answered f (replyRefused 20 .badValue) (dropHead .s s)) := by
  refine (congrArg Host.Outcome.next (if_neg notSame)).trans (next_request_of_effect takes ?_)
  exact (refuseIf_mode_of_supervising (s := dropHead .s s) sup _ _).trans
    (refuseIf_true _ _ _ (bne_iff_ne.mpr notNew))

end

/-- Settles O29: swap detection and the checks of Accept Replacement by their cases, and one account of a replacement for the
two that make one. -/
theorem swapsFreezeUntilAccepted : Obligations.SwapsFreezeUntilAccepted := by
  unfold Obligations.SwapsFreezeUntilAccepted
  intro fresh replaced
  have replaces : ∀ {i r s} (serial : Word32), str? s i = some r → replaced i r serial s (replaceString i serial s) :=
    fun serial found => ⟨str?_replaceString found serial, fun _ other => str?_replaceString_of_ne serial other,
      (replaceString_moves ..).only, congrArg State.alarm (replaceString_of_found found serial)⟩
  refine ⟨fun i serial r s found => ?_, fun i r pending f s takes sup inside found frozen isPending => ?_,
    fun i choice f s takes sup => ?_⟩
  · intro inVisit swap told
    refine ⟨fun notFrozen => ⟨?_, swapDetection_of_first found notFrozen, ?_, ?_⟩, fun frozen => ⟨?_, ?_⟩⟩
    · rintro (rfl | ⟨known, same⟩)
      · exact swapDetection_of_zero i s
      · exact swapDetection_of_recorded found notFrozen known same
    · rintro ⟨carried, known, other⟩ outside
      rw [swapDetection_of_swap found notFrozen carried known other,
        if_neg (mt (strInActiveVisit_iff s i).mp outside)]
      exact swapActs_modAge_of_found found _ serial
    · rintro ⟨carried, known, other⟩ within
      rw [swapDetection_of_swap found notFrozen carried known other, if_pos ((strInActiveVisit_iff s i).mpr within)]
      exact replaces serial found
    · rintro (rfl | pending)
      · exact swapDetection_of_zero i s
      · exact swapDetection_of_pending found frozen pending
    · intro carried other
      exact (swapDetection_of_not_pending found frozen carried other).trans (swapActs_modAge_of_found found _ serial)
  · intro u
    have serial : r.ageing.pendingSerial.getD r.serial = pending := by rw [isPending]; rfl
    have checked := fun act => acceptChecked_of_frozen (s := u) act found frozen
    have same := exec_acceptReplacementSame_of_checked takes sup (checked (acceptSame i))
    have new := exec_acceptReplacementNew_of_checked takes sup (checked (acceptNew i))
    rw [acceptSame, serial] at same
    rw [acceptNew, serial] at new
    exact ⟨same, _, new, replaces (s := u) pending found⟩
  · intro refused
    have both : ∀ {c}, (∀ act, acceptChecked i act (dropHead .s s) = (dropHead .s s, replyRefused 20 c)) →
        refused c (.acceptReplacementNew i 1) ∧ refused c (.acceptReplacementSame i) := fun checked =>
      ⟨exec_acceptReplacementNew_of_checked takes sup (checked _),
        exec_acceptReplacementSame_of_checked takes sup (checked _)⟩
    exact ⟨exec_acceptReplacementNew_of_bad_choice takes sup,
      fun out => both fun act => acceptChecked_of_out act _ out,
      fun inside absent => both fun act => acceptChecked_of_absent act inside absent,
      fun r found notFrozen => both fun act => acceptChecked_of_not_frozen act found notFrozen⟩

end Sys2Proof.Machine
end

section
/-! PROOF. String Restore (R102, R103). -/

namespace Sys2Proof.Machine

/-! A recomputation reads and writes nothing of Port S. -/

theorem gradeActs_withPortS (i : Nat) (old : Grade) (a : Ageing) (s : State) (x : PortState) :
    gradeActs i old a (s.withPortS x) = (gradeActs i old a s).withPortS x := by
  unfold gradeActs; split
  · rfl
  · cases gradeAlarm old <;> cases gradeAlarm a.grade <;> rfl

theorem judgeReserve_withPortS (c : Nat) (s : State) (x : PortState) :
    judgeReserve c (s.withPortS x) = (judgeReserve c s).withPortS x := by
  unfold judgeReserve
  rw [cabReserve_congr (s := s) rfl rfl, raiseOrClear_decide, raiseOrClear_decide, apply_ite (State.withPortS · x)]
  rfl

theorem judgeOwnerReserve_withPortS (i : Nat) (s : State) (x : PortState) :
    judgeOwnerReserve i (s.withPortS x) = (judgeOwnerReserve i s).withPortS x := by
  rw [judgeOwnerReserve, judgeOwnerReserve, strNode?_congr (s := s) (t := s.withPortS x) rfl]
  cases strNode? s i with
  | none => rfl
  | some n => exact judgeReserve_withPortS n.owner s x

theorem recompute_withPortS (p : AgeingParams) (i : Nat) (s : State) (x : PortState) :
    recompute p i (s.withPortS x) = (recompute p i s).withPortS x := by
  cases found : str? s i with
  | none =>
    have absent : str? (s.withPortS x) i = none := found
    simp only [recompute, found, absent]
  | some r =>
    rw [recompute_of_found found, recompute_of_found (s := s.withPortS x) found, gradeActs_withPortS,
      ← judgeOwnerReserve_withPortS]
    rfl

/-! The checks (R102). -/

section
variable {i : Nat} {h : RestoreReq} {st : BaselineState} {r : StrRec} {n : StrNode} {s : State}
  (sup : s.resp.mode = .supervising)
include sup

theorem restoreEffect_of_no_state (uncoded : BaselineState.ofCode h.baselineState = none) :
    restoreEffect i h s = (s, replyRefused 19 .badValue) := by
  refine (refuseIf_mode_of_supervising sup _ _).trans ?_
  simp only [uncoded]

theorem restoreEffect_of_out (out : 32 ≤ i) : restoreEffect i h s = (s, replyRefused 19 .badValue) := by
  refine (refuseIf_mode_of_supervising sup _ _).trans ?_
  cases BaselineState.ofCode h.baselineState with
  | none => rfl
  | some st => exact refuseIf_true _ _ _ (decide_eq_true out)

theorem restoreEffect_of_absent (coded : BaselineState.ofCode h.baselineState ≠ none) (inside : i < 32)
    (absent : str? s i = none) : restoreEffect i h s = (s, replyRefused 19 .notFound) := by
  obtain ⟨st, coded⟩ := Option.ne_none_iff_exists'.mp coded
  refine (refuseIf_mode_of_supervising sup _ _).trans ?_
  simp only [coded]
  refine (refuseIf_false _ _ _ (decide_eq_false (Nat.not_le.mpr inside))).trans ?_
  simp only [absent]

variable (coded : BaselineState.ofCode h.baselineState = some st) (found : str? s i = some r)
  (node : strNode? s i = some n)
include coded found node

theorem restoreEffect_of_found : restoreEffect i h s =
    refuseIf (h.baseline.length != n.blocks) (replyRefused 19 .badValue)
      (refuseIf (r.ageing.frozen || !r.ageing.unrestored) (replyRefused 19 .state) (fun u =>
        (recompute u.params.active i (modAge i (restoreAgeing (clampHistory h).1 st) u),
          replyClamped 19 (clampHistory h).2))) s := by
  refine (refuseIf_mode_of_supervising sup _ _).trans ?_
  simp only [coded]
  refine (refuseIf_false _ _ _ (decide_eq_false (Nat.not_le.mpr (str?_lt found)))).trans ?_
  simp only [found, node]

theorem restoreEffect_of_bad_length (other : h.baseline.length ≠ n.blocks) :
    restoreEffect i h s = (s, replyRefused 19 .badValue) :=
  (restoreEffect_of_found sup coded found node).trans (refuseIf_true _ _ _ (bne_iff_ne.mpr other))

variable (blocks : h.baseline.length = n.blocks)
include blocks

theorem restoreEffect_of_bad_state (bad : r.ageing.frozen = true ∨ r.ageing.unrestored = false) :
    restoreEffect i h s = (s, replyRefused 19 .state) := by
  refine (restoreEffect_of_found sup coded found node).trans ((refuseIf_false _ _ _ (bne_eq_false_iff_eq.mpr blocks)).trans
    (refuseIf_true _ _ _ ?_))
  rw [Bool.or_eq_true, Bool.not_eq_true']
  exact bad

theorem restoreEffect_of_good (notFrozen : r.ageing.frozen = false) (unrestored : r.ageing.unrestored = true) :
    restoreEffect i h s = (recompute s.params.active i
      (setStr s i { r with ageing := restoreAgeing (clampHistory h).1 st r.ageing }),
        replyClamped 19 (clampHistory h).2) := by
  refine (restoreEffect_of_found sup coded found node).trans ((refuseIf_false _ _ _ (bne_eq_false_iff_eq.mpr blocks)).trans
    ((refuseIf_false _ _ _ ?_).trans ?_))
  · rw [notFrozen, unrestored]; rfl
  · rw [modAge_of_found found]

end

/-! The carried history (R102) and the record that it leaves (R103). -/

theorem clampHistory_cut_iff (h : RestoreReq) : (clampHistory h).2 = true ↔
    2 ^ 40 - 1 < h.wCal ∨ 255 < h.rCal ∨ 2 ^ 40 - 1 < h.qThr ∨ 15 < h.learnCount := by
  rw [clampHistory, Bool.or_eq_true, Bool.or_eq_true, Bool.or_eq_true, or_assoc, or_assoc, decide_eq_true_iff,
    decide_eq_true_iff, decide_eq_true_iff, decide_eq_true_iff]
  rfl

theorem TimeBase.afterRestore_eq (b : TimeBase) : b.afterRestore = if b = .fresh then .broken else b := by
  cases b <;> rfl

/-- Settles O32, check by check; the recomputation that ends a restore reads nothing of the queue that the request left. -/
theorem stringRestoreAddsTheHistory : Obligations.StringRestoreAddsTheHistory := by
  intro i h f s takes sup u got refused
  have answer : ∀ {t m}, restoreEffect i h u = (t, m) → got = .next (answered f m t) := next_request_of_effect takes
  refine ⟨?_, fun inside coded absent => answer (restoreEffect_of_absent (s := u) sup coded inside absent),
    fun r n st found node coded => ⟨fun other => answer (restoreEffect_of_bad_length (s := u) sup coded found node other),
      fun blocks => ?_⟩⟩
  · rintro (out | uncoded)
    · exact answer (restoreEffect_of_out (s := u) sup out)
    · exact answer (restoreEffect_of_no_state (s := u) sup uncoded)
  intro top rem a cut
  refine ⟨fun bad => answer (restoreEffect_of_bad_state (s := u) sup coded found node blocks bad),
    fun notFrozen unrestored => ?_⟩
  have effect := restoreEffect_of_good (s := u) sup coded found node blocks notFrozen unrestored
  have record : restoreAgeing (clampHistory h).1 st r.ageing = a := by rw [restoreAgeing, TimeBase.afterRestore_eq]; rfl
  have reply : replyClamped 19 (clampHistory h).2 = ⟨19, if cut then .okClamped else .ok, none, none, .none⟩ := by
    rw [replyClamped, if_congr (clampHistory_cut_iff h) rfl rfl]
  rw [record, reply] at effect
  have stored := str?_setStr_of_found (s := u) found { r with ageing := a }
  have life := str?_recompute (p := u.params.active) ((stored i).trans (if_pos rfl))
  refine ⟨_, answer effect, (life i).trans (if_pos rfl), fun j other => ?_, ?_,
    ((setStr_moves ..).only.mono (by decide)).trans (recompute_moves ..).only⟩
  · rw [life, if_neg other.symm, stored, if_neg other.symm]; rfl
  · exact congrArg (·.alarm) (recompute_withPortS s.params.active i (setStr s i { r with ageing := a }) u.portS)

end Sys2Proof.Machine
end

section
/-! PROOF. The Order Gate (R106 to R116): a site order taken from the Port S inbound queue, the steps of its judgement, and the
interlock checks in their order. -/

namespace Sys2Proof.Machine

/-! The Outstanding Order List (R116). -/

theorem order?_key {s : State} {k : OrderKey} {e : OrderEntry} (found : order? s k = some e) : e.key = k := by
  simpa using List.find?_some found

/-- The entries after a change of the one with a key: it alone is another. -/
theorem order?_modOrder {f : OrderEntry → OrderEntry} (keeps : ∀ e, (f e).key = e.key) (k k' : OrderKey) (s : State) :
    order? (modOrder k f s) k' = if k' = k then (order? s k).map f else order? s k' := by
  have keys : ((fun e : OrderEntry => e.key == k') ∘ fun e => if e.key == k then f e else e) = (·.key == k') := by
    funext e
    simp only [Function.comp_apply, apply_ite OrderEntry.key, keeps, ite_self]
  have mapped : order? (modOrder k f s) k' = (order? s k').map (fun e => if e.key == k then f e else e) := by
    simp only [order?, modOrder, setOrders, State.withTracker_tracker, List.find?_map, keys]
  have changed : ∀ e ∈ order? s k', (if e.key == k then f e else e) = if k' = k then f e else e := fun e found => by
    rw [order?_key found, if_congr beq_iff_eq rfl rfl]
  rw [mapped, Option.map_congr changed]
  split
  next same => rw [same]
  next => exact Option.map_id'

theorem order?_modOrder_of_found {f : OrderEntry → OrderEntry} (keeps : ∀ e, (f e).key = e.key) {k : OrderKey} {s : State}
    {e : OrderEntry} (found : order? s k = some e) : order? (modOrder k f s) k = some (f e) ∧
      ∀ k', k' ≠ k → order? (modOrder k f s) k' = order? s k' :=
  ⟨by rw [order?_modOrder keeps, if_pos rfl, found, Option.map_some],
    fun k' other => by rw [order?_modOrder keeps, if_neg other]⟩

/-- The group whose parameters an order to a configured cabinet takes (R117, R123). -/
theorem groupOfAddr_of_cabinet {s : State} {addr c : Nat} {r : CabRec} (addressed : cabAt? s addr = some c)
    (record : cab? s c = some r) : groupOfAddr s addr = r.group := by
  simp [groupOfAddr, groupOf?, addressed, record]

/-! An order taken (R106), answered (R108) or forwarded (R107). -/

section
variable {f : Frame} {s : State}

/-- An order that the Gate may take is judged on the state without its place in the queue. -/
theorem exec_siteOrderJudgement_of_head (h : OrderAtHead f s) :
    exec .siteOrderJudgement s = .next (judgeOrder f (dropHead .s s)) := by
  obtain ⟨heads, sup, kind, room, replies⟩ := h
  have ready : gateReady s f = true := by
    simp [gateReady, State.supervising, sup, kind, forwardRoom, State.port, room, replyRoom, replies]
  exact congrArg Host.Outcome.next ((whenRunning_of_opened heads.1 _).trans (takeHead_of_head _ heads ready))

theorem dropHead_s_eq (s : State) : dropHead .s s = s.withPortS { s.portS with inq := s.portS.inq.tail } := by
  rw [← List.drop_one]; rfl

theorem gateAnswer_eq_gateAnswered (a : GateAnswer) (c : GateCause) :
    gateAnswer f a c (dropHead .s s) = gateAnswered f a.toCode c.toCode s := by
  rw [dropHead_s_eq, gateAnswered, List.headD_eq_head?_getD]; rfl

theorem gateForward_eq_gateForwarded (k : OrderKind) (v : Nat) :
    gateForward f k v (dropHead .s s) = gateForwarded (forwardedOrder f k v) s := by
  rw [dropHead_s_eq]; rfl

/-- An order passes on as it came, but for a SET_SHARE above 1000, whose value is cut (R107). -/
theorem forwardedOrder_eq (kind : f.kind = .order) (k : OrderKind) (v : Nat) : forwardedOrder f k v =
    if k = .setShare ∧ 1000 < v then wireFrame f.dest f.src .order f.seq [9, 3, 232] else f := by
  rw [forwardedOrder, kind]
  exact if_ctx_congr Iff.rfl (fun share => by rw [share.1]; rfl) (fun _ => rfl)

/-- A judgement that answers leaves the one REPLY behind the replies that wait (R108). -/
theorem exec_siteOrderJudgement_of_answer (h : OrderAtHead f s) {a : GateAnswer} {cause : GateCause}
    (answers : judgeOrder f (dropHead .s s) = gateAnswer f a cause (dropHead .s s)) :
    exec .siteOrderJudgement s = .next (gateAnswered f a.toCode cause.toCode s) := by
  rw [exec_siteOrderJudgement_of_head h, answers, gateAnswer_eq_gateAnswered]

/-- A judgement that forwards untracked moves the order alone (R107). -/
theorem exec_siteOrderJudgement_of_forward (h : OrderAtHead f s) {k : OrderKind} {v : Nat}
    (forwards : judgeOrder f (dropHead .s s) = gateForward f k v (dropHead .s s)) :
    exec .siteOrderJudgement s = .next (gateForwarded (forwardedOrder f k v) s) := by
  rw [exec_siteOrderJudgement_of_head h, forwards, gateForward_eq_gateForwarded]

/-! The steps of the judgement (R107, R109, R111, R113). -/

variable {k : OrderKind} {v c : Nat} {r : CabRec}

theorem judgeOrder_of_bad_form (bad : parseOrder f.payload = none) : judgeOrder f s = gateAnswer f .refused .form s := by
  simp only [judgeOrder, bad]

theorem judgeOrder_of_broadcast (form : parseOrder f.payload = some (k, v)) (broadcast : f.dest.toNat = 255) :
    judgeOrder f s = judgeBroadcast f k v s := by
  simp only [judgeOrder, form, if_pos (show f.dest.toNat = Config.broadcastAddr from broadcast)]

theorem judgeOrder_of_absent (form : parseOrder f.payload = some (k, v)) (single : f.dest.toNat ≠ 255)
    (absent : cabAt? s f.dest.toNat = none) : judgeOrder f s = gateAnswer f .refused .notConfigured s := by
  simp only [judgeOrder, form, if_neg (show f.dest.toNat ≠ Config.broadcastAddr from single), absent]

theorem judgeOrder_of_cabinet (form : parseOrder f.payload = some (k, v)) (single : f.dest.toNat ≠ 255)
    (addressed : cabAt? s f.dest.toNat = some c) (record : cab? s c = some r) : judgeOrder f s = judgeTargeted f k v c r s := by
  simp only [judgeOrder, form, if_neg (show f.dest.toNat ≠ Config.broadcastAddr from single), addressed, record]

theorem judgeBroadcast_of_not_forward (cls : s.gate[k.index] ≠ .forward) :
    judgeBroadcast f k v s = gateAnswer f .refused .broadcast s := by
  unfold judgeBroadcast; split
  next forward => exact absurd forward cls
  · rfl
  · rfl

theorem judgeBroadcast_of_forward (cls : s.gate[k.index] = .forward) : judgeBroadcast f k v s =
    if k.returnsToService && anyVisit s then gateAnswer f .refused .visit s else gateForward f k v s := by
  simp only [judgeBroadcast, gateClass, cls]

theorem judgeTargeted_of_repeat {e : OrderEntry} (standing : order? s ⟨.site, f.dest.toNat, f.seq⟩ = some e) :
    judgeTargeted f k v c r s = judgeRepeat f k v c e s := by
  simp only [judgeTargeted, standing]

theorem judgeTargeted_of_new (new : order? s ⟨.site, f.dest.toNat, f.seq⟩ = none) : judgeTargeted f k v c r s =
    if s.gate[k.index] = .supervisorOnly then gateAnswer f .refused .usePlan s
    else if visitGuardFails s k c then gateAnswer f .refused .visit s
    else judgeByClass f k v c r s := by
  simp only [judgeTargeted, new]; rfl

theorem judgeByClass_of_forward (cls : s.gate[k.index] = .forward) : judgeByClass f k v c r s = gateForward f k v s := by
  simp only [judgeByClass, gateClass, cls]

theorem judgeByClass_of_held (cls : s.gate[k.index] = .interlocked) {cause : GateCause}
    (held : interlockCause s k v c r = some cause) : judgeByClass f k v c r s = gateAnswer f .held cause s := by
  simp only [judgeByClass, gateClass, cls, held]

theorem judgeByClass_of_tracked (cls : s.gate[k.index] = .interlocked) (passes : interlockCause s k v c r = none) :
    judgeByClass f k v c r s = gateForward f k v (setOrders (s.tracker.orders ++ [siteEntry s f k v]) s) := by
  simp only [judgeByClass, gateClass, cls, passes]

/-- The visit guard of an order to a configured cabinet (R111). -/
theorem visitGuardFails_iff (record : cab? s c = some r) : visitGuardFails s k c = true ↔ k.returnsToService = true ∧
    (cabCovered s c = true ∨ (k = .maintOpen ∧ ∃ m ∈ members s r.group, cabCovered s m = true)) := by
  simp [visitGuardFails, groupOf?, record]

end

/-! The interlock checks (R113 to R115), each as its rule reads. -/

section
variable (s : State) (k : OrderKind) (v c : Nat) (r : CabRec)

/-- A member of the group is SILENT. -/
def MemberSilent : Prop := ∃ m ∈ memberRecs s r.group, m.2.liveness = .silent

/-- A SET_SHARE lowers the share to one at which the group no longer carries its load (R114). -/
def LowersTooFar : Prop := k = .setShare ∧ min v 1000 < r.share ∧ ¬carries s r.group c (min v 1000)

/-- The target does not report the mode from which the order may start. -/
def WrongMode : Prop :=
  (k = .outputClose ∧ r.reported ≠ some .standby) ∨ (k = .batteryTestStart ∧ r.reported ≠ some .online)

/-- Another member runs on its battery, or some member is under test (R115). -/
def MemberTested : Prop :=
  ∃ m ∈ memberRecs s r.group, (m.1 ≠ c ∧ m.2.reported = some .onBattery) ∨ m.2.testFlag = true

theorem firstSilent_isSome_iff : (firstSilent s r.group).isSome = true ↔ MemberSilent s r := by
  simp [firstSilent, MemberSilent, List.find?_isSome]

theorem lowersTooFar_iff : (k = .setShare ∧ min v 1000 < r.share ∧ (!capacityPasses s r.group c (min v 1000)) = true) ↔
    LowersTooFar s k v c r := by
  rw [LowersTooFar, ← capacityPasses_iff, Bool.not_eq_true', Bool.not_eq_true]

theorem memberTested_iff :
    (memberRecs s r.group).any (fun m => (m.1 != c && m.2.reports .onBattery) || m.2.testFlag) = true ↔
      MemberTested s c r := by
  simp [MemberTested, CabRec.reports]

open Classical in
/-- The first check that fails gives the cause (R113). -/
theorem interlockCause_eq : interlockCause s k v c r =
    if (plan? s r.group).isSome = true then some .planBusy
    else if MemberSilent s r then some .silent
    else if LowersTooFar s k v c r then some .capacity
    else if WrongMode k r then some .state
    else if k = .batteryTestStart ∧ MemberTested s c r then some .busy
    else if k = .batteryTestStart ∧ r.bypass ≠ .good then some .bypass
    else if k = .batteryTestStart ∧ cabReserve s c < (groupParams s r.group).reserveThreshold then some .reserve
    else if 12 ≤ siteOrders s then some .trackingFull
    else none := by
  refine if_congr Iff.rfl rfl (if_congr (firstSilent_isSome_iff s r) rfl (if_congr (lowersTooFar_iff s k v c r) rfl ?_))
  refine Eq.trans (if_congr ?_ rfl (if_congr ?_ rfl (if_congr (and_congr_right' (memberTested_iff s c r)) rfl
    (if_congr ?_ rfl rfl)))) ((ite_or ..).symm.trans (if_congr Iff.rfl rfl rfl))
  all_goals simp [CabRec.reports]

end

section
variable {s : State} {k : OrderKind} {v c : Nat} {r : CabRec}

theorem not_lowersTooFar_of_test (test : k = .batteryTestStart) : ¬LowersTooFar s k v c r :=
  fun lowers => absurd (test.symm.trans lowers.1) (by decide)

theorem interlockCause_of_plan (plan : (plan? s r.group).isSome = true) : interlockCause s k v c r = some .planBusy := by
  rw [interlockCause_eq, if_pos plan]

variable (noPlan : ¬(plan? s r.group).isSome = true)
include noPlan

theorem interlockCause_of_silent (silent : MemberSilent s r) : interlockCause s k v c r = some .silent := by
  rw [interlockCause_eq, if_neg noPlan, if_pos silent]

variable (noSilent : ¬MemberSilent s r)
include noSilent

theorem interlockCause_of_lowers (lowers : LowersTooFar s k v c r) : interlockCause s k v c r = some .capacity := by
  rw [interlockCause_eq, if_neg noPlan, if_neg noSilent, if_pos lowers]

theorem interlockCause_of_wrongMode (keeps : ¬LowersTooFar s k v c r) (wrong : WrongMode k r) :
    interlockCause s k v c r = some .state := by
  rw [interlockCause_eq, if_neg noPlan, if_neg noSilent, if_neg keeps, if_pos wrong]

/-- The checks of a BATTERY_TEST_START alone, at a target that is ONLINE (R115). -/
theorem interlockCause_of_test (mode : ¬WrongMode k r) (test : k = .batteryTestStart) :
    (MemberTested s c r → interlockCause s k v c r = some .busy) ∧
    (¬MemberTested s c r → r.bypass ≠ .good → interlockCause s k v c r = some .bypass) ∧
    (¬MemberTested s c r → r.bypass = .good → cabReserve s c < (groupParams s r.group).reserveThreshold →
      interlockCause s k v c r = some .reserve) := by
  rw [interlockCause_eq, if_neg noPlan, if_neg noSilent, if_neg (not_lowersTooFar_of_test test), if_neg mode]
  refine ⟨fun tested => if_pos ⟨test, tested⟩, fun calm poor => ?_, fun calm good low => ?_⟩
  · rw [if_neg fun both => calm both.2, if_pos ⟨test, poor⟩]
  · rw [if_neg fun both => calm both.2, if_neg fun both => both.2 good, if_pos ⟨test, low⟩]

theorem interlockCause_of_passes (keeps : ¬LowersTooFar s k v c r) (mode : ¬WrongMode k r)
    (passes : k = .batteryTestStart → ¬MemberTested s c r ∧ r.bypass = .good ∧
      ¬cabReserve s c < (groupParams s r.group).reserveThreshold) :
    interlockCause s k v c r = if 12 ≤ siteOrders s then some .trackingFull else none := by
  rw [interlockCause_eq, if_neg noPlan, if_neg noSilent, if_neg keeps, if_neg mode,
    if_neg fun both => (passes both.1).1 both.2, if_neg fun both => both.2 (passes both.1).2.1,
    if_neg fun both => (passes both.1).2.2 both.2]

end

/-- Settles O33: the branch of the judgement that each answer names, and the first check that fails of the interlocks. -/
theorem siteOrderIsForwardedOrAnswered : Obligations.SiteOrderIsForwardedOrAnswered := by
  refine ⟨fun f s atHead => ?_, fun s k v c r => ?_⟩
  · intro got refused dest
    have answer : ∀ {a : GateAnswer} {cause : GateCause},
        judgeOrder f (dropHead .s s) = gateAnswer f a cause (dropHead .s s) →
        got = .next (gateAnswered f a.toCode cause.toCode s) := exec_siteOrderJudgement_of_answer atHead
    refine ⟨fun bad => answer (judgeOrder_of_bad_form bad), fun k v form => ?_⟩
    intro cls sent
    have carried : forwardedOrder f k v = sent := forwardedOrder_eq atHead.2.2.1 k v
    have forward : judgeOrder f (dropHead .s s) = gateForward f k v (dropHead .s s) → got = .next (gateForwarded sent s) :=
      fun forwards => carried ▸ exec_siteOrderJudgement_of_forward atHead forwards
    refine ⟨fun broadcast => ?_, fun single absent => answer (judgeOrder_of_absent form single absent),
      fun c r single addressed record new => ?_⟩
    · have judged := judgeOrder_of_broadcast (s := dropHead .s s) form broadcast
      have byVisit : cls = .forward → _ := fun opened => judged.trans (judgeBroadcast_of_forward (s := dropHead .s s) opened)
      refine ⟨fun closed => answer (judged.trans (judgeBroadcast_of_not_forward closed)),
        fun opened returns visit => answer ((byVisit opened).trans (if_pos (Bool.and_eq_true_iff.mpr ⟨returns, visit⟩))),
        fun opened clear => forward ((byVisit opened).trans (if_neg ?_))⟩
      rw [Bool.and_eq_true, not_and_or, Bool.not_eq_true, Bool.not_eq_true]
      exact clear
    · intro guarded entry
      have judged := (judgeOrder_of_cabinet (s := dropHead .s s) form single addressed record).trans
        (judgeTargeted_of_new new)
      have guard : visitGuardFails (dropHead .s s) k c = true ↔ guarded := visitGuardFails_iff (s := dropHead .s s) record
      have byClass : cls ≠ .supervisorOnly → ¬guarded →
          judgeOrder f (dropHead .s s) = judgeByClass f k v c r (dropHead .s s) := fun other free =>
        judged.trans ((if_neg other).trans (if_neg (mt guard.mp free)))
      refine ⟨fun plan => answer (judged.trans (if_pos plan)),
        fun other fails => answer (judged.trans ((if_neg other).trans (if_pos (guard.mpr fails)))),
        fun opened free => forward ((byClass (by rw [opened]; decide) free).trans
          (judgeByClass_of_forward (s := dropHead .s s) opened)),
        fun locked free cause held => answer ((byClass (by rw [locked]; decide) free).trans
          (judgeByClass_of_held (s := dropHead .s s) locked held)), fun locked free passes => ?_⟩
      have tracked : siteEntry (dropHead .s s) f k v = entry := by
        rw [siteEntry, replyWindowFor, groupOfAddr_of_cabinet (s := dropHead .s s) addressed record]; rfl
      have judgement := (byClass (by rw [locked]; decide) free).trans
        (judgeByClass_of_tracked (s := dropHead .s s) locked passes)
      have forwarded : gateForward f k v (dropHead .s s) = gateForwarded sent s := by
        rw [gateForward_eq_gateForwarded, carried]
      exact (exec_siteOrderJudgement_of_head atHead).trans (congrArg Host.Outcome.next (judgement.trans (tracked ▸
        congrArg (State.withTracker · { s.tracker with orders := s.tracker.orders ++ [entry] }) forwarded)))
  · exact ⟨interlockCause_of_plan, interlockCause_of_silent, interlockCause_of_lowers, interlockCause_of_wrongMode,
      fun noPlan noSilent mode test => (interlockCause_of_test noPlan noSilent mode test).1,
      fun noPlan noSilent mode test => (interlockCause_of_test noPlan noSilent mode test).2.1,
      fun noPlan noSilent mode test => (interlockCause_of_test noPlan noSilent mode test).2.2,
      interlockCause_of_passes⟩

end Sys2Proof.Machine
end

section
/-! PROOF. A site repeat of a standing entry (R110). -/

namespace Sys2Proof.Machine

/-- A standing entry after a repeat that is forwarded: its sends counted, and while WAITING sent now with a fresh window. -/
def OrderEntry.repeated (s : State) (x : OrderEntry) : OrderEntry :=
  if x.state = .waiting then
    { x with sends := x.sends + 1, sentMs := s.now, window := some (replyWindowFor s x.target) }
  else { x with sends := x.sends + 1 }

theorem OrderEntry.repeated_key (s : State) (x : OrderEntry) : (x.repeated s).key = x.key := by
  unfold repeated; split <;> rfl

section
variable {f : Frame} {s : State} {k : OrderKind} {v c : Nat} {e : OrderEntry}

/-- A repeat is of another order when it has another kind, or as a SET_SHARE another value. -/
theorem otherOrder_iff : (e.kind ≠ k ∨ (k = .setShare ∧ e.value ≠ orderValue k v)) ↔
    (e.kind ≠ k ∨ (k = .setShare ∧ e.value ≠ some (min v 1000))) :=
  or_congr_right (and_congr_right fun share => by rw [orderValue, if_pos share])

theorem judgeRepeat_eq : judgeRepeat f k v c e s =
    if e.kind ≠ k ∨ (k = .setShare ∧ e.value ≠ some (min v 1000)) then gateAnswer f .refused .sequenceInUse s
    else if visitGuardFails s k c then gateAnswer f .refused .visit s
    else if e.sends = 4 then gateAnswer f .held .repeatLimit s
    else gateForward f k v (modOrder e.key (OrderEntry.repeated s) s) :=
  if_congr otherOrder_iff rfl rfl

end

/-- Settles O34: the four ways out of the judgement of a repeat. -/
theorem siteRepeatsAreLimitedToFourSends : Obligations.SiteRepeatsAreLimitedToFourSends := by
  intro f k v c r e s atHead form single addressed record standing got sent other guarded
  have judged : judgeOrder f (dropHead .s s) = _ :=
    (judgeOrder_of_cabinet (s := dropHead .s s) form single addressed record).trans
      ((judgeTargeted_of_repeat (s := dropHead .s s) standing).trans judgeRepeat_eq)
  have guard : visitGuardFails (dropHead .s s) k c = true ↔ guarded := visitGuardFails_iff (s := dropHead .s s) record
  have answer : ∀ {a : GateAnswer} {cause : GateCause},
      judgeOrder f (dropHead .s s) = gateAnswer f a cause (dropHead .s s) →
      got = .next (gateAnswered f a.toCode cause.toCode s) := exec_siteOrderJudgement_of_answer atHead
  have same := fun (isSame : ¬other) => judged.trans (if_neg isSame)
  have unguarded := fun isSame (free : ¬guarded) => (same isSame).trans (if_neg (mt guard.mp free))
  refine ⟨fun differs => answer (judged.trans (if_pos differs)),
    fun isSame fails => answer ((same isSame).trans (if_pos (guard.mpr fails))),
    fun isSame free most => answer ((unguarded isSame free).trans (if_pos most)), fun isSame free fewer => ?_⟩
  have key := order?_key standing
  obtain ⟨counted, others⟩ := order?_modOrder_of_found (OrderEntry.repeated_key (dropHead .s s)) (s := dropHead .s s)
    (key ▸ standing)
  have moves := modOrder_moves e.key _ (OrderEntry.repeated_key (dropHead .s s)) (dropHead .s s)
  refine ⟨gateForward f k v (modOrder e.key (OrderEntry.repeated (dropHead .s s)) (dropHead .s s)), ?_, ?_,
    fun key' differs => others key' (key ▸ differs), ?_, ?_, ?_⟩
  · exact (exec_siteOrderJudgement_of_head atHead).trans
      (congrArg Host.Outcome.next ((unguarded isSame free).trans (if_neg fewer)))
  · have target : e.target = f.dest.toNat := congrArg OrderKey.target key
    have window : replyWindowFor (dropHead .s s) e.target =
        (.reply, ⟨s.clock.ms, (groupParams s r.group).replyWindow⟩) := by
      rw [target, replyWindowFor, groupOfAddr_of_cabinet (s := dropHead .s s) addressed record]; rfl
    rw [← window]
    exact key ▸ counted
  · exact congrArg (·.portS) (dropHead_s_eq s)
  · rw [gateForward, forwardedOrder_eq atHead.2.2.1]; rfl
  · exact ((dropHead_moves .s s).only.mono (by decide)).trans ((moves.only.mono (by decide)).trans
      ((gateForward_moves ..).only.mono (by decide)))

end Sys2Proof.Machine
end

section
/-! PROOF. Replies at the Order Tracker (R118 to R121): a reply taken from the Port F inbound queue, what a DONE writes in the
Cabinet Table (R11, R12), and the replies that are passed up to the site. -/

namespace Sys2Proof.Machine

/-! What a DONE writes in the Cabinet Table (R11, R12, R120). -/

/-- States that are the same in every component are equal. -/
theorem eq_of_same {s t : State} (h : ∀ x, State.same x s t) : t = s := by
  cases s; cases t
  simp only [State.mk.injEq]
  exact ⟨h .pending, h .resetLine, h .bridge, h .fullReset, h .clock, h .resp, h .insp, h .cabs, h .strs, h .params,
    h .alarm, h .gate, h .tracker, h .seq, h .visits, h .portS, h .portF, h .prio, h .replyQ, h .fwdRun, h .hand⟩

theorem Only.eq_withCabs {s t : State} (h : Only [.cabs] s t) : t = s.withCabs t.cabs :=
  eq_of_same fun x => by
    by_cases here : x = .cabs
    · subst here; rfl
    · have same := h.same x (fun listed => here (List.mem_singleton.mp listed))
      cases x with
      | cabs => exact absurd rfl here
      | _ => exact same

section
variable {s t : State}

theorem memberRecs_congr (cabs : t.cabs = s.cabs) (g : Nat) : memberRecs t g = memberRecs s g := by
  simp only [memberRecs, cab?, cabs]

theorem lead?_congr (cabs : t.cabs = s.cabs) (g : Nat) : lead? t g = lead? s g := by
  rw [lead?, memberRecs_congr cabs]; rfl

/-- The mode that OUTPUT_CLOSE leads to follows the report of the lead (R11). -/
theorem expectedAfter_outputClose (g : Nat) : expectedAfter s g .outputClose =
    if (lead? s g).any (fun m => m.2.reports .maintBypass) then some .maintBypass else some .online := rfl

/-- What a walk over the members writes in the Cabinet Table. -/
theorem walkMembers_cabs (g : Nat) (p : CabRec → Bool) (m : Mode) (s : State) : (walkMembers g p m s).cabs =
    (memberRecs s g).foldl (fun cabs x =>
      if p x.2 then cabs.setIfInBounds x.1 (some { x.2 with expected := some m }) else cabs) s.cabs :=
  (List.foldl_hom State.cabs fun u x => by dsimp only; split <;> rfl).symm

/-- The record updates read the Cabinet Table alone. -/
theorem doneUpdate_cabs_congr (cabs : t.cabs = s.cabs) (k : OrderKind) (v : Option Nat) (c : Nat) (r : CabRec) :
    (doneUpdate k v c r t).cabs = (doneUpdate k v c r s).cabs := by
  have expected : expectedAfter t r.group k = expectedAfter s r.group k := by
    cases k with
    | outputClose => rw [expectedAfter_outputClose, expectedAfter_outputClose, lead?_congr cabs]
    | _ => rfl
  unfold doneUpdate; split
  · simp only [walkMembers_cabs, memberRecs_congr cabs, cabs]
  · simp only [walkMembers_cabs, memberRecs_congr cabs, cabs]
  · simp only [setCab, State.withCabs_cabs, cabs]
  · simp only [setCab, State.withCabs_cabs, cabs]
  · simp only [setCab, State.withCabs_cabs, cabs]
  · rw [expected]
    split
    · simp only [setCab, State.withCabs_cabs, cabs]
    · exact cabs

theorem doneEntry_of_cabinet {e : OrderEntry} {c : Nat} {r : CabRec} (addressed : cabAt? t e.target = some c)
    (record : cab? t c = some r) (cabs : t.cabs = s.cabs) :
    doneEntry e t = t.withCabs (doneUpdate e.kind e.value c r s).cabs := by
  simp only [doneEntry, addressed, record]
  rw [← doneUpdate_cabs_congr cabs]
  exact (doneUpdate_moves ..).only.eq_withCabs

/-- A member of the group that passes the test has its expected mode set, and every other record stays (R12). -/
theorem cab?_walkMembers (g : Nat) (p : CabRec → Bool) (m : Mode) {j : Nat} {x : CabRec} (record : cab? s j = some x) :
    cab? (walkMembers g p m s) j = some (if x.group = g ∧ p x = true then { x with expected := some m } else x) := by
  have from_here : ∀ (l : List (Nat × CabRec)) (u : State), (∀ y ∈ l, cab? s y.1 = some y.2) →
      cab? (l.foldl (fun u y => if p y.2 then setCab u y.1 { y.2 with expected := some m } else u) u) j =
        if (j, x) ∈ l ∧ p x = true then some { x with expected := some m } else cab? u j := by
    intro l
    induction l with
    | nil => intro u _; simp
    | cons y l ih =>
      intro u members
      rw [List.foldl_cons, ih _ fun z hz => members z (List.mem_cons_of_mem y hz)]
      by_cases here : y.1 = j
      · have same : y = (j, x) := Prod.ext here
          (Option.some.inj ((members y List.mem_cons_self).symm.trans (here ▸ record)))
        subst same
        cases passes : p x with
        | true => simp [cab?_setCab, cab?_lt record]
        | false => simp
      · have other : (j, x) ≠ y := fun same => here (congrArg Prod.fst same).symm
        have kept : cab? (if p y.2 then setCab u y.1 { y.2 with expected := some m } else u) j = cab? u j := by
          split
          · rw [cab?_setCab, if_neg (fun both => here both.1)]
          · rfl
        rw [kept]
        exact if_congr (and_congr_left' (List.mem_cons.trans (or_iff_right other)).symm) rfl rfl
  have listed : (j, x) ∈ memberRecs s g ↔ x.group = g :=
    ⟨fun h => (mem_memberRecs h).2, fun h => List.mem_filterMap.mpr
      ⟨j, List.mem_range.mpr (cab?_lt record), by rw [record, Option.bind_some, if_pos h]⟩⟩
  rw [walkMembers, from_here _ s fun y hy => (mem_memberRecs hy).1, if_congr (and_congr_left' listed) rfl record]
  exact (apply_ite some ..).symm

theorem lead_bypassed_iff (g : Nat) : (lead? s g).any (fun m => m.2.reports .maintBypass) = true ↔
    ∃ m, lead? s g = some m ∧ m.2.reported = some .maintBypass := by
  simp [Option.any_eq_true, CabRec.reports]

/-- OUTPUT_CLOSE writes the expected mode of its target alone (R11). -/
theorem doneUpdate_outputClose (v : Option Nat) (c : Nat) (r : CabRec) {m : Mode}
    (expected : expectedAfter s r.group .outputClose = some m) :
    doneUpdate .outputClose v c r s = setCab s c { r with expected := some m } := by
  simp only [doneUpdate, expected]

end

/-! A reply taken (R118). -/

section
variable {f : Frame} {s : State}

/-- A reply that the Tracker may take is matched on the state without its place in the queue. -/
theorem exec_replyMatch_of_head (h : ReplyAtHead f s) : exec .replyMatch s = .next (trackReply f (dropHead .f s)) := by
  obtain ⟨heads, sup, kind, room⟩ := h
  have ready : trackerReady s f = true := by
    have mayPass : (f.dest.toNat == Config.supervisorAddr || forwardRoom s .s) = true :=
      (Bool.or_eq_true ..).mpr (room.imp beq_iff_eq.mpr (decide_eq_true ·))
    rw [trackerReady, mayPass, State.supervising, sup, kind]; rfl
  exact congrArg Host.Outcome.next ((whenRunning_of_opened heads.1 _).trans (takeHead_of_head _ heads ready))

theorem trackReply_of_supervisor (dest : f.dest.toNat = 240) :
    trackReply f s = (matchReply .plan f s).getD (countUnmatched s) := if_pos dest

theorem trackReply_of_site (dest : f.dest.toNat = 0) :
    trackReply f s = enqueueForward .s f ((matchReply .site f s).getD s) :=
  (if_neg (by rw [dest]; decide)).trans (if_pos dest)

theorem trackReply_of_other (notSite : f.dest.toNat ≠ 0) (notSupervisor : f.dest.toNat ≠ 240) :
    trackReply f s = enqueueForward .s f s := (if_neg notSupervisor).trans (if_neg notSite)

/-- A reply that left the inbound queue is passed up to the site. -/
theorem enqueueForward_eq_passedUp {t : State} (portF : t.portF = { s.portF with inq := s.portF.inq.tail })
    (portS : t.portS = s.portS) : enqueueForward .s f t = passedUp f s t := by
  rw [passedUp, ← portF, ← portS]; rfl

theorem dropHead_f_portF (s : State) : (dropHead .f s).portF = { s.portF with inq := s.portF.inq.tail } :=
  congrArg (·.portF) (dropHead_f_eq s)

/-! What a reply does to the entry it matches (R119, R121). -/

variable {o : Origin} {k : ReplyKind} {reason : Nat} {e : OrderEntry}

theorem matchReply_eq_none (unmatched : parseReply f.payload = none ∨ order? s ⟨o, f.src.toNat, f.seq⟩ = none) :
    matchReply o f s = none := by
  unfold matchReply
  rcases unmatched with bad | absent
  · rw [bad]
  · split
    · rfl
    · rw [absent]

theorem matchReply_of_running (form : parseReply f.payload = some (k, reason))
    (standing : order? s ⟨o, f.src.toNat, f.seq⟩ = some e) (running : e.state ≠ .lapsed) :
    matchReply o f s = some (replyOnEntry e k reason s) := by
  simp only [matchReply, form, standing, if_neg running]

theorem matchReply_of_lapsed (form : parseReply f.payload = some (k, reason))
    (standing : order? s ⟨o, f.src.toNat, f.seq⟩ = some e) (lapsed : e.state = .lapsed) :
    matchReply o f s = some (replyOnLapsed e k s) := by
  simp only [matchReply, form, standing, if_pos lapsed]

theorem handPlan_of_plan {g : Nat} (act : Nat → State → State) (origin : e.origin = .plan) (slot : e.slot = some g) :
    handPlan e act s = act g s := by
  simp only [handPlan, slot, if_pos origin]

theorem handPlan_of_site (act : Nat → State → State) (origin : e.origin = .site) : handPlan e act s = s := by
  unfold handPlan; split
  · rw [if_neg (by rw [origin]; decide)]
  · rfl

/-- An entry whose order was ACCEPTED, with its completion window (R119). -/
def OrderEntry.accept (s : State) (x : OrderEntry) : OrderEntry :=
  { x with state := .accepted, window := some (completionWindowFor s x.target) }

theorem OrderEntry.accept_key (s : State) (x : OrderEntry) : (x.accept s).key = x.key := rfl

theorem replyOnEntry_accepted_of_waiting (reason : Nat) (waiting : e.state = .waiting) :
    replyOnEntry e .accepted reason s = modOrder e.key (OrderEntry.accept s) s := if_pos waiting

theorem replyOnEntry_accepted_of_accepted (reason : Nat) (accepted : e.state = .accepted) :
    replyOnEntry e .accepted reason s = s :=
  if_neg (by rw [accepted]; decide)

end

/-- Settles O35: a reply to the site is matched to the site-origin entry of its source and sequence and passed up, and each
kind of order writes its own field. -/
theorem repliesToTheSiteActOnTheirEntry : Obligations.RepliesToTheSiteActOnTheirEntry := by
  refine ⟨fun f s atHead dest => ?_, fun f s atHead notSite notSupervisor => ?_, fun v c r s record => ?_⟩
  · intro key got rest removed
    have passed : ∀ {u : State}, u.portF = (dropHead .f s).portF → u.portS = s.portS →
        (matchReply .site f (dropHead .f s)).getD (dropHead .f s) = u → got = .next (passedUp f s u) :=
      fun portF portS matched => by
        rw [← enqueueForward_eq_passedUp (portF.trans (dropHead_f_portF s)) portS, ← matched, ← trackReply_of_site dest]
        exact exec_replyMatch_of_head atHead
    refine ⟨fun unmatched => passed (u := dropHead .f s) rfl rfl ?_, fun k reason e form standing running => ?_⟩
    · rw [matchReply_eq_none (s := dropHead .f s) unmatched]; rfl
    have matched := congrArg (·.getD (dropHead .f s)) (matchReply_of_running (s := dropHead .f s) form standing running)
    have ofKey := order?_key standing
    have site : e.origin = .site := congrArg OrderKey.origin ofKey
    refine ⟨fun rejected => ?_, fun done c r addressed record => ?_, fun accepted already => ?_,
      fun accepted waiting => ?_⟩
    · subst rejected
      exact passed (u := removeOrder key (dropHead .f s)) rfl rfl
        (matched.trans ((handPlan_of_site _ site).trans (congrArg (removeOrder · _) ofKey)))
    · subst done
      have written := doneEntry_of_cabinet (t := dropHead .f s) (s := s) addressed record rfl
      refine passed (u := removeOrder key ((dropHead .f s).withCabs _)) rfl rfl
        (matched.trans ((handPlan_of_site _ site).trans ?_))
      rw [ofKey, written]
    · subst accepted
      exact passed (u := dropHead .f s) rfl rfl (matched.trans (replyOnEntry_accepted_of_accepted reason already))
    · subst accepted
      obtain ⟨own, others⟩ := order?_modOrder_of_found (OrderEntry.accept_key (dropHead .f s)) (s := dropHead .f s)
        standing
      refine ⟨_, passed (u := modOrder key (OrderEntry.accept (dropHead .f s)) (dropHead .f s)) rfl rfl ?_, own, others,
        rfl, rfl, ?_⟩
      · exact matched.trans ((replyOnEntry_accepted_of_waiting reason waiting).trans (congrArg (modOrder · _ _) ofKey))
      · rw [← enqueueForward_eq_passedUp (t := modOrder key _ (dropHead .f s)) (dropHead_f_portF s) rfl]
        exact ((dropHead_moves .f s).only.mono (by decide)).trans
          (((modOrder_moves key _ (OrderEntry.accept_key _) _).only.mono (by decide)).trans
            ((enqueueForward_moves .s f _).only.mono (by decide)))
  · rw [exec_replyMatch_of_head atHead, trackReply_of_other notSite notSupervisor,
      enqueueForward_eq_passedUp (dropHead_f_portF s) rfl]
    rfl
  · intro leadBypassed sets
    have walked := fun (p : CabRec → Bool) m j x (stands : cab? s j = some x) => cab?_walkMembers r.group p m stands
    refine ⟨rfl, rfl, fun bypassed => ?_, fun inService => ?_, rfl, rfl, rfl, rfl, rfl, rfl, rfl, rfl,
      fun j x stands => ?_, fun j x stands => ?_, (doneUpdate_moves ..).only, (doneUpdate_moves ..).only⟩
    · exact doneUpdate_outputClose v c r (if_pos ((lead_bypassed_iff r.group).mpr bypassed))
    · exact doneUpdate_outputClose v c r (if_neg (mt (lead_bypassed_iff r.group).mp inService))
    · exact (walked _ _ j x stands).trans (congrArg some (if_congr (and_congr_right' (by
        simp [CabRec.reports, or_assoc])) rfl rfl))
    · exact (walked _ _ j x stands).trans (congrArg some (if_congr (and_congr_right' (by
        simp [CabRec.reports])) rfl rfl))

end Sys2Proof.Machine
end

section
/-! PROOF. Replies to the supervisor (R118 to R121, R134, R135, R137): what the plan of a plan-origin entry does with the
answer to its order. -/

namespace Sys2Proof.Machine

/-! What a plan is handed (R134, R135, R137, R140). -/

section
variable {g : Nat} {p : Plan} {s : State}

theorem Plan.inRamp_iff (p : Plan) : p.inRamp = true ↔ p.stage = some .rampDown ∨ p.stage = some .rampUp := by
  cases stage : p.stage with
  | none => simp [inRamp, stage]
  | some st => cases st <;> simp [inRamp, stage, Stage.isRamp]

theorem planRejected_of_issued (found : plan? s g = some p) (issued : p.state = .issued) (reason : Nat) :
    planRejected g reason s = haltPlan g .rejected (some reason) s :=
  if_pos (by simp [found, issued])

theorem planLateDone_of_halted (found : plan? s g = some p) (halted : p.state = .halted) :
    planLateDone g s = setPlan g (some { p with lateSinceHalt := true, lateFlag := true }) s := by
  simp only [planLateDone, modPlan, found, if_pos halted]

theorem planDone_of_step (found : plan? s g = some p) (issued : p.state = .issued)
    (noRamp : ¬(p.stage = some .rampDown ∨ p.stage = some .rampUp)) :
    planDone g s = setPlan g (some (p.settleFrom s.now)) s := by
  simp only [planDone, found, if_pos issued, if_neg (mt p.inRamp_iff.mp noRamp)]

theorem planDone_of_ramp (found : plan? s g = some p) (issued : p.state = .issued)
    (inRamp : p.stage = some .rampDown ∨ p.stage = some .rampUp) : planDone g s = rampDone g p s := by
  simp only [planDone, found, if_pos issued, if_pos (p.inRamp_iff.mpr inRamp)]

/-- The DONE of a ramp order starts the match window afresh and has the ramp step judged (R137). -/
theorem rampDone_of_ramp {ra : Ramp} (ramp : p.ramp = some ra) : rampDone g p s = judgeRamp g (setPlan g (some { p with
    state := .ramping
    ramp := some { ra with
      limit := (p.order.bind (·.value)).getD 0
      window := some (.begin s.now (groupParams s g).matchWindow) } }) s) := by
  simp only [rampDone, ramp, Option.map_some]

end

theorem replyOnLapsed_of_not_done {e : OrderEntry} {k : ReplyKind} {s : State} (notDone : k ≠ .done) :
    replyOnLapsed e k s = s := by
  unfold replyOnLapsed; split
  · exact absurd rfl notDone
  · rfl

/-- Settles O36: a reply to the supervisor is matched to the plan-origin entry of its source and sequence, and the
entry's plan takes the result. -/
theorem repliesToThePlanMoveIt : Obligations.RepliesToThePlanMoveIt := by
  intro f s atHead dest key got taken rest removed
  have toTracker : got = .next ((matchReply .plan f taken).getD (countUnmatched taken)) := by
    rw [← trackReply_of_supervisor dest, ← show dropHead .f s = taken from dropHead_f_eq s]
    exact exec_replyMatch_of_head atHead
  have moves : ∀ {u}, matchReply .plan f taken = some u → got = .next u := fun matched => by
    rw [toTracker, matched]; rfl
  refine ⟨fun unmatched => ?_, fun k reason e form standing => ?_⟩
  · rw [toTracker, matchReply_eq_none (s := taken) unmatched]; rfl
  have running := matchReply_of_running (s := taken) form standing
  have lapsed := matchReply_of_lapsed (s := taken) form standing
  have ofKey := order?_key standing
  have ofPlan : e.origin = .plan := congrArg OrderKey.origin ofKey
  refine ⟨fun late notDone => moves ((lapsed late).trans (congrArg some (replyOnLapsed_of_not_done notDone))),
    fun accepted already => ?_, fun accepted waiting => ?_, fun g p slot found => ⟨fun rejected runs issued => ?_,
      fun c r done addressed record => ?_⟩⟩
  · subst accepted
    exact moves ((running (by rw [already]; decide)).trans (congrArg some
      (replyOnEntry_accepted_of_accepted reason already)))
  · subst accepted
    obtain ⟨own, others⟩ := order?_modOrder_of_found (OrderEntry.accept_key taken) (s := taken) standing
    refine ⟨modOrder key (OrderEntry.accept taken) taken, ?_, own, others, rfl, ?_⟩
    · exact moves ((running (by rw [waiting]; decide)).trans (congrArg some
        ((replyOnEntry_accepted_of_waiting reason waiting).trans (congrArg (modOrder · _ _) ofKey))))
    · exact Only.trans (t := taken) ((only_withPortF s _).mono (by decide))
        ((modOrder_moves key _ (OrderEntry.accept_key taken) taken).only.mono (by decide))
  · subst rejected
    have halts : replyOnEntry e .rejected reason taken = haltPlan g .rejected (some reason) removed := by
      rw [replyOnEntry, handPlan_of_plan _ ofPlan slot, ofKey]
      exact planRejected_of_issued (s := removed) found issued reason
    exact ⟨_, moves ((running runs).trans (congrArg some halts)), haltPlan_halts (s := removed) _ _ found⟩
  · subst done
    intro updated inRamp
    have written := doneEntry_of_cabinet (t := taken) (s := s) addressed record rfl
    have handed : replyOnEntry e .done reason taken =
        planDone g (removeOrder key (taken.withCabs (doneUpdate e.kind e.value c r s).cabs)) := by
      rw [replyOnEntry, handPlan_of_plan _ ofPlan slot, ofKey, written]
    have inRun := fun runs => moves ((running runs).trans (congrArg some handed))
    refine ⟨fun late halted => ?_, fun runs issued noRamp => ?_, fun ra runs issued stage ramp => ?_⟩
    · have lateDone : replyOnLapsed e .done taken = updated taken { p with lateSinceHalt := true, lateFlag := true } := by
        rw [replyOnLapsed, handPlan_of_plan _ ofPlan slot, written]
        exact planLateDone_of_halted (s := taken.withCabs _) found halted
      exact moves ((lapsed late).trans (congrArg some lateDone))
    · exact (inRun runs).trans (congrArg Host.Outcome.next
        (planDone_of_step (s := removeOrder key (taken.withCabs _)) found issued noRamp))
    · exact (inRun runs).trans (congrArg Host.Outcome.next
        ((planDone_of_ramp (s := removeOrder key (taken.withCabs _)) found issued stage).trans (rampDone_of_ramp ramp)))

end Sys2Proof.Machine
end

section
/-! PROOF. The expiry of an order's window (R117, R134). -/

namespace Sys2Proof.Machine

/-! What an expiry does, by the origin of the entry (R117). -/

section
variable {s : State} {k : OrderKey} {e : OrderEntry} {w : WindowKind} {x : Timer} {onPlan : Nat → State → State}

theorem OrderEntry.windowDue_of_runOut (window : e.window = some (w, x)) (out : RunOut x s) :
    e.windowDue w s.now = true := by
  rw [OrderEntry.windowDue, window, Option.any_some, beq_self_eq_true, Bool.true_and]
  exact decide_eq_true out

theorem windowExpires_of_site (standing : order? s k = some e) (site : e.origin = .site)
    (window : e.window = some (w, x)) (out : RunOut x s) : windowExpires w onPlan k s = { s with tracker :=
      ⟨s.tracker.orders.filter (fun y => !(y.key == k)), min 65535 (s.tracker.siteExpiries + 1), s.tracker.unmatched⟩ } := by
  simp only [windowExpires, standing, OrderEntry.windowDue_of_runOut window out, if_true, site]; rfl

theorem windowExpires_of_plan {g : Nat} (standing : order? s k = some e) (plan : e.origin = .plan) (slot : e.slot = some g)
    (window : e.window = some (w, x)) (out : RunOut x s) : windowExpires w onPlan k s = onPlan g s := by
  simp only [windowExpires, standing, OrderEntry.windowDue_of_runOut window out, if_true, plan,
    handPlan_of_plan onPlan plan slot]

theorem exec_replyWindowExpiry_of_opened (opened : s.bridge = .opened) (k : OrderKey) :
    exec (.replyWindowExpiry k) s = .next (windowExpires .reply planReplyExpiry k s) :=
  congrArg Host.Outcome.next (whenRunning_of_opened opened _)

theorem exec_completionWindowExpiry_of_opened (opened : s.bridge = .opened) (k : OrderKey) :
    exec (.completionWindowExpiry k) s = .next (windowExpires .completion planCompletionExpiry k s) :=
  congrArg Host.Outcome.next (whenRunning_of_opened opened _)

end

/-! What a plan does at an expiry (R134). -/

section
variable {s : State} {g : Nat} {p : Plan} {o : PlanOrder}

theorem planReplyExpiry_of_issued (found : plan? s g = some p) (issued : p.state = .issued) (order : p.order = some o) :
    planReplyExpiry g s =
      if p.sends < 4 then resend g p o s else haltPlan g .noReply (some (orderCabinet s o)) s := by
  simp only [planReplyExpiry, found, issued, order]

theorem planCompletionExpiry_of_issued (found : plan? s g = some p) (issued : p.state = .issued)
    (order : p.order = some o) : planCompletionExpiry g s = haltPlan g .noCompletion (some (orderCabinet s o)) s := by
  simp only [planCompletionExpiry, found, issued, order]

/-- A plan's entry after its order was sent again: its sends counted, sent now, with a fresh reply window. -/
def OrderEntry.resent (s : State) (addr : Nat) (x : OrderEntry) : OrderEntry :=
  { x with sends := x.sends + 1, sentMs := s.now, window := some (replyWindowFor s addr) }

theorem OrderEntry.resent_key (s : State) (addr : Nat) (x : OrderEntry) : (x.resent s addr).key = x.key := rfl

/-- The plan and the entry as a re-send leaves them, before its frame joins the priority queue. -/
def countResend (g : Nat) (p : Plan) (o : PlanOrder) (s : State) : State :=
  modOrder ⟨.plan, o.target, o.seq⟩ (OrderEntry.resent s o.target) (setPlan g (some { p with sends := p.sends + 1 }) s)

/-- A re-send joins the priority queue unless a frame of the slot still waits there (log entry 19). -/
theorem resend_eq (g : Nat) (p : Plan) (o : PlanOrder) (s : State) : resend g p o s = (countResend g p o s).withPrio
    (if ∃ x ∈ s.prio, x.slot = g then s.prio else s.prio ++ [⟨g, planOrderFrame o⟩]) := by
  have waits : s.prio.any (fun x => x.slot == g) = true ↔ ∃ x ∈ s.prio, x.slot = g := by simp
  have unfolded : resend g p o s = if s.prio.any (fun x => x.slot == g) then countResend g p o s
      else placePrio g (planOrderFrame o) (countResend g p o s) := rfl
  by_cases waiting : ∃ x ∈ s.prio, x.slot = g
  · rw [unfolded, if_pos (waits.mpr waiting), if_pos waiting]; rfl
  · have others : s.prio.filter (fun x => x.slot != g) = s.prio :=
      List.filter_eq_self.mpr fun x listed => bne_iff_ne.mpr fun here => waiting ⟨x, listed, here⟩
    rw [unfolded, if_neg (mt waits.mp waiting), if_neg waiting]
    exact congrArg (fun l => (countResend g p o s).withPrio (l ++ [⟨g, planOrderFrame o⟩])) others

end

/-- Settles O37: the entry's origin says who takes the expiry, and a plan's sends whether it sends again. -/
theorem windowExpiryRemovesResendsOrHalts : Obligations.WindowExpiryRemovesResendsOrHalts := by
  refine ⟨fun key e w s opened standing site out => ?_,
    fun g p o e c w s opened found issued order => ?_⟩
  · intro rest gone
    have ofSite : e.origin = .site := (congrArg OrderKey.origin (order?_key standing)).trans site
    exact ⟨fun window => (exec_replyWindowExpiry_of_opened opened key).trans
        (congrArg Host.Outcome.next (windowExpires_of_site standing ofSite window out)),
      fun window => (exec_completionWindowExpiry_of_opened opened key).trans
        (congrArg Host.Outcome.next (windowExpires_of_site standing ofSite window out))⟩
  · intro key standing slot addressed out
    have ofPlan : e.origin = .plan := congrArg OrderKey.origin (order?_key standing)
    have cabinet : orderCabinet s o = c := by rw [orderCabinet, addressed]; rfl
    have reply := fun window => (exec_replyWindowExpiry_of_opened opened key).trans (congrArg Host.Outcome.next
      ((windowExpires_of_plan standing ofPlan slot window out).trans (planReplyExpiry_of_issued found issued order)))
    refine ⟨fun window few => ?_, fun window most => ⟨_, (reply window).trans (congrArg Host.Outcome.next
        (if_neg (Nat.not_lt.mpr most))), cabinet ▸ haltPlan_halts .noReply _ found⟩,
      fun window => ⟨_, (exec_completionWindowExpiry_of_opened opened key).trans (congrArg Host.Outcome.next
        ((windowExpires_of_plan standing ofPlan slot window out).trans (planCompletionExpiry_of_issued found issued order))),
        cabinet ▸ haltPlan_halts .noCompletion _ found⟩⟩
    have plans := plan?_setPlan s g (p := some { p with sends := p.sends + 1 })
    obtain ⟨own, others⟩ := order?_modOrder_of_found (OrderEntry.resent_key s o.target)
      (s := setPlan g (some { p with sends := p.sends + 1 }) s) standing
    refine ⟨resend g p o s, (reply window).trans (congrArg Host.Outcome.next (if_pos few)), ?_⟩
    rw [resend_eq]
    refine ⟨(plans g).trans (if_pos ⟨rfl, plan?_lt found⟩), fun j other => (plans j).trans (if_neg fun both =>
      other both.1.symm), own, others, rfl, ?_⟩
    exact ((setPlan_moves ..).only.mono (by decide)).trans
      (((modOrder_moves key _ (OrderEntry.resent_key s o.target) _).only.mono (by decide)).trans
        ((only_withPrio ..).mono (by decide)))

end Sys2Proof.Machine
end

section
/-! PROOF. The step trigger (R130 to R133, R136, R143): the positions still before a plan, what the walk does at each of
them, the re-checks, and the table of the steps. -/

namespace Sys2Proof.Machine

/-! The Plan Table under a write. -/

section
variable {g : Nat} {p : Plan} {s : State}

theorem plan?_setPlan_self (found : plan? s g = some p) (x : Option Plan) : plan? (setPlan g x s) g = x :=
  (plan?_setPlan ..).trans (if_pos ⟨rfl, plan?_lt found⟩)

theorem setPlan_twice (g : Nat) (x y : Option Plan) (s : State) : setPlan g x (setPlan g y s) = setPlan g x s := by
  have last : (s.seq.plans.setIfInBounds g y).setIfInBounds g x = s.seq.plans.setIfInBounds g x := by
    ext i hi : 1
    simp only [Vector.getElem_setIfInBounds]
    split <;> rfl
  simp only [setPlan, State.withSeq_seq, State.withSeq_twice, last]

/-- A plan written in its own place leaves the state. -/
theorem setPlan_of_found (found : plan? s g = some p) : setPlan g (some p) s = s := by
  have stands : s.seq.plans[g]? = some (some p) := Option.join_eq_some_iff.mp found
  have same : s.seq.plans.setIfInBounds g (some p) = s.seq.plans := by
    ext i hi : 1
    rw [Vector.getElem_setIfInBounds]
    split
    next here =>
      subst here
      rw [Vector.getElem?_eq_getElem hi] at stands
      exact (Option.some.inj stands).symm
    · rfl
  rw [setPlan, same]
  rfl

theorem markDone_of_found (found : plan? s g = some p) :
    markDone g s = setPlan g (some { p with stepDone := true }) s := by
  simp only [markDone, modPlan, found]

end

/-! What a trigger reads of the Cabinet Table and the Group Parameter Table. -/

section
variable {s t : State} (cabs : t.cabs = s.cabs)
include cabs

theorem stageSteps_congr (g : Nat) (st : Stage) : stageSteps t g st = stageSteps s g st := by
  simp only [stageSteps, members, memberRecs_congr cabs]

theorem walkItems_congr (p : Plan) : walkItems t p = walkItems s p := by
  have items : stageItems t p.group = stageItems s p.group := funext fun st => by
    simp only [stageItems, stageSteps_congr cabs]
  simp only [walkItems, items, stageSteps_congr cabs]

theorem capacityPasses_congr (groups : t.seq.groups = s.seq.groups) (g x sh : Nat) :
    capacityPasses t g x sh = capacityPasses s g x sh := by
  rw [Bool.eq_iff_iff, capacityPasses_iff, capacityPasses_iff]
  simp only [carries, memberRecs_congr cabs, groupParams, groups]

theorem recheck_congr (groups : t.seq.groups = s.seq.groups) (p : Plan) (st : Stage) :
    recheck t p st = recheck s p st := by
  simp only [recheck, silenceHalt, firstSilent, bypassHalt, firstBadBypass, capacityHalt, memberRecs_congr cabs,
    capacityPasses_congr cabs groups]

end

/-! The positions of a walk (R130, R131). -/

theorem Stage.isWhole_iff (st : Stage) : st.isWhole = true ↔ st = .check ∨ st = .rampDown ∨ st = .rampUp := by
  cases st <;> decide

theorem Stage.isWhole_of_isRamp {st : Stage} (ramp : st.isRamp = true) : st.isWhole = true := by
  revert ramp; cases st <;> decide

theorem PlanKind.stages_nodup (k : PlanKind) : k.stages.Nodup := by cases k <;> decide

/-- From a stage of a kind on, the kind's stages are the stage and those after it. -/
theorem PlanKind.drop_stages {k : PlanKind} {st : Stage} {j : Nat} (place : k.stages[j]? = some st) :
    k.stages.drop j = st :: k.after st := by
  obtain ⟨inside, rfl⟩ := List.getElem?_eq_some_iff.mp place
  have found : k.stages.dropWhile (· != k.stages[j]) = k.stages.drop j := by
    simp only [List.dropWhile_eq_drop_findIdx_not, bne, Bool.not_not]
    exact congrArg (List.drop · k.stages) (k.stages_nodup.idxOf_getElem j inside)
  rw [PlanKind.after, found, List.drop_drop]
  exact List.drop_eq_getElem_cons inside

/-- The stage that follows another of its kind. -/
theorem PlanKind.after_eq_cons {k : PlanKind} {old st : Stage} {j : Nat} (here : k.stages[j]? = some old)
    (next : k.stages[j + 1]? = some st) : k.after old = st :: k.after st := by
  rw [← drop_stages next, ← List.drop_drop, drop_stages here, List.drop_one, List.tail_cons]

section
variable {s : State} {p : Plan} {st : Stage}

/-- The trigger enters the stage next: it is the first of the kind, a CHECK or ramp stage that is not done, or the one
after a stage that is done (R131, R141). -/
def Enters (s : State) (p : Plan) (st : Stage) : Prop :=
  (p.stage = none ∧ p.kind.stages.head? = some st) ∨ (p.stage = some st ∧ st.isWhole = true ∧ p.stepDone = false) ∨
    ∃ old j, p.stage = some old ∧ p.stepDone = true ∧ (old.isWhole = true ∨ stageSteps s p.group old ≤ p.step + 1) ∧
      p.kind.stages[j]? = some old ∧ p.kind.stages[j + 1]? = some st

theorem stageSteps_of_whole (s : State) (g : Nat) (whole : st.isWhole = true) : stageSteps s g st = 0 := if_pos whole

theorem walkItems_of_whole_done (stage : p.stage = some st) (whole : st.isWhole = true) (done : p.stepDone = true) :
    walkItems s p = (p.kind.after st).flatMap (stageItems s p.group) := by
  simp only [walkItems, stage, whole, done, if_true]

theorem walkItems_of_steps (stage : p.stage = some st) (steps : st.isWhole = false) : walkItems s p =
    ((List.range (stageSteps s p.group st)).drop (if p.stepDone then p.step + 1 else p.step)).map (WalkItem.step st) ++
      (p.kind.after st).flatMap (stageItems s p.group) := by
  simp only [walkItems, stage, steps, Bool.false_eq_true, if_false]

/-- An order step that is not done is the next position; those behind it are those of the plan with the step done. -/
theorem walkItems_of_not_done (stage : p.stage = some st) (steps : st.isWhole = false) (notDone : p.stepDone = false)
    (inside : p.step < stageSteps s p.group st) :
    walkItems s p = .step st p.step :: walkItems s { p with stepDone := true } := by
  rw [walkItems_of_steps stage steps, walkItems_of_steps (p := { p with stepDone := true }) stage steps]
  simp only [notDone, Bool.false_eq_true, if_false, if_true]
  rw [List.drop_eq_getElem_cons (by rwa [List.length_range]), List.getElem_range, List.map_cons, List.cons_append]

/-- A step that is done leaves the positions of the next step. -/
theorem walkItems_of_done (stage : p.stage = some st) (steps : st.isWhole = false) (done : p.stepDone = true) :
    walkItems s p = walkItems s { p with step := p.step + 1, stepDone := false } := by
  rw [walkItems_of_steps stage steps, walkItems_of_steps (p := { p with step := _, stepDone := false }) stage steps, done]
  rfl

/-- With the last step of a stage done, the stages after it are left. -/
theorem walkItems_of_last_done (stage : p.stage = some st) (done : p.stepDone = true)
    (last : st.isWhole = true ∨ stageSteps s p.group st ≤ p.step + 1) :
    walkItems s p = (p.kind.after st).flatMap (stageItems s p.group) := by
  cases whole : st.isWhole with
  | true => exact walkItems_of_whole_done stage whole done
  | false =>
    rw [walkItems_of_steps stage whole, done, if_pos rfl, List.drop_eq_nil_of_le, List.map_nil, List.nil_append]
    rw [List.length_range]
    exact last.resolve_left (by simp [whole])

/-- The plan as the entry of a stage leaves it (R131). -/
def Plan.enter (p : Plan) (st : Stage) : Plan := { p with stage := some st, step := 0, stepDone := false, ramp := none }

/-- The positions of a stage and of those after it are its entry and then those of the plan that has entered it. -/
theorem flatMap_stageItems_cons (s : State) (p : Plan) (st : Stage) :
    (st :: p.kind.after st).flatMap (stageItems s p.group) =
      .enter st :: walkItems s { p.enter st with stepDone := st.isWhole } := by
  rw [List.flatMap_cons, stageItems, List.cons_append]
  cases whole : st.isWhole with
  | true => rw [walkItems_of_whole_done rfl whole rfl, stageSteps_of_whole s p.group whole]; rfl
  | false => rw [walkItems_of_steps rfl whole]; rfl

theorem walkItems_of_enters (enters : Enters s p st) :
    walkItems s p = .enter st :: walkItems s { p.enter st with stepDone := st.isWhole } := by
  rcases enters with ⟨stage, first⟩ | ⟨stage, whole, notDone⟩ | ⟨old, j, stage, done, last, here, next⟩
  · rw [List.head?_eq_getElem?] at first
    rw [← flatMap_stageItems_cons, ← PlanKind.drop_stages first, List.drop_zero]
    simp only [walkItems, stage]
  · rw [whole, walkItems_of_whole_done (p := { p.enter st with stepDone := true }) rfl whole rfl]
    simp only [walkItems, stage, whole, notDone, if_true, Bool.false_eq_true, if_false, Plan.enter]
  · rw [walkItems_of_last_done stage done last, PlanKind.after_eq_cons here next, flatMap_stageItems_cons]

end

/-! The walk at one position (R131 to R133, R136). -/

section
variable {g : Nat} {p : Plan} {s : State} {st : Stage} {i c : Nat} {r : CabRec}

theorem exec_stepTrigger_of_checking (opened : s.bridge = .opened) (found : plan? s g = some p)
    (checking : p.state = .checking) : exec (.stepTrigger g) s = .next (walk g (walkItems s p) s) := by
  refine congrArg Host.Outcome.next ((whenRunning_of_opened opened _).trans ?_)
  simp only [trigger, found, checking, if_true]

theorem walk_enter (found : plan? s g = some p) (rest : List WalkItem) : walk g (.enter st :: rest) s =
    if st = .check then
      haltOr g (recheck (enterStage g p st s) p .check) (fun s => walk g rest (markDone g s)) (enterStage g p st s)
    else if st.isRamp then beginRamp g (enterStage g p st s)
    else walk g rest (enterStage g p st s) := by
  simp only [walk, found]

theorem walk_step_of_skipped (found : plan? s g = some p) (cabinet : stepCabinet s p st i = some c)
    (record : cab? s c = some r) (skipped : stepSkipped st i r = true) (rest : List WalkItem) :
    walk g (.step st i :: rest) s = walk g rest (setPlan g (some { p with step := i, stepDone := true }) s) := by
  have target : (stepCabinet (setPlan g (some { p with step := i, stepDone := false }) s)
      { p with step := i, stepDone := false } st i).bind
        (cab? (setPlan g (some { p with step := i, stepDone := false }) s)) = some r :=
    (congrArg (Option.bind · (cab? s)) cabinet).trans record
  simp only [walk, found, target, skipped, if_true, markDone_of_found (plan?_setPlan_self found _), setPlan_twice]

theorem walk_step_of_ordered (found : plan? s g = some p) (step : p.step = i) (notDone : p.stepDone = false)
    (cabinet : stepCabinet s p st i = some c) (record : cab? s c = some r) (ordered : stepSkipped st i r = false)
    (rest : List WalkItem) : walk g (.step st i :: rest) s = haltOr g (recheck s p st)
      (issueOrder g p (stepKind st i) r (if stepKind st i = .setShare then some 0 else none)
        (stepSettle (groupParams s g) (stepKind st i))) s := by
  have same : { p with step := i, stepDone := false } = p := by rw [← step, ← notDone]
  have target : (stepCabinet s p st i).bind (cab? s) = some r :=
    (congrArg (Option.bind · (cab? s)) cabinet).trans record
  simp only [walk, found, same, setPlan_of_found found, target, ordered, Bool.false_eq_true, if_false]

/-- The walk at an order step does not read where the plan stood before. -/
theorem walk_step_setPlan (found : plan? s g = some p) (rest : List WalkItem) :
    walk g (.step st i :: rest) (setPlan g (some { p with step := i, stepDone := false }) s) =
      walk g (.step st i :: rest) s := by
  simp only [walk, found, plan?_setPlan_self found, setPlan_twice]

end

/-! The re-checks (R132). -/

section
variable {s : State} {p : Plan} {st : Stage} {m : Nat}

/-- Member `m` is the lowest cabinet of a group whose record passes a test. -/
def LowestMember (s : State) (g : Nat) (q : CabRec → Prop) (m : Nat) : Prop :=
  (∃ r, cab? s m = some r ∧ r.group = g ∧ q r) ∧ ∀ j < m, ¬∃ r, cab? s j = some r ∧ r.group = g ∧ q r

theorem silenceHalt_of_lowest {g : Nat} (lowest : LowestMember s g (fun r => r.liveness = .silent) m) :
    silenceHalt s g = some (.silent, m) := by
  have found := (memberRecs_find? s g (fun r => r.liveness == .silent)).1 m
  simp only [beq_iff_eq] at found
  rw [silenceHalt, firstSilent, found lowest.1 lowest.2]; rfl

theorem silenceHalt_of_none {g : Nat}
    (none_silent : ∀ m, ¬∃ r, cab? s m = some r ∧ r.group = g ∧ r.liveness = .silent) : silenceHalt s g = none := by
  have none_found := (memberRecs_find? s g (fun r => r.liveness == .silent)).2
  simp only [beq_iff_eq] at none_found
  rw [silenceHalt, firstSilent, none_found none_silent]; rfl

theorem bypassHalt_of_lowest {g : Nat} (lowest : LowestMember s g (fun r => r.bypass ≠ .good) m) :
    bypassHalt s g = some (.bypass, m) := by
  have found := (memberRecs_find? s g (fun r => !(r.bypass == .good))).1 m
  simp only [Bool.not_eq_true', beq_eq_false_iff_ne] at found
  rw [bypassHalt, firstBadBypass, found lowest.1 lowest.2]; rfl

theorem bypassHalt_of_none {g : Nat} (none_poor : ∀ m, ¬∃ r, cab? s m = some r ∧ r.group = g ∧ r.bypass ≠ .good) :
    bypassHalt s g = none := by
  have none_found := (memberRecs_find? s g (fun r => !(r.bypass == .good))).2
  simp only [Bool.not_eq_true', beq_eq_false_iff_ne] at none_found
  rw [bypassHalt, firstBadBypass, none_found none_poor]; rfl

theorem capacityHalt_of_carries {g t sh : Nat} (holds : carries s g t sh) : capacityHalt s g t sh = none :=
  if_pos ((capacityPasses_iff ..).mpr holds)

theorem capacityHalt_of_not_carries {g t sh : Nat} (fails : ¬carries s g t sh) :
    capacityHalt s g t sh = some (.capacity, sh) := if_neg (mt (capacityPasses_iff ..).mp fails)

/-- The bypass check is made of this plan at this stage. -/
def ChecksBypass (p : Plan) (st : Stage) : Prop :=
  p.kind = .groupToMaint ∧ (st = .check ∨ st = .toStatic ∨ st = .maintClose)

/-- The capacity check is made of this plan at this stage. -/
def ChecksCapacity (p : Plan) (st : Stage) : Prop := p.kind = .withdraw ∧ (st = .check ∨ st = .openOut)

theorem checksBypass_iff :
    (p.kind == .groupToMaint && (st == .check || st == .toStatic || st == .maintClose)) = true ↔ ChecksBypass p st := by
  simp [ChecksBypass, or_assoc]

theorem checksCapacity_iff :
    (p.kind == .withdraw && (st == .check || st == .openOut)) = true ↔ ChecksCapacity p st := by
  simp [ChecksCapacity]

theorem recheck_of_silent {x : HaltCause × Nat} (silent : silenceHalt s p.group = some x) : recheck s p st = some x := by
  rw [recheck, silent, Option.some_or]

theorem recheck_of_bypass {x : HaltCause × Nat} (quiet : silenceHalt s p.group = none) (checks : ChecksBypass p st)
    (poor : bypassHalt s p.group = some x) : recheck s p st = some x := by
  rw [recheck, quiet, Option.none_or, if_pos (checksBypass_iff.mpr checks), poor, Option.some_or]

/-- A WITHDRAW has no bypass check, so its capacity check stands alone. -/
theorem recheck_of_capacity {t : Nat} (quiet : silenceHalt s p.group = none) (checks : ChecksCapacity p st)
    (target : p.target = some t) : recheck s p st = capacityHalt s p.group t 0 := by
  have other : ¬ChecksBypass p st := fun bypass => by cases checks.1.symm.trans bypass.1
  simp only [recheck, quiet, Option.none_or, if_neg (mt checksBypass_iff.mp other), target,
    if_pos (checksCapacity_iff.mpr checks)]

theorem recheck_of_passes (quiet : silenceHalt s p.group = none) (good : ChecksBypass p st → bypassHalt s p.group = none)
    (carried : ∀ t, ChecksCapacity p st → p.target = some t → capacityHalt s p.group t 0 = none) :
    recheck s p st = none := by
  have bypass : (if (p.kind == .groupToMaint && (st == .check || st == .toStatic || st == .maintClose)) = true then
      bypassHalt s p.group else none) = none :=
    ite_eq_right_iff.mpr fun tests => good (checksBypass_iff.mp tests)
  rw [recheck, quiet, Option.none_or, bypass, Option.none_or]
  split
  next t target => exact ite_eq_right_iff.mpr fun tests => carried t (checksCapacity_iff.mp tests) target
  · rfl

end

/-! What a trigger does to the plan (R131 to R133, R136, R143). -/

section
variable {g : Nat} {p : Plan} {s : State} {st : Stage}

/-- A trigger goes on from a state whose plan has the positions that are left. -/
theorem exec_stepTrigger_eq_of_walk {t : State} {q : Plan} {l : List WalkItem} (opened : t.bridge = .opened)
    (found : plan? t g = some q) (checking : q.state = .checking) (left : walkItems t q = l) :
    Host.Outcome.next (walk g l t) = exec (.stepTrigger g) t := by
  rw [exec_stepTrigger_of_checking opened found checking, left]

/-- The positions are behind a plan whose last step of its last stage is done, and it completes (R131, R143). -/
theorem exec_stepTrigger_of_last (opened : s.bridge = .opened) (found : plan? s g = some p)
    (checking : p.state = .checking) (stage : p.stage = some st) (done : p.stepDone = true) (after : p.kind.after st = [])
    (last : st.isWhole = true ∨ stageSteps s p.group st ≤ p.step + 1) :
    exec (.stepTrigger g) s = .next (completePlan g s) := by
  rw [exec_stepTrigger_of_checking opened found checking, walkItems_of_last_done stage done last, after]
  rfl

theorem completePlan_of_found (found : plan? s g = some p) : completePlan g s = queueNotice .planDone
    [byteOf p.id, byteOf g, byteOf p.kind.toCode, if p.lateFlag then 1 else 0]
    { s with
      seq := { s.seq with plans := s.seq.plans.setIfInBounds g none }
      prio := s.prio.filter (fun x => x.slot != g) } := by
  simp only [completePlan, found]
  rfl

end

/-! A stage entered (R131, R136). -/

section
variable {g : Nat} {p : Plan} {s : State} {st : Stage}

theorem plan?_enterStage (found : plan? s g = some p) : plan? (enterStage g p st s) g = some (p.enter st) :=
  plan?_setPlan_self found _

theorem recheck_enterStage (g : Nat) (p q : Plan) (st x : Stage) (s : State) :
    recheck (enterStage g p st s) q x = recheck s q x := recheck_congr rfl rfl ..

/-- A ramp stage begins with the commanded share as its limit and its match window started (R136). -/
theorem beginRamp_of_target {t : Nat} {r : CabRec} (found : plan? s g = some p) (target : p.target = some t)
    (record : cab? s t = some r) : beginRamp g s = judgeRamp g (setPlan g (some { p with
      state := .ramping
      ramp := some ⟨r.share, 0, 0, none, none, some ⟨s.clock.ms, (groupParams s g).matchWindow⟩⟩ }) s) := by
  simp only [beginRamp, found, target, Option.bind_some, record, Option.map_some, Option.getD_some]
  rfl

variable (opened : s.bridge = .opened) (found : plan? s p.group = some p) (checking : p.state = .checking)
  (enters : Enters s p st)
include opened found checking enters

theorem exec_stepTrigger_of_enters : exec (.stepTrigger p.group) s = .next (walk p.group
    (.enter st :: walkItems s { p.enter st with stepDone := st.isWhole }) s) := by
  rw [exec_stepTrigger_of_checking opened found checking, walkItems_of_enters enters]

/-- From the entry of a stage of order steps the trigger goes on (R131). -/
theorem exec_stepTrigger_enters_steps (steps : st.isWhole = false) :
    exec (.stepTrigger p.group) s = exec (.stepTrigger p.group) (enterStage p.group p st s) := by
  have notCheck : st ≠ .check := by rintro rfl; cases steps
  have notRamp : ¬st.isRamp = true := fun ramp => by rw [Stage.isWhole_of_isRamp ramp] at steps; cases steps
  rw [exec_stepTrigger_of_enters opened found checking enters, walk_enter found, if_neg notCheck, if_neg notRamp, steps]
  exact exec_stepTrigger_eq_of_walk opened (plan?_enterStage found) checking (walkItems_congr rfl _)

end

section
variable {p : Plan} {s : State} (opened : s.bridge = .opened) (found : plan? s p.group = some p)
  (checking : p.state = .checking)
include opened found checking

/-- A CHECK stage whose checks pass is done, and the trigger goes on (R131). -/
theorem exec_stepTrigger_enters_check (enters : Enters s p .check) (passes : recheck s p .check = none) :
    exec (.stepTrigger p.group) s = exec (.stepTrigger p.group)
      (setPlan p.group (some { p.enter .check with stepDone := true }) (enterStage p.group p .check s)) := by
  have standing := plan?_enterStage (st := .check) found
  rw [exec_stepTrigger_of_enters opened found checking enters, walk_enter found, if_pos rfl, recheck_enterStage, passes,
    haltOr, markDone_of_found standing]
  exact exec_stepTrigger_eq_of_walk opened (plan?_setPlan_self standing _) checking (walkItems_congr rfl _)

/-- A CHECK stage that fails a check halts the plan there (R132). -/
theorem exec_stepTrigger_halts_in_check (enters : Enters s p .check) {cause : HaltCause} {d : Nat}
    (fails : recheck s p .check = some (cause, d)) :
    exec (.stepTrigger p.group) s = .next (haltPlan p.group cause (some d) (enterStage p.group p .check s)) := by
  rw [exec_stepTrigger_of_enters opened found checking enters, walk_enter found, if_pos rfl, recheck_enterStage, fails]
  rfl

theorem exec_stepTrigger_enters_ramp {st : Stage} (enters : Enters s p st) (ramp : st = .rampDown ∨ st = .rampUp) :
    exec (.stepTrigger p.group) s = .next (beginRamp p.group (enterStage p.group p st s)) := by
  have notCheck : st ≠ .check := by rcases ramp with rfl | rfl <;> decide
  have isRamp : st.isRamp = true := by rcases ramp with rfl | rfl <;> rfl
  rw [exec_stepTrigger_of_enters opened found checking enters, walk_enter found, if_neg notCheck, if_pos isRamp]

end

/-! The table of the steps (R130). -/

theorem CabRec.reports_eq_decide (r : CabRec) (m : Mode) : r.reports m = decide (r.reported = some m) := by
  rw [Bool.eq_iff_iff, CabRec.reports, beq_iff_eq, decide_eq_true_eq]

/-- A cabinet reports one of some modes. -/
theorem reports_one_iff (r : CabRec) (l : List Mode) : (∃ m ∈ l, r.reported = some m) ↔ l.any r.reports = true := by
  simp [CabRec.reports]

/-- Settles O40: a trigger walks the positions still before the plan; each part says what the first of them does. -/
theorem stepTriggerIssuesHaltsOrCompletes : Obligations.StepTriggerIssuesHaltsOrCompletes := by
  refine ⟨fun g p st c r s opened found group checking stage notDone orders inside cabinet record ordered => ?_,
    fun g p s opened found group checking => ?_, fun g p s opened found group checking done last => ?_,
    fun s p st => ?_, fun s p r => ?_⟩
  · subst group
    have steps : st.isWhole = false := by simpa [← Bool.not_eq_true, Stage.isWhole_iff] using orders
    have walked := exec_stepTrigger_of_checking opened found checking
    rw [walkItems_of_not_done stage steps notDone inside,
      walk_step_of_ordered found rfl notDone cabinet record ordered] at walked
    exact ⟨fun passes => ⟨_, walked.trans (by rw [passes]; rfl), issueOrder_issues _ r _ _ found⟩,
      fun cause d fails => ⟨_, walked.trans (by rw [fails]; rfl), haltPlan_halts _ _ found⟩⟩
  · intro stages whole holds got goesOn
    subst group
    have notWhole : ∀ {st}, ¬whole st → st.isWhole = false := fun {st} other =>
      Bool.eq_false_iff.mpr (mt st.isWhole_iff.mp other)
    have walked : got = _ := exec_stepTrigger_of_checking opened found checking
    refine ⟨fun st c r stage steps notDone inside cabinet record skipped => ?_, fun st stage steps done more => ?_,
      fun st enters => ?_⟩
    · rw [walkItems_of_not_done stage (notWhole steps) notDone inside,
        walk_step_of_skipped found cabinet record skipped] at walked
      exact walked.trans
        (exec_stepTrigger_eq_of_walk opened (plan?_setPlan_self found _) checking (walkItems_congr rfl _))
    · have next := walkItems_of_not_done (s := s) (p := { p with step := p.step + 1, stepDone := false }) stage
        (notWhole steps) rfl more
      rw [walkItems_of_done stage (notWhole steps) done, next, ← walk_step_setPlan found] at walked
      exact walked.trans (exec_stepTrigger_eq_of_walk opened (plan?_setPlan_self found _) checking
        ((walkItems_congr rfl _).trans next))
    · intro q entered
      have enters : Enters s p st := by
        simp only [Enters, Stage.isWhole_iff]
        exact enters
      refine ⟨fun steps => exec_stepTrigger_enters_steps opened found checking enters (notWhole steps),
        fun check passes => ?_, fun check cause d fails => ?_, fun tgt r ramp target record => ?_⟩
      · subst check
        exact exec_stepTrigger_enters_check opened found checking enters passes
      · subst check
        exact ⟨_, exec_stepTrigger_halts_in_check opened found checking enters fails,
          haltPlan_halts _ _ (plan?_enterStage found)⟩
      · exact (exec_stepTrigger_enters_ramp opened found checking enters ramp).trans
          (congrArg Host.Outcome.next (beginRamp_of_target (plan?_enterStage found) target record))
  · rw [← completePlan_of_found found]
    rcases last with ⟨kind, stage, step⟩ | ⟨kind, stage⟩ | ⟨kind, stage, step⟩ | ⟨kind, stage, step⟩
    · exact exec_stepTrigger_of_last opened found checking stage done (by rw [kind]; rfl)
        (.inr (Nat.le_add_left 1 p.step))
    · exact exec_stepTrigger_of_last opened found checking stage done (by rw [kind]; rfl) (.inl rfl)
    · exact exec_stepTrigger_of_last opened found checking stage done (by rw [kind]; rfl)
        (.inr (group ▸ step.ge))
    · exact exec_stepTrigger_of_last opened found checking stage done (by rw [kind]; rfl)
        (.inr (group ▸ step.ge))
  · intro silent poor heavy least
    refine ⟨fun m lowest => recheck_of_silent (silenceHalt_of_lowest lowest), fun none_silent => ?_⟩
    have quiet := silenceHalt_of_none none_silent
    refine ⟨fun m ⟨⟨kind, stages, member⟩, before⟩ => ?_, fun ⟨kind, stages, t, target, fails⟩ => ?_,
      fun none_poor light => ?_⟩
    · exact recheck_of_bypass quiet ⟨kind, stages⟩
        (bypassHalt_of_lowest ⟨member, fun j lower here => before j lower ⟨kind, stages, here⟩⟩)
    · exact (recheck_of_capacity quiet ⟨kind, stages⟩ target).trans (capacityHalt_of_not_carries fails)
    · exact recheck_of_passes quiet
        (fun ⟨kind, stages⟩ => bypassHalt_of_none fun m here => none_poor m ⟨kind, stages, here⟩)
        (fun t ⟨kind, stages⟩ target => capacityHalt_of_carries
          (by_contra fun fails => light ⟨kind, stages, t, target, fails⟩))
  · intro gp is row each lead
    have skips : ∀ st i {l}, stepSkipped st i r = l.any r.reports → (stepSkipped st i r = true ↔ is l) :=
      fun st i l eq => (iff_of_eq (congrArg (· = true) eq)).trans (reports_one_iff r l).symm
    refine ⟨⟨rfl, rfl, rfl, skips .openOut 0 ?_, rfl⟩, ⟨rfl, rfl, rfl, skips .isolate 0 ?_, rfl⟩,
      ⟨rfl, rfl, rfl, skips .deisolate 0 ?_, rfl⟩, ⟨rfl, rfl, rfl, beq_iff_eq, rfl⟩,
      ⟨rfl, rfl, rfl, skips .close 1 ?_, rfl⟩, fun i => ⟨rfl, rfl, rfl, skips .toStatic i ?_, rfl⟩,
      ⟨rfl, rfl, rfl, skips .maintClose 0 ?_, rfl⟩, fun i => ⟨rfl, rfl, rfl, skips .openAll i ?_, rfl⟩,
      fun i => ⟨rfl, rfl, rfl, skips .isolateAll i ?_, rfl⟩, fun i => ⟨rfl, rfl, rfl, skips .deisolateAll i ?_, rfl⟩,
      fun i => ⟨rfl, rfl, rfl, skips .closeAll i ?_, rfl⟩, ⟨rfl, rfl, rfl, skips .maintOpen 0 ?_, rfl⟩,
      fun i => ⟨rfl, rfl, rfl, skips .toInverter i ?_, rfl⟩⟩ <;>
      simp [stepSkipped, Bool.or_assoc]

end Sys2Proof.Machine
end

section
/-! PROOF. Ramps and plan timers (R135 to R139): when a ramp step is judged, what a judgement does down and up, and the
expiry of the settle timer and of the match window. -/

namespace Sys2Proof.Machine

/-! When a ramp step is judged (R137). -/

section
variable {g : Nat} {p : Plan} {s : State}

theorem exec_rampStepJudgement_of_hand {c : Nat} {rest : List Nat} (opened : s.bridge = .opened)
    (hand : s.hand.ramp = c :: rest) :
    exec .rampStepJudgement s = .next (takeRampHand c (s.withHand { s.hand with ramp := rest })) := by
  refine congrArg Host.Outcome.next ((whenRunning_of_opened opened _).trans ?_)
  simp only [hand]

theorem takeRampHand_of_no_group {c : Nat} (none_group : groupOf? s c = none) : takeRampHand c s = s := by
  simp only [takeRampHand, none_group]

theorem takeRampHand_of_group {c : Nat} (group : groupOf? s c = some g) : takeRampHand c s = judgeRamp g s := by
  simp only [takeRampHand, group]

theorem intervalExpires_of_runOut {ra : Ramp} {w : Timer} (found : plan? s g = some p) (ramp : p.ramp = some ra)
    (runs : ra.timer = some w) (out : RunOut w s) : intervalExpires g s =
      judgeRamp g (setPlan g (some { p with ramp := some { ra with timer := none } }) s) := by
  simp only [intervalExpires, found, ramp, State.now, timerDue_of_runOut runs out, if_true]

theorem judgeRamp_of_not_ramping (other : ∀ p, plan? s g = some p → p.state ≠ .ramping) : judgeRamp g s = s := by
  unfold judgeRamp; split
  next p found =>
    split
    next ramping _ _ => exact absurd ramping (other p found)
    · rfl
  · rfl

section
variable {ra : Ramp} {t : Nat} {r : CabRec} (found : plan? s g = some p) (ramping : p.state = .ramping)
  (ramp : p.ramp = some ra) (target : p.target = some t) (record : cab? s t = some r)
include found ramping ramp target record

theorem judgeRamp_of_up (stage : p.stage = some .rampUp) : judgeRamp g s = judgeUp g p ra r s := by
  simp only [judgeRamp, found, ramping, ramp, target, record, if_pos stage]

theorem judgeRamp_of_down (stage : p.stage = some .rampDown) : judgeRamp g s = judgeDown g p ra t r s := by
  have down : p.stage ≠ some .rampUp := by rw [stage]; decide
  simp only [judgeRamp, found, ramping, ramp, target, record, if_neg down]

end

/-! The judgement of a ramp step (R137, R138). -/

/-- The fair share of a target as R138 reads: the load of the members ONLINE or ON_BATTERY over the ratings of those
ONLINE, the target's own among them. -/
theorem fairShare_eq (s : State) (g : Nat) (r : CabRec) : fairShare s g r =
    (((memberRecs s g).filter
      (fun m => decide (m.2.reported = some .online) || decide (m.2.reported = some .onBattery))).map
      (fun m => m.2.load * m.2.rating)).sum /
    ((((memberRecs s g).filter (fun m => decide (m.2.reported = some .online))).map (fun m => m.2.rating)).sum +
      if r.reported = some .online then 0 else r.rating) := by
  simp only [fairShare, groupLoad, parallelMembers, CabRec.inParallel, CabRec.reports_eq_decide, decide_eq_true_eq]

variable {ra : Ramp} {t : Nat} {r : CabRec}

/-- The judgement in RAMP_DOWN, as R137 reads. -/
theorem judgeDown_eq (g : Nat) (p : Plan) (ra : Ramp) (t : Nat) (r : CabRec) (s : State) : judgeDown g p ra t r s =
    if r.load ≤ ra.limit + (groupParams s g).matchTolerance then
      if ra.limit = 0 then endRamp g p ra s
      else if ra.timer = none then
        haltOr g ((silenceHalt s g).or (capacityHalt s g t (ra.limit - (groupParams s g).rampStep)))
          (issueRamp g p ra r (ra.limit - (groupParams s g).rampStep)) s
      else s
    else s := by
  simp only [judgeDown, downMatch, decide_eq_true_eq, Option.isNone_iff_eq_none]

/-- The judgement in RAMP_UP, as R138 reads. -/
theorem judgeUp_eq (g : Nat) (p : Plan) (ra : Ramp) (r : CabRec) (s : State) : judgeUp g p ra r s =
    if min ra.limit (fairShare s g r) ≤ r.load + (groupParams s g).matchTolerance then
      if r.restoreLimit ≤ ra.limit then endRamp g p ra s
      else if ra.timer = none then
        haltOr g (silenceHalt s g)
          (issueRamp g p ra r (min r.restoreLimit (ra.limit + (groupParams s g).rampStep))) s
      else s
    else s := by
  simp only [judgeUp, upMatch, decide_eq_true_eq, Option.isNone_iff_eq_none]

/-- The ramp record as the issue of a step leaves it (R137). -/
def Ramp.issued (ra : Ramp) (g : Nat) (s : State) : Ramp :=
  ⟨ra.limit, (groupParams s g).rampStep, (groupParams s g).rampInterval, some s.clock.ms,
    some ⟨s.clock.ms, (groupParams s g).rampInterval⟩, none⟩

theorem issueRamp_issues (found : plan? s g = some p) (ra : Ramp) (r : CabRec) (v : Nat) :
    Issues g { p with ramp := some (ra.issued g s) } .setShare r (some v) 0 s (issueRamp g p ra r v s) :=
  issueOrder_issues _ _ _ _ found

/-- A step due at the value `v` is issued when no member is SILENT and its check passes; otherwise the plan halts
(R137). -/
def StepJudged (g : Nat) (p : Plan) (ra : Ramp) (r : CabRec) (v : Nat) (passes : Prop) (s t : State) : Prop :=
  let silent := fun m => ∃ x, cab? s m = some x ∧ x.group = g ∧ x.liveness = .silent
  ((∀ m, ¬silent m) → passes →
    Issues g { p with ramp := some (ra.issued g s) } .setShare r (some v) 0 s t) ∧
  ((∀ m, ¬silent m) → ¬passes → Halts g p .capacity (some v) s t) ∧
  ∀ m, silent m → (∀ j < m, ¬silent j) → Halts g p .silent (some m) s t

theorem haltOr_stepJudged (found : plan? s g = some p) {v : Nat} {passes : Prop} {check : Option (HaltCause × Nat)}
    (good : passes → check = none) (bad : ¬passes → check = some (.capacity, v)) :
    StepJudged g p ra r v passes s (haltOr g ((silenceHalt s g).or check) (issueRamp g p ra r v) s) := by
  refine ⟨fun none_silent holds => ?_, fun none_silent fails => ?_, fun m silent before => ?_⟩
  · rw [silenceHalt_of_none none_silent, good holds]
    exact issueRamp_issues found ra r v
  · rw [silenceHalt_of_none none_silent, bad fails]
    exact haltPlan_halts _ _ found
  · rw [silenceHalt_of_lowest ⟨silent, before⟩]
    exact haltPlan_halts _ _ found

theorem issueRamp_stepJudged_down (found : plan? s g = some p) (t v : Nat) : StepJudged g p ra r v (carries s g t v) s
    (haltOr g ((silenceHalt s g).or (capacityHalt s g t v)) (issueRamp g p ra r v) s) :=
  haltOr_stepJudged found capacityHalt_of_carries capacityHalt_of_not_carries

/-- A step up has no capacity check (R138). -/
theorem issueRamp_stepJudged_up (found : plan? s g = some p) (v : Nat) : StepJudged g p ra r v True s
    (haltOr g (silenceHalt s g) (issueRamp g p ra r v) s) := by
  have judged := haltOr_stepJudged (ra := ra) (r := r) (v := v) found (fun _ : True => rfl)
    (fun never => absurd trivial never)
  rwa [Option.or_none] at judged

/-! The plan's other timers (R135, R139). -/

theorem settleExpires_of_runOut {w : Timer} (found : plan? s g = some p) (settling : p.state = .settling)
    (runs : p.settleTimer = some w) (out : RunOut w s) :
    settleExpires g s = setPlan g (some { p with state := .checking, settleTimer := none }) s := by
  simp only [settleExpires, found, State.now, if_pos (And.intro settling (timerDue_of_runOut runs out))]

theorem matchExpires_of_runOut {w : Timer} (found : plan? s g = some p) (ramping : p.state = .ramping)
    (ramp : p.ramp = some ra) (runs : ra.window = some w) (out : RunOut w s) (target : p.target = some t)
    (record : cab? s t = some r) : matchExpires g s = haltPlan g .noMatch (some r.load) s := by
  have window : p.ramp.bind (·.window) = some w := by rw [ramp]; exact runs
  simp only [matchExpires, found, State.now, if_pos (And.intro ramping (timerDue_of_runOut window out)), target,
    Option.bind_some, record, Option.map_some, Option.getD_some]

end

/-- Settles O41: the branch that each judgement and each expiry takes. -/
theorem rampsAndPlanTimers : Obligations.RampsAndPlanTimers := by
  refine ⟨fun c rest s opened hand => ?_, fun g p ra w s opened found ramp runs out => ?_,
    fun g s other => judgeRamp_of_not_ramping other, fun g p ra tgt r s found ramping ramp target record => ?_,
    fun g p w s opened found settling runs out => ?_,
    fun g p ra w tgt r s opened found ramping ramp runs out target record => ?_⟩
  · have taken := exec_rampStepJudgement_of_hand opened hand
    exact ⟨fun none_group => taken.trans (congrArg Host.Outcome.next (takeRampHand_of_no_group none_group)),
      fun g group => taken.trans (congrArg Host.Outcome.next (takeRampHand_of_group group))⟩
  · exact congrArg Host.Outcome.next ((whenRunning_of_opened opened _).trans
      (intervalExpires_of_runOut found ramp runs out))
  · intro gp t silent online inService fair done ended issued issues halts judged
    refine ⟨fun stage => ?_, fun stage => ?_⟩
    · intro matched
      have down : t = _ := (judgeRamp_of_down found ramping ramp target record stage).trans (judgeDown_eq ..)
      refine ⟨fun unmatched => down.trans (if_neg unmatched), fun holds last => ?_, fun holds more runs => ?_,
        fun holds more stopped => ?_⟩
      · rw [down, if_pos holds, if_pos last]; rfl
      · rw [down, if_pos holds, if_neg more.ne', if_neg (Option.isSome_iff_ne_none.mp runs)]
      · rw [if_pos holds, if_neg more.ne', if_pos stopped] at down
        exact (down ▸ issueRamp_stepJudged_down found tgt _ : StepJudged g p ra r _ _ s t)
    · intro matched
      have up : t = _ := (judgeRamp_of_up found ramping ramp target record stage).trans (judgeUp_eq ..)
      rw [fairShare_eq] at up
      refine ⟨fun unmatched => up.trans (if_neg unmatched), fun holds last => ?_, fun holds more runs => ?_,
        fun holds more stopped => ?_⟩
      · rw [up, if_pos holds, if_pos last]; rfl
      · rw [up, if_pos holds, if_neg more.not_ge, if_neg (Option.isSome_iff_ne_none.mp runs)]
      · rw [if_pos holds, if_neg more.not_ge, if_pos stopped] at up
        exact (up ▸ issueRamp_stepJudged_up found _ : StepJudged g p ra r _ _ s t)
  · exact congrArg Host.Outcome.next ((whenRunning_of_opened opened _).trans
      (settleExpires_of_runOut found settling runs out))
  · exact ⟨_, congrArg Host.Outcome.next ((whenRunning_of_opened opened _).trans
      (matchExpires_of_runOut found ramping ramp runs out target record)), haltPlan_halts _ _ found⟩

end Sys2Proof.Machine
end

section
/-! PROOF. Plan Request (R126 to R129): its checks, the starting condition of each kind, and the plan id it takes. -/

namespace Sys2Proof.Machine

/-! The checks (R127, R128), each as its rule reads. -/

/-- A Plan Request names a cabinet when its kind has a target, and none when it has none (R127). -/
def NamesItsTarget (k : PlanKind) : Option Nat → Prop
  | some c => (k = .withdraw ∨ k = .restore) ∧ c < 24
  | none => k = .groupToMaint ∨ k = .groupFromMaint

/-- The kind returns a cabinet to service that lies in the scope of a visit (R127). -/
def CoveredByVisit (s : State) (k : PlanKind) (g : Nat) (target : Option Nat) : Prop :=
  match k, target with
  | .restore, some c => cabCovered s c = true
  | .groupFromMaint, _ => ∃ m ∈ members s g, cabCovered s m = true
  | _, _ => False

/-- The group has members, and the cabinet named is one of them (R127). -/
def KnowsItsTarget (s : State) (g : Nat) (target : Option Nat) : Prop :=
  members s g ≠ [] ∧ ∀ c, target = some c → groupOf? s c = some g

theorem planBadValue_iff (k : PlanKind) (g : Nat) (target : Option Nat) :
    planBadValue k g target = true ↔ ¬(g < 4 ∧ NamesItsTarget k target) := by
  cases target <;> cases k <;> simp [planBadValue, PlanKind.hasTarget, NamesItsTarget, imp_iff_not_or]

theorem planNotFound_iff (s : State) (g : Nat) (target : Option Nat) :
    planNotFound s g target = true ↔ ¬KnowsItsTarget s g target := by
  cases target <;> simp [planNotFound, KnowsItsTarget, members, imp_iff_not_or]

theorem planBadValue_of_named {k : PlanKind} {g : Nat} {target : Option Nat} (named : g < 4 ∧ NamesItsTarget k target) :
    planBadValue k g target = false := Bool.eq_false_iff.mpr fun bad => (planBadValue_iff ..).mp bad named

theorem planNotFound_of_known {s : State} {g : Nat} {target : Option Nat} (known : KnowsItsTarget s g target) :
    planNotFound s g target = false := Bool.eq_false_iff.mpr fun absent => (planNotFound_iff ..).mp absent known

theorem planVisit_iff (s : State) (k : PlanKind) (g : Nat) (target : Option Nat) :
    planVisit s k g target = true ↔ CoveredByVisit s k g target := by
  cases k <;> cases target <;> simp [planVisit, CoveredByVisit]

/-! The starting conditions (R128). -/

/-- Settles O39: the condition of each kind, with the modes that `CabRec.reports` tests named. -/
theorem startingConditionsReadTheReportedModes : Obligations.StartingConditionsReadTheReportedModes := by
  intro s g c r record ms is
  have target : (some c).bind (cab? s) = some r := record
  have one : ∀ x l, is x l ↔ l.any x.reports = true := reports_one_iff
  have counts : ms.countP (fun x => decide (x.reported = some .online)) = ms.countP (·.reports .online) := by
    simp only [CabRec.reports_eq_decide]
  simp only [counts, one, startingCondition, target, Option.any_some, Bool.and_eq_true, decide_eq_true_eq,
    List.all_eq_true, Option.any_eq_true, List.any_cons, List.any_nil, Bool.or_false, Bool.or_assoc]
  exact ⟨Iff.rfl, trivial, Iff.rfl, Iff.rfl⟩

/-! The plan id (R126). -/

/-- A plan of the Plan Table holds the id. -/
def IdHeld (s : State) (n : Nat) : Prop := ∃ j p, plan? s j = some p ∧ p.id = n

/-- The id that stands `n` places behind the counter's value, with 255 followed by 1 (R126). -/
def idInTurn (s : State) (n : Nat) : Nat := (s.seq.nextPlan - 1 + n) % 255 + 1

theorem idInTurn_range (s : State) (n : Nat) : 1 ≤ idInTurn s n ∧ idInTurn s n ≤ 255 := by
  unfold idInTurn; omega

theorem idInTurn_zero {s : State} (low : 1 ≤ s.seq.nextPlan) (high : s.seq.nextPlan ≤ 255) :
    idInTurn s 0 = s.seq.nextPlan := by
  unfold idInTurn; omega

theorem idHeld_iff (s : State) (n : Nat) : (plansHeld s).any (fun p => p.id == n) = true ↔ IdHeld s n := by
  simp only [List.any_eq_true, mem_plansHeld_iff, beq_iff_eq, IdHeld]
  constructor
  · rintro ⟨p, ⟨j, found⟩, eq⟩; exact ⟨j, p, found, eq⟩
  · rintro ⟨j, p, found, eq⟩; exact ⟨p, ⟨j, found⟩, eq⟩

/-- Four slots hold at most four of the first five ids in turn. -/
theorem exists_id_not_held (s : State) : ∃ n < 5, ¬IdHeld s (idInTurn s n) := by
  by_contra all
  push Not at all
  have distinct : ((List.range 5).map (idInTurn s)).Nodup := by
    refine List.Nodup.map_on (fun a ha b hb eq => ?_) List.nodup_range
    rw [List.mem_range] at ha hb
    unfold idInTurn at eq
    omega
  have listed : (List.range 5).map (idInTurn s) ⊆ (plansHeld s).map (·.id) := fun x hx => by
    obtain ⟨n, hn, rfl⟩ := List.mem_map.mp hx
    obtain ⟨j, p, found, eq⟩ := all n (List.mem_range.mp hn)
    exact List.mem_map.mpr ⟨p, (mem_plansHeld_iff s p).mpr ⟨j, found⟩, eq⟩
  have few : (plansHeld s).length ≤ 4 := (List.length_filterMap_le ..).trans (by rw [Vector.length_toList])
  have many := (distinct.subperm listed).length_le
  simp only [List.length_map, List.length_range] at many
  omega

/-- An accepted plan takes the first id in turn that no slot holds (R126). -/
theorem takePlanId_spec (s : State) : ∃ n, takePlanId s = idInTurn s n ∧ ¬IdHeld s (idInTurn s n) ∧
    ∀ m < n, IdHeld s (idInTurn s m) := by
  have unheld_iff : ∀ n, (!(plansHeld s).any (fun p => p.id == idInTurn s n)) = true ↔ ¬IdHeld s (idInTurn s n) :=
    fun n => by rw [Bool.not_eq_true', ← Bool.not_eq_true, idHeld_iff]
  have taken : takePlanId s = (((List.range 255).find?
      (fun n => !(plansHeld s).any (fun p => p.id == idInTurn s n))).map (idInTurn s)).getD s.seq.nextPlan := by
    rw [takePlanId, List.find?_map]; rfl
  cases first : (List.range 255).find? (fun n => !(plansHeld s).any (fun p => p.id == idInTurn s n)) with
  | none =>
    obtain ⟨free, small, notHeld⟩ := exists_id_not_held s
    exact absurd ((unheld_iff free).mpr notHeld) (List.find?_eq_none.mp first free (List.mem_range.mpr (by omega)))
  | some n =>
    obtain ⟨unheld, -, before⟩ := List.find?_range_eq_some.mp first
    refine ⟨n, by rw [taken, first]; rfl, (unheld_iff n).mp unheld, fun m lower => ?_⟩
    exact by_contra fun notHeld => by simpa [(unheld_iff m).mpr notHeld] using before m lower

/-! The request (R127, R129). -/

section
variable {kind g : Nat} {k : PlanKind} {target : Option Nat} {s : State}

theorem planRequestEffect_of_unconfigured (unconf : s.resp.mode = .unconfigured) :
    planRequestEffect kind g target s = (s, replyRefused 23 .mode) :=
  refuseIf_true _ _ _ (by rw [State.supervising, unconf]; rfl)

variable (sup : s.resp.mode = .supervising)
include sup

theorem planRequestEffect_of_no_kind (uncoded : PlanKind.ofCode kind = none) :
    planRequestEffect kind g target s = (s, replyRefused 23 .badValue) :=
  (refuseIf_mode_of_supervising sup _ _).trans (by rw [uncoded])

/-- The state and the answer of an accepted request: the plan fills the slot of its group (R129). -/
def acceptPlan (k : PlanKind) (g : Nat) (target : Option Nat) (s : State) : State × ManageReply :=
  (s.withSeq { s.seq with
      nextPlan := nextPlanId (takePlanId s)
      plans := s.seq.plans.setIfInBounds g (some (newPlan (takePlanId s) k g target)) },
    replyWith 23 (.planId (takePlanId s)))

variable (coded : PlanKind.ofCode kind = some k)
include coded

theorem planRequestEffect_of_kind : planRequestEffect kind g target s =
    refuseIf (planBadValue k g target) (replyRefused 23 .badValue)
      (refuseIf (planNotFound s g target) (replyRefused 23 .notFound)
        (refuseIf (plan? s g).isSome (replyRefused 23 .busy)
          (refuseIf (planVisit s k g target) (replyRefused 23 .visit)
            (refuseIf (!startingCondition s k g target) (replyRefused 23 .state) (acceptPlan k g target))))) s :=
  (refuseIf_mode_of_supervising sup _ _).trans (by rw [coded]; rfl)

theorem planRequestEffect_of_bad_value (bad : ¬(g < 4 ∧ NamesItsTarget k target)) :
    planRequestEffect kind g target s = (s, replyRefused 23 .badValue) :=
  (planRequestEffect_of_kind sup coded).trans (refuseIf_true _ _ _ ((planBadValue_iff ..).mpr bad))

variable (named : g < 4 ∧ NamesItsTarget k target)
include named

theorem planRequestEffect_of_not_found (absent : ¬KnowsItsTarget s g target) :
    planRequestEffect kind g target s = (s, replyRefused 23 .notFound) := by
  rw [planRequestEffect_of_kind sup coded, refuseIf_false _ _ _ (planBadValue_of_named named),
    refuseIf_true _ _ _ ((planNotFound_iff ..).mpr absent)]

variable (known : KnowsItsTarget s g target)
include known

theorem planRequestEffect_of_busy (busy : plan? s g ≠ none) :
    planRequestEffect kind g target s = (s, replyRefused 23 .busy) := by
  rw [planRequestEffect_of_kind sup coded, refuseIf_false _ _ _ (planBadValue_of_named named),
    refuseIf_false _ _ _ (planNotFound_of_known known), refuseIf_true _ _ _ (Option.isSome_iff_ne_none.mpr busy)]

variable (free : plan? s g = none)
include free

/-- With a free slot the last two checks are left. -/
theorem planRequestEffect_of_free : planRequestEffect kind g target s =
    refuseIf (planVisit s k g target) (replyRefused 23 .visit)
      (refuseIf (!startingCondition s k g target) (replyRefused 23 .state) (acceptPlan k g target)) s := by
  rw [planRequestEffect_of_kind sup coded, refuseIf_false _ _ _ (planBadValue_of_named named),
    refuseIf_false _ _ _ (planNotFound_of_known known), refuseIf_false _ _ _ (by rw [free]; rfl)]

theorem planRequestEffect_of_visit (covered : CoveredByVisit s k g target) :
    planRequestEffect kind g target s = (s, replyRefused 23 .visit) :=
  (planRequestEffect_of_free sup coded named known free).trans (refuseIf_true _ _ _ ((planVisit_iff ..).mpr covered))

variable (away : ¬CoveredByVisit s k g target)
include away

theorem planRequestEffect_of_condition : planRequestEffect kind g target s =
    if startingCondition s k g target then acceptPlan k g target s else (s, replyRefused 23 .state) := by
  rw [planRequestEffect_of_free sup coded named known free,
    refuseIf_false _ _ _ (Bool.eq_false_iff.mpr (mt (planVisit_iff ..).mp away)), refuseIf]
  cases startingCondition s k g target <;> rfl

end

theorem nextPlanId_eq {id : Nat} (inRange : 1 ≤ id ∧ id ≤ 255) : nextPlanId id = if id = 255 then 1 else id + 1 := by
  unfold nextPlanId
  split <;> omega

theorem plan?_acceptPlan (k : PlanKind) (g : Nat) (target : Option Nat) (s : State) (j : Nat) :
    plan? (acceptPlan k g target s).1 j =
      if g = j ∧ g < 4 then some (newPlan (takePlanId s) k g target) else plan? s j :=
  join_set ..

/-- Settles O38: each refusal is the first check that fails, and an accepted plan takes the id of `takePlanId_spec`. -/
theorem planRequestFillsTheSlot : Obligations.PlanRequestFillsTheSlot := by
  intro kind g target f s takes u got refused
  refine ⟨fun unconf => next_request_of_effect takes (planRequestEffect_of_unconfigured unconf),
    fun sup uncoded => next_request_of_effect takes (planRequestEffect_of_no_kind sup uncoded), fun k sup coded => ?_⟩
  intro named found free covered
  replace sup : u.resp.mode = .supervising := sup
  refine ⟨fun bad => next_request_of_effect takes (planRequestEffect_of_bad_value sup coded bad),
    fun inside names absent => next_request_of_effect takes
      (planRequestEffect_of_not_found sup coded ⟨inside, names⟩ absent),
    fun inside names known busy => next_request_of_effect takes
      (planRequestEffect_of_busy sup coded ⟨inside, names⟩ known busy),
    fun inside names known empty cover => next_request_of_effect takes
      (planRequestEffect_of_visit sup coded ⟨inside, names⟩ known empty cover),
    fun inside names known empty away fails => next_request_of_effect takes
      ((planRequestEffect_of_condition sup coded ⟨inside, names⟩ known empty away).trans
        (if_neg (Bool.eq_false_iff.mp fails))),
    fun inside names known empty away starts => ?_⟩
  have accepted := (planRequestEffect_of_condition sup coded ⟨inside, names⟩ known empty away).trans (if_pos starts)
  obtain ⟨n, inTurn, notHeld, before⟩ := takePlanId_spec u
  have inRange : 1 ≤ takePlanId u ∧ takePlanId u ≤ 255 := inTurn ▸ idInTurn_range u n
  refine ⟨_, takePlanId u, next_request_of_effect takes accepted, (plan?_acceptPlan ..).trans (if_pos ⟨rfl, inside⟩),
    fun j other => (plan?_acceptPlan ..).trans (if_neg fun same => other same.1.symm), nextPlanId_eq inRange, rfl, rfl,
    only_withSeq u _, fun low high =>
      ⟨inRange.1, inRange.2, inTurn ▸ notHeld, fun counterFree => ?_, n, inTurn, before⟩⟩
  have first : idInTurn u 0 = s.seq.nextPlan := idInTurn_zero (s := u) low high
  have atOnce : n = 0 := by_contra fun later => counterFree (first ▸ before 0 (Nat.pos_of_ne_zero later))
  rw [inTurn, atOnce, first]

end Sys2Proof.Machine
end

section
/-! PROOF. Plan Resume and Plan Abandon (R141, R142). -/

namespace Sys2Proof.Machine

section
variable {code id g : Nat} {p : Plan} {s : State}

theorem onPlan_of_found (sup : s.resp.mode = .supervising) (found : planById s id = some (g, p))
    (act : Nat → Plan → State → State × ManageReply) : onPlan code id act s = act g p s :=
  (refuseIf_mode_of_supervising sup _ _).trans (by simp only [found])

/-- A late DONE outside a ramp stage lets the plan settle; otherwise its step is to be done again (R141). -/
theorem Plan.resume_eq (p : Plan) (now : Word32) : p.resume now =
    (if p.lateSinceHalt = true ∧ ¬(p.stage = some .rampDown ∨ p.stage = some .rampUp) then
      { p with haltCause := none, haltDetail := none, lateSinceHalt := false }.settleFrom now
    else { p with
      haltCause := none, haltDetail := none, lateSinceHalt := false, state := .checking, stepDone := false }) := by
  have settles : (p.lateSinceHalt && !p.inRamp) = true ↔
      p.lateSinceHalt = true ∧ ¬(p.stage = some .rampDown ∨ p.stage = some .rampUp) := by
    rw [Bool.and_eq_true, Bool.not_eq_true', ← Bool.not_eq_true, Plan.inRamp_iff]
  exact if_congr settles rfl rfl

theorem resumePlan_eq (g : Nat) (p : Plan) (s : State) : resumePlan g p s = clear codePlanHalted (.group g) { s with
    seq := { s.seq with plans := s.seq.plans.setIfInBounds g (some (p.resume s.clock.ms)) }
    tracker := { s.tracker with orders := s.tracker.orders.filter (fun e => !(e.origin == .plan && e.slot == some g)) } } :=
  rfl

theorem abandonPlan_eq (g : Nat) (p : Plan) (s : State) :
    let freed : State := { s with
      seq := { s.seq with plans := s.seq.plans.setIfInBounds g none }
      tracker := { s.tracker with orders := s.tracker.orders.filter (fun e => !(e.origin == .plan && e.slot == some g)) }
      prio := s.prio.filter (fun x => x.slot != g) }
    abandonPlan g p s = if p.state = .halted then clear codePlanHalted (.group g) freed else freed := by
  dsimp only [abandonPlan]
  split <;> rfl

end

/-- Settles O42: the acts of `resumePlan_eq` and of `abandonPlan_eq` on the plan that the id names. -/
theorem resumeAndAbandonActOnThePlan : Obligations.ResumeAndAbandonActOnThePlan := by
  refine ⟨fun id g p f s takes sup found => ?_, fun id g p f s takes sup found => ?_⟩
  · intro u q inRamp next kept
    have asked : planResumeEffect id u = _ := onPlan_of_found (s := u) sup found _
    refine ⟨fun other => next_request_of_effect takes (asked.trans (refuseIf_true _ _ _ (by simpa using other))),
      fun halted => ?_⟩
    have resumed : p.resume s.clock.ms = next := p.resume_eq s.clock.ms
    rw [refuseIf_false _ _ _ (by simpa using halted), resumePlan_eq] at asked
    refine next_request_of_effect takes (asked.trans ?_)
    rw [← resumed]
    rfl
  · intro kept freed
    have asked : planAbandonEffect id (dropHead .s s) = _ := onPlan_of_found (s := dropHead .s s) sup found _
    exact next_request_of_effect takes (asked.trans (congrArg (·, replyOk 25) (abandonPlan_eq g p (dropHead .s s))))

end Sys2Proof.Machine
end

section
/-! PROOF. Read Plan, Read Visit and Read Port Counters (R145, R162, R173). -/

namespace Sys2Proof.Machine

section
variable {g : Nat} {s : State} (sup : s.resp.mode = .supervising)
include sup

theorem readPlanEffect_of_out (out : 4 ≤ g) : readPlanEffect g s = (s, replyRefused 26 .badValue) :=
  (refuseIf_mode_of_supervising sup _ _).trans (refuseIf_true _ _ _ (decide_eq_true out))

theorem readPlanEffect_of_free (inside : g < 4) (free : plan? s g = none) :
    readPlanEffect g s = (s, replyWith 26 (.plan none none none none)) := by
  refine (refuseIf_mode_of_supervising sup _ _).trans ((refuseIf_false _ _ _ (decide_eq_false (by omega))).trans ?_)
  simp only [free]; rfl

theorem readPlanEffect_of_found {p : Plan} (found : plan? s g = some p) : readPlanEffect g s = (s, replyWith 26
    (.plan (some p) (p.settleTimer.map (·.left s.now)) ((p.ramp.bind (·.timer)).map (·.left s.now))
      ((p.ramp.bind (·.window)).map (·.left s.now)))) := by
  have inside := plan?_lt found
  refine (refuseIf_mode_of_supervising sup _ _).trans ((refuseIf_false _ _ _ (decide_eq_false (by omega))).trans ?_)
  simp only [found]; rfl

theorem readVisitEffect_of_zero : readVisitEffect 0 s = (s, replyWith 31 (.visitSummary (visitSummary s))) :=
  (refuseIf_mode_of_supervising sup _ _).trans (if_pos rfl)

theorem readVisitEffect_of_found {id k : Nat} {v : Visit} (one : id ≠ 0) (found : visitById s id = some (k, v)) :
    readVisitEffect id s = (s, replyWith 31 (.visit v (runningLeft v.prepareTimer s.now)
      (runningLeft v.durationTimer s.now) (runningLeft v.closeTimer s.now)
      (s.visits.forceClose.filter (fun p => p.2 == id)))) := by
  refine (refuseIf_mode_of_supervising sup _ _).trans ((if_neg one).trans ?_)
  simp only [found]

end

/-- Settles O52: each read answers with what stands, and the clear of the counters alone writes. -/
theorem planVisitAndCounterReads : Obligations.PlanVisitAndCounterReads := by
  intro n f s u gives refused left zero
  refine ⟨fun takes sup => ?_, fun takes sup => ?_, ?_⟩
  · replace sup : u.resp.mode = .supervising := sup
    exact ⟨fun out => next_request_of_effect takes (readPlanEffect_of_out sup out),
      fun inside free => next_request_of_effect takes (readPlanEffect_of_free sup inside free),
      fun p found => next_request_of_effect takes (readPlanEffect_of_found sup found)⟩
  · replace sup : u.resp.mode = .supervising := sup
    refine ⟨?_, fun k v one found => next_request_of_effect takes (readVisitEffect_of_found sup one found)⟩
    rintro rfl
    exact next_request_of_effect takes (readVisitEffect_of_zero sup)
  · intro read
    exact ⟨fun takes => next_request_of_effect takes rfl, fun takes => next_request_of_effect takes rfl⟩

end Sys2Proof.Machine
end

section
/-! PROOF. The visits that stand after a command (R147 to R160): each stood before it, in its place, under its id and with its
scopes, but for the one that a Visit Open puts in a free entry. So the scopes of the visits stay disjoint (R150). -/

namespace Sys2Proof.Machine

/-! What a scope question asks (R150, R161). -/

theorem cabCovered_iff (s : State) (c : Nat) : cabCovered s c = true ↔
    ∃ k v, visitEntry? s k = some v ∧ v.state.covers = true ∧ c ∈ v.cabinets := by
  simp only [cabCovered, List.any_eq_true, mem_visitsIn_iff, List.contains_iff_mem]
  exact ⟨fun ⟨v, ⟨k, held, live⟩, inScope⟩ => ⟨k, v, held, live, inScope⟩,
    fun ⟨k, v, held, live, inScope⟩ => ⟨v, ⟨k, held, live⟩, inScope⟩⟩

theorem strCovered_iff (s : State) (i : Nat) : strCovered s i = true ↔
    ∃ k v, visitEntry? s k = some v ∧ v.state.covers = true ∧ i ∈ v.strings := by
  simp only [strCovered, List.any_eq_true, mem_visitsIn_iff, List.contains_iff_mem]
  exact ⟨fun ⟨v, ⟨k, held, live⟩, inScope⟩ => ⟨k, v, held, live, inScope⟩,
    fun ⟨k, v, held, live, inScope⟩ => ⟨v, ⟨k, held, live⟩, inScope⟩⟩

/-- A search of the register finds nothing exactly when no entry passes its test. -/
theorem findVisit_eq_none_iff (s : State) (p : Visit → Bool) :
    findVisit s p = none ↔ ∀ k v, visitEntry? s k = some v → p v = false := by
  constructor
  · intro absent k v held
    have place := List.findSome?_eq_none_iff.mp absent k (List.mem_range.mpr (visitEntry?_lt held))
    simpa [held, Option.filter] using place
  · intro fails
    refine List.findSome?_eq_none_iff.mpr fun k _ => ?_
    cases held : visitEntry? s k with
    | none => rfl
    | some v => simp [fails k v held, Option.filter]

theorem visitById_eq_none_iff (s : State) (id : Nat) :
    visitById s id = none ↔ ∀ k v, visitEntry? s k = some v → v.id ≠ id := by
  simp only [visitById, findVisit_eq_none_iff, beq_eq_false_iff_ne]

/-! The relation. -/

/-- A visit has the id and the scopes of another, and covers them when that does (R147, R150). -/
structure Visit.SameScope (w v : Visit) : Prop where
  id : w.id = v.id
  cabinets : w.cabinets = v.cabinets
  strings : w.strings = v.strings
  covers : w.state.covers = v.state.covers

/-- Every visit that stands in `t` stood in `s`, in the same place and with the same scopes. -/
structure VisitsKept (s t : State) : Prop where
  stood : ∀ k w, visitEntry? t k = some w → ∃ v, visitEntry? s k = some v ∧ w.SameScope v

theorem VisitsKept.refl (s : State) : VisitsKept s s := ⟨fun _ w held => ⟨w, held, rfl, rfl, rfl, rfl⟩⟩

theorem VisitsKept.trans {s t u : State} (h : VisitsKept s t) (k : VisitsKept t u) : VisitsKept s u := by
  refine ⟨fun j w held => ?_⟩
  obtain ⟨x, stood, same⟩ := k.stood j w held
  obtain ⟨v, before, as⟩ := h.stood j x stood
  exact ⟨v, before, same.id.trans as.id, same.cabinets.trans as.cabinets, same.strings.trans as.strings,
    same.covers.trans as.covers⟩

theorem VisitsKept.ite {s t u : State} {c : Prop} [Decidable c] (h : VisitsKept s t) (k : VisitsKept s u) :
    VisitsKept s (if c then t else u) := by
  split <;> assumption

/-- The Force Close list is no entry of the register. -/
theorem VisitsKept.of_entries {s t : State} (h : t.visits.entries = s.visits.entries) : VisitsKept s t :=
  ⟨fun k w held => (VisitsKept.refl s).stood k w (by rwa [visitEntry?, h] at held)⟩

theorem Only.visitsKept {fs : List Field} {s t : State} (h : Only fs s t) (noVisits : .visits ∉ fs) : VisitsKept s t :=
  .of_entries (congrArg VisitRegister.entries (h.same .visits noVisits))

/-- An act at the Alarm Unit. -/
theorem Moves.visitsKept_of_alarm {s t : State} (h : Moves [.alarm] s t) : VisitsKept s t :=
  h.only.visitsKept (by decide)

/-! Writes of the register. -/

theorem setVisit_none_visitsKept (k : Nat) (s : State) : VisitsKept s (setVisit k none s) := by
  refine ⟨fun j w held => ?_⟩
  rw [visitEntry?_setVisit] at held
  split at held
  · cases held
  · exact (VisitsKept.refl s).stood j w held

theorem setVisit_some_visitsKept {s : State} {k : Nat} {v w : Visit} (found : visitEntry? s k = some v)
    (same : w.SameScope v) : VisitsKept s (setVisit k (some w) s) := by
  refine ⟨fun j x held => ?_⟩
  rw [visitEntry?_setVisit] at held
  split at held
  next here => exact ⟨v, here.1 ▸ found, Option.some.inj held ▸ same⟩
  · exact (VisitsKept.refl s).stood j x held

theorem leaveRegister_visitsKept (k : Nat) (v : Visit) (final : VisitState) (byDoors : Bool) (s : State) :
    VisitsKept s (leaveRegister k v final byDoors s) :=
  (setVisit_none_visitsKept k s).trans
    (.of_entries (congrArg VisitRegister.entries (leaveRegister_leaves k v final byDoors s).visits))

section
variable {s : State} {k : Nat} {v : Visit} (found : visitEntry? s k = some v)
include found

theorem judgePreparing_visitsKept (preparing : v.state = .preparing) : VisitsKept s (judgePreparing k v s) := by
  have activates : ∀ w : Visit, w.SameScope v → VisitsKept s (visitNotice w .active (setVisit k (some w) s)) :=
    fun w same => (setVisit_some_visitsKept found same).trans (visitNotice_moves ..).visitsKept_of_alarm
  refine .ite (activates _ ⟨rfl, rfl, rfl, ?_⟩) (.refl s)
  rw [preparing]; rfl

theorem closeVisit_visitsKept (active : v.state = .active) : VisitsKept s (closeVisit k v s) := by
  have closing : ∀ w : Visit, w.SameScope v → VisitsKept s (visitNotice w .closing (setVisit k (some w) s)) :=
    fun w same => (setVisit_some_visitsKept found same).trans (visitNotice_moves ..).visitsKept_of_alarm
  have live : VisitState.covers .closing = v.state.covers := by rw [active]; rfl
  unfold closeVisit; dsimp only; split
  · refine VisitsKept.trans ?_ (leaveRegister_visitsKept ..)
    exact closing _ ⟨rfl, rfl, rfl, live⟩
  · exact closing _ ⟨rfl, rfl, rfl, live⟩

end

theorem placeForce_visitsKept (v : Visit) (s : State) : VisitsKept s (placeForce v s) := .of_entries rfl

theorem forceCloseVisit_visitsKept (k : Nat) (v : Visit) (s : State) : VisitsKept s (forceCloseVisit k v s) :=
  (raiseOpenDoors_moves v s).visitsKept_of_alarm.trans
    ((placeForce_visitsKept v _).trans (leaveRegister_visitsKept k v .closed false _))

/-! Hand-offs and timers. -/

theorem judgeClosingDoor_visitsKept (k : Nat) (v : Visit) (c : Nat) (d : Door) (s : State) :
    VisitsKept s (judgeClosingDoor k v c d s) := by
  unfold judgeClosingDoor; split
  · exact (clear_moves ..).visitsKept_of_alarm.trans (.ite (leaveRegister_visitsKept ..) (.refl _))
  · exact .ite (raise_moves ..).visitsKept_of_alarm (.refl s)

theorem visitWork_visitsKept (h : VisitHand) (s : State) : VisitsKept s (visitWork h s) := by
  unfold visitWork; split
  next k v found =>
    split
    next preparing => exact judgePreparing_visitsKept (findVisit_some found).1 preparing
    · exact (judgeCondition_moves ..).visitsKept_of_alarm
    · exact (judgeCondition_moves ..).visitsKept_of_alarm.trans (judgeClosingDoor_visitsKept ..)
    · exact .refl s
  · exact .refl s

/-- The door judgement releases pairs of the Force Close list alone (R160). -/
theorem doorJudgement_visitsKept (c : Nat) (d : Door) (s : State) : VisitsKept s (doorJudgement c d s) := by
  unfold doorJudgement; split
  · split
    · exact .refl s
    · exact (clear_moves ..).visitsKept_of_alarm
  · split
    · exact (raise_moves ..).visitsKept_of_alarm
    · exact .of_entries rfl
    · exact (raise_moves ..).visitsKept_of_alarm
    · exact (clear_moves ..).visitsKept_of_alarm

theorem prepareExpires_visitsKept (id : Nat) (s : State) : VisitsKept s (prepareExpires id s) := by
  unfold prepareExpires; split
  · exact .ite (leaveRegister_visitsKept ..) (.refl s)
  · exact .refl s

theorem durationExpires_visitsKept (id : Nat) (s : State) : VisitsKept s (durationExpires id s) := by
  unfold durationExpires; split
  next k v found =>
    exact .ite ((setVisit_some_visitsKept (findVisit_some found).1 (by exact ⟨rfl, rfl, rfl, rfl⟩)).trans
      (raise_moves ..).visitsKept_of_alarm) (.refl s)
  · exact .refl s

theorem closeExpires_visitsKept (id : Nat) (s : State) : VisitsKept s (closeExpires id s) := by
  unfold closeExpires; split
  next k v found =>
    exact .ite ((setVisit_some_visitsKept (findVisit_some found).1 (by exact ⟨rfl, rfl, rfl, rfl⟩)).trans
      (raiseOpenDoors_moves ..).visitsKept_of_alarm) (.refl s)
  · exact .refl s

/-! The commands. -/

theorem stopEffect_visitsKept (s : State) : VisitsKept s (stopEffect s).1 := by
  refine refuseIf_keeps (P := VisitsKept s) _ _ (.refl s) (refuseIf_keeps _ _ (.refl s) (.of_entries ?_))
  rw [stopSupervision_visits]

theorem visitEntry?_reset (k : Nat) : visitEntry? State.reset k = none := getElem?_replicate_none_join 8 k

/-- Every command but a Visit Open keeps the visits or ends them. -/
theorem exec_visitsKept {i : Instr} {s t : State} (h : exec i s = .next t) (noOpen : ∀ r, i ≠ .visitOpen r) :
    VisitsKept s t := by
  have requested : ∀ {code : Nat} {form : FieldForm} {effect : State → State × ManageReply},
      request code form effect s = t → (∀ u, VisitsKept u (effect u).1) → VisitsKept s t := fun e acts =>
    exec_request_keeps (P := VisitsKept s) (congrArg _ e) (fun _ _ only kept => kept.trans (only.visitsKept (by decide)))
      (.refl s) (fun u kept => kept.trans (acts u))
  have onVisits : ∀ {code id : Nat} {allowed : VisitState → Bool} {act : Nat → Visit → State → State × ManageReply},
      (∀ k v u, visitEntry? u k = some v → allowed v.state = true → VisitsKept u (act k v u).1) →
      ∀ u, VisitsKept u (onVisit code id allowed act u).1 := fun acts u => by
    refine refuseIf_keeps (P := VisitsKept u) _ _ (.refl u) ?_
    split
    · exact .refl u
    next k v found =>
      exact refuseIf_keeps_of_passed _ _ (.refl u) (fun may => acts k v u (findVisit_some found).1 (by simpa using may))
  cases isReset : isFullReset i with
  | true =>
    rcases exec_fullReset_only h isReset with rfl | reset
    · exact .refl _
    · refine ⟨fun k w held => ?_⟩
      have none := visitEntry?_reset k
      rw [visitEntry?, show t.visits = State.reset.visits from reset.same .visits (by decide)] at held
      cases none.symm.trans held
  | false =>
    cases i with
    | powerOn | resetLineReleased | fullResetTaken => cases isReset
    | visitOpen r => exact absurd rfl (noOpen r)
    | siteOrderJudgement =>
      rcases exec_siteOrderJudgement_cases h with rfl | ⟨f, -, rfl⟩
      · exact .refl _
      · exact ((dropHead_moves .s s).only.visitsKept (by decide)).trans ((judgeOrder_only f _).visitsKept (by decide))
    | visitHandOff =>
      refine exec_running_keeps h (.refl s) ?_
      dsimp only; split
      next hand rest _ =>
        exact ((only_withHand ..).visitsKept (by decide)).trans
          ((visitWork_visitsKept hand _).trans (doorJudgement_visitsKept ..))
      · exact .refl s
    | prepareTimerExpiry id => exact exec_running_keeps h (.refl s) (prepareExpires_visitsKept id s)
    | durationTimerExpiry id => exact exec_running_keeps h (.refl s) (durationExpires_visitsKept id s)
    | closeTimerExpiry id => exact exec_running_keeps h (.refl s) (closeExpires_visitsKept id s)
    | stopSupervision => exact requested (Host.Outcome.next.inj h) stopEffect_visitsKept
    | visitClose id =>
      exact requested (Host.Outcome.next.inj h) (onVisits fun _ _ _ found active =>
        closeVisit_visitsKept found (beq_iff_eq.mp active))
    | visitForceClose id =>
      exact requested (Host.Outcome.next.inj h) (onVisits fun k v u _ _ => forceCloseVisit_visitsKept k v u)
    | visitCancel id =>
      exact requested (Host.Outcome.next.inj h) (onVisits fun k v u _ _ => leaveRegister_visitsKept k v .cancelled false u)
    | replyWindowExpiry k | completionWindowExpiry k =>
      refine (exec_moves h rfl (by nofun)).only.visitsKept ?_
      dsimp only [touches]
      cases k.origin <;> decide
    | transmitTake p | frameSent p | abandonedTx p =>
      refine (exec_moves h rfl (by nofun)).only.visitsKept ?_
      cases p <;> decide
    | watchExpiry n =>
      refine (exec_moves h rfl (by nofun)).only.visitsKept ?_
      cases n <;> simp [touches]
    | _ =>
      refine (exec_moves h rfl (by nofun)).only.visitsKept ?_
      simp [touches, requestFields, planFields, portField_ne_visits]

/-! A Visit Open (R149 to R151). -/

theorem freeEntry_eq_some_iff (s : State) (k : Nat) :
    freeEntry s = some k ↔ k < 8 ∧ visitEntry? s k = none ∧ ∀ j < k, visitEntry? s j ≠ none := by
  rw [freeEntry, List.find?_range_eq_some]
  simp only [Option.isNone_iff_eq_none, List.mem_range, Bool.not_eq_true', Option.isNone_eq_false_iff,
    ← Option.ne_none_iff_isSome]
  exact and_left_comm

theorem mem_cabinetScope_iff (r : VisitReq) (c : Nat) : c ∈ cabinetScope r ↔ c < 24 ∧ c ∈ r.cabinets := by
  simp [cabinetScope]

theorem mem_stringScope_iff (r : VisitReq) (i : Nat) : i ∈ stringScope r ↔ i < 32 ∧ i ∈ r.strings := by
  simp [stringScope]

theorem offending_eq_none_iff (r : VisitReq) (cab str : Nat → Bool) : offending r cab str = none ↔
    (∀ c ∈ cabinetScope r, cab c = false) ∧ ∀ i ∈ stringScope r, str i = false := by
  simp [offending, List.find?_eq_none]

/-- What a Visit Open that is accepted has found, and what it does: a free entry, an id that no visit has, a scope that no
visit covers and no plan returns to service; the steps of R151 on the record of the request. -/
structure VisitOpens (r : VisitReq) (k : Nat) (d : Depth) (s t : State) : Prop where
  free : freeEntry s = some k
  fresh : visitById s r.id = none
  apart : overlapOffender s r = none
  quiet : conflictOffender s r = none
  opens : t = openVisit k (preparingVisit s r d) s

theorem refuseOffender_cases {P : State → Prop} {o : Option Nat} {c : Cause} {rest : State → State × ManageReply}
    {s : State} (inv : P s) (h : o = none → P (rest s).1) : P (refuseOffender o c rest s).1 := by
  unfold refuseOffender; split
  · exact inv
  · exact h rfl

theorem visitOpenEffect_cases (r : VisitReq) (s : State) :
    (visitOpenEffect r s).1 = s ∨ ∃ k d, VisitOpens r k d s (visitOpenEffect r s).1 := by
  refine refuseIf_keeps (P := fun t => t = s ∨ ∃ k d, VisitOpens r k d s t) _ _ (.inl rfl) ?_
  dsimp only; split
  · exact .inl rfl
  next d _ =>
    refine refuseIf_keeps (P := fun t => t = s ∨ ∃ k d, VisitOpens r k d s t) _ _ (.inl rfl) ?_
    split
    · exact .inl rfl
    next k free =>
      refine refuseIf_keeps_of_passed (P := fun t => t = s ∨ ∃ k d, VisitOpens r k d s t) _ _ (.inl rfl) fun fresh => ?_
      refine refuseOffender_keeps (P := fun t => t = s ∨ ∃ k d, VisitOpens r k d s t) _ _ (.inl rfl) ?_
      refine refuseOffender_cases (P := fun t => t = s ∨ ∃ k d, VisitOpens r k d s t) (.inl rfl) fun apart => ?_
      refine refuseOffender_cases (P := fun t => t = s ∨ ∃ k d, VisitOpens r k d s t) (.inl rfl) fun quiet => ?_
      exact .inr ⟨k, d, free, by simpa using fresh, apart, quiet, rfl⟩

/-- The steps of an accepted Visit Open keep the visit that enters as they keep the others. -/
theorem openVisit_visitsKept {s : State} {k : Nat} (place : k < 8) (r : VisitReq) (d : Depth) :
    VisitsKept (setVisit k (some (preparingVisit s r d)) s) (openVisit k (preparingVisit s r d) s) := by
  let v := preparingVisit s r d
  have released : (releaseScoped v.cabinets (setVisit k (some v) s)).visits.entries =
      (setVisit k (some v) s).visits.entries :=
    foldl_keeps (P := fun u => u.visits.entries = (setVisit k (some v) s).visits.entries) (by exact fun _ _ kept => kept) _
      rfl
  have told : visitEntry? (visitNotice v .preparing (releaseScoped v.cabinets (setVisit k (some v) s))) k = some v := by
    rw [visitNotice, visitEntry_queueNotice, visitEntry?, released]
    exact (visitEntry?_setVisit ..).trans (if_pos ⟨rfl, place⟩)
  exact (VisitsKept.of_entries released).trans ((visitNotice_moves ..).visitsKept_of_alarm.trans
    (judgePreparing_visitsKept told rfl))

/-! The scopes stay disjoint (R150). -/

theorem VisitsKept.disjoint {s t : State} (kept : VisitsKept s t) (inv : VisitsDisjoint s) : VisitsDisjoint t := by
  refine ⟨fun k w held => ?_, fun j k v w hv hw same => ?_, fun j k v w c hv hw inV inW => ?_,
    fun j k v w i hv hw inV inW => ?_⟩
  · obtain ⟨v, stood, as⟩ := kept.stood k w held
    rw [as.covers]; exact inv.live k v stood
  all_goals
    obtain ⟨x, stoodV, asV⟩ := kept.stood j v hv
    obtain ⟨y, stoodW, asW⟩ := kept.stood k w hw
  · exact inv.ids j k x y stoodV stoodW (asV.id.symm.trans (same.trans asW.id))
  · exact inv.cabinets j k x y c stoodV stoodW (asV.cabinets ▸ inV) (asW.cabinets ▸ inW)
  · exact inv.strings j k x y i stoodV stoodW (asV.strings ▸ inV) (asW.strings ▸ inW)

/-- A cabinet that a visit covers was covered before. -/
theorem VisitsKept.cabCovered {s t : State} (kept : VisitsKept s t) {c : Nat} (covered : cabCovered t c = true) :
    Machine.cabCovered s c = true := by
  obtain ⟨k, w, held, live, inScope⟩ := (cabCovered_iff t c).mp covered
  obtain ⟨v, stood, as⟩ := kept.stood k w held
  exact (cabCovered_iff s c).mpr ⟨k, v, stood, as.covers ▸ live, as.cabinets ▸ inScope⟩

/-- No visit meets a scope that passed the checks of a Visit Open (R149, R150). -/
theorem VisitOpens.meets_none {r : VisitReq} {k : Nat} {d : Depth} {s t : State} (h : VisitOpens r k d s t)
    (inv : VisitsDisjoint s) {j : Nat} {w : Visit} (held : visitEntry? s j = some w) :
    w.id ≠ r.id ∧ (∀ c ∈ cabinetScope r, c ∉ w.cabinets) ∧ ∀ i ∈ stringScope r, i ∉ w.strings := by
  obtain ⟨cabs, strs⟩ := (offending_eq_none_iff ..).mp h.apart
  have live := inv.live j w held
  exact ⟨(visitById_eq_none_iff ..).mp h.fresh j w held,
    fun c inScope meets => Bool.eq_false_iff.mp (cabs c inScope) ((cabCovered_iff s c).mpr ⟨j, w, held, live, meets⟩),
    fun i inScope meets => Bool.eq_false_iff.mp (strs i inScope) ((strCovered_iff s i).mpr ⟨j, w, held, live, meets⟩)⟩

theorem VisitOpens.disjoint {r : VisitReq} {k : Nat} {d : Depth} {s t : State} (h : VisitOpens r k d s t)
    (inv : VisitsDisjoint s) : VisitsDisjoint t := by
  have place := ((freeEntry_eq_some_iff s k).mp h.free).1
  rw [h.opens]
  refine (openVisit_visitsKept place r d).disjoint ?_
  let v := preparingVisit s r d
  have stands : ∀ j w, visitEntry? (setVisit k (some v) s) j = some w → (j = k ∧ w = v) ∨ visitEntry? s j = some w := by
    intro j w held
    rw [visitEntry?_setVisit] at held
    split at held
    next here => exact .inl ⟨here.1.symm, (Option.some.inj held).symm⟩
    · exact .inr held
  have alone := fun j w (held : visitEntry? s j = some w) => h.meets_none inv held
  refine ⟨fun j w held => ?_, fun i j x y hx hy same => ?_, fun i j x y c hx hy inX inY => ?_,
    fun i j x y n hx hy inX inY => ?_⟩
  · rcases stands j w held with ⟨-, rfl⟩ | stood
    · rfl
    · exact inv.live j w stood
  all_goals
    rcases stands i x hx with ⟨rfl, rfl⟩ | stoodX <;> rcases stands j y hy with ⟨rfl, rfl⟩ | stoodY
  · rfl
  · exact absurd same.symm (alone j y stoodY).1
  · exact absurd same (alone i x stoodX).1
  · exact inv.ids i j x y stoodX stoodY same
  · rfl
  · exact absurd inY ((alone j y stoodY).2.1 c inX)
  · exact absurd inX ((alone i x stoodX).2.1 c inY)
  · exact inv.cabinets i j x y c stoodX stoodY inX inY
  · rfl
  · exact absurd inY ((alone j y stoodY).2.2 n inX)
  · exact absurd inX ((alone i x stoodX).2.2 n inY)
  · exact inv.strings i j x y n stoodX stoodY inX inY

/-- A Visit Open waits, is refused or opens the visit, on the state without its frame. -/
theorem exec_keeps_visitsDisjoint {i : Instr} {s t : State} (inv : VisitsDisjoint s) (h : exec i s = .next t) :
    VisitsDisjoint t := by
  by_cases opens : ∃ r, i = .visitOpen r
  · obtain ⟨r, rfl⟩ := opens
    refine exec_request_keeps h (fun _ _ only => (only.visitsKept (by decide)).disjoint) inv (fun u kept => ?_)
    rcases visitOpenEffect_cases r u with same | ⟨k, d, entered⟩
    · rwa [same]
    · exact entered.disjoint kept
  · exact (exec_visitsKept h (fun r same => opens ⟨r, same⟩)).disjoint inv

end Sys2Proof.Machine
end

section
/-! PROOF. What the commands do to the plans and to their frames in the priority queue (R130 to R144): a plan is changed under
its kind, group and target, freed, or issues an order to a cabinet, which a kind that returns a cabinet to service does alone
when the order does. -/

namespace Sys2Proof.Machine

/-! Plans. -/

/-- The stage of a plan is one of its kind, and a HALTED plan holds a halt cause (R130, R140). -/
structure Plan.Fits (p : Plan) : Prop where
  stage : ∀ st, p.stage = some st → st ∈ p.kind.stages
  halted : p.state = .halted → p.haltCause.isSome = true

/-- A plan record that takes the place of another in a slot: the same plan, still in a stage of its kind. -/
structure Plan.Follows (q p : Plan) : Prop where
  kind : q.kind = p.kind
  group : q.group = p.group
  target : q.target = p.target
  fits : p.Fits → q.Fits

theorem plansInPlace_iff (s : State) : PlansInPlace s ↔ ∀ g p, plan? s g = some p → p.group = g ∧ p.Fits :=
  forall_congr' fun _ => forall_congr' fun _ => imp_congr_right fun _ => and_congr_right fun _ =>
    ⟨fun h => ⟨h.1, h.2⟩, fun h => ⟨h.stage, h.halted⟩⟩

theorem Plan.Follows.refl (p : Plan) : p.Follows p := ⟨rfl, rfl, rfl, fun fits => fits⟩

theorem Plan.Follows.trans {p q r : Plan} (h : r.Follows q) (k : q.Follows p) : r.Follows p :=
  ⟨h.kind.trans k.kind, h.group.trans k.group, h.target.trans k.target, fun fits => h.fits (k.fits fits)⟩

/-- A plan changed in neither its stage nor its halt. -/
theorem Plan.Follows.of_same {p q : Plan} (kind : q.kind = p.kind) (group : q.group = p.group)
    (target : q.target = p.target) (stage : q.stage = p.stage)
    (halt : q.state = .halted → p.state = .halted ∧ q.haltCause = p.haltCause) : q.Follows p :=
  ⟨kind, group, target, fun fits => ⟨fun st at_st => kind ▸ fits.stage st (stage ▸ at_st),
    fun halted => (halt halted).2 ▸ fits.halted (halt halted).1⟩⟩

/-- A plan that is not HALTED, in the stage it had. -/
theorem Plan.Follows.of_running {p q : Plan} (kind : q.kind = p.kind) (group : q.group = p.group)
    (target : q.target = p.target) (stage : q.stage = p.stage) (running : q.state ≠ .halted) : q.Follows p :=
  .of_same kind group target stage (fun halted => absurd halted running)

theorem Plan.Follows.returns_iff {p q : Plan} (h : q.Follows p) (s : State) (c : Nat) : Returns s q c ↔ Returns s p c := by
  rw [Returns, Returns, h.kind, h.group, h.target]

theorem Plan.halt_follows (p : Plan) (c : HaltCause) (d : Option Nat) : (p.halt c d).Follows p :=
  ⟨rfl, rfl, rfl, fun fits => ⟨fits.stage, fun _ => rfl⟩⟩

theorem Plan.enter_follows {p : Plan} {st : Stage} (own : st ∈ p.kind.stages) : (p.enter st).Follows p :=
  ⟨rfl, rfl, rfl, fun fits => ⟨fun _ here => Option.some.inj here ▸ own, fits.halted⟩⟩

theorem Plan.settleFrom_state (p : Plan) (now : Word32) : (p.settleFrom now).state ≠ .halted := by
  unfold Plan.settleFrom; split <;> nofun

theorem Plan.settleFrom_follows (p : Plan) (now : Word32) : (p.settleFrom now).Follows p := by
  refine .of_running ?_ ?_ ?_ ?_ (p.settleFrom_state now) <;> unfold Plan.settleFrom <;> split <;> rfl

theorem Plan.settleFrom_order (p : Plan) (now : Word32) : (p.settleFrom now).order = p.order := by
  unfold Plan.settleFrom; split <;> rfl

theorem Plan.resume_follows (p : Plan) (now : Word32) : (p.resume now).Follows p := by
  unfold Plan.resume; dsimp only; split
  · have settled := Plan.settleFrom_follows { p with haltCause := none, haltDetail := none, lateSinceHalt := false } now
    refine .of_running settled.kind settled.group settled.target ?_ (Plan.settleFrom_state _ now)
    unfold Plan.settleFrom; split <;> rfl
  · exact .of_running rfl rfl rfl rfl nofun

theorem Plan.resume_order (p : Plan) (now : Word32) : (p.resume now).order = p.order := by
  unfold Plan.resume; dsimp only; split
  · exact Plan.settleFrom_order ..
  · rfl

/-! The acts. -/

/-- How the plans and their frames can have come from one state to another, on a floor whose shape stands and whose visits
stay or end. -/
inductive PlanActs : State → State → Prop where
  | frame {s t : State} (plans : t.seq.plans = s.seq.plans) (prio : t.prio ⊆ s.prio) (floor : SameFloor s t)
    (visits : VisitsKept s t) : PlanActs s t
  | change {s : State} {g : Nat} {p q : Plan} (found : plan? s g = some p) (follows : q.Follows p)
    (order : q.order = p.order) : PlanActs s (setPlan g (some q) s)
  | free {s : State} {g : Nat} (unsent : ∀ x ∈ s.prio, x.slot ≠ g) : PlanActs s (setPlan g none s)
  | issue {s : State} {g : Nat} {p q : Plan} {k : OrderKind} {c : Nat} {r : CabRec} (v : Option Nat) (settle : Nat)
    (found : plan? s g = some p) (follows : q.Follows p) (record : cab? s c = some r)
    (returns : k.returnsToService = true → Returns s p c) : PlanActs s (issueOrder g q k r v settle s)
  | send {s : State} {g : Nat} {p : Plan} {o : PlanOrder} (found : plan? s g = some p) (order : p.order = some o) :
    PlanActs s (placePrio g (planOrderFrame o) s)
  | trans {s t u : State} (h : PlanActs s t) (k : PlanActs t u) : PlanActs s u

theorem PlanActs.refl (s : State) : PlanActs s s := .frame rfl (List.Subset.refl _) (.refl s) (.refl s)

theorem PlanActs.ite {s t u : State} {c : Prop} [Decidable c] (h : PlanActs s t) (k : PlanActs s u) :
    PlanActs s (if c then t else u) := by
  split <;> assumption

theorem prio_subset_of_eq {s t : State} (h : t.prio = s.prio) : t.prio ⊆ s.prio := h ▸ List.Subset.refl _

theorem Only.planActs {fs : List Field} {s t : State} (h : Only fs s t) (resp : .resp ∉ fs) (cabs : .cabs ∉ fs)
    (strs : .strs ∉ fs) (seq : .seq ∉ fs) (visits : .visits ∉ fs) (prio : .prio ∉ fs) : PlanActs s t :=
  .frame (congrArg Sequencer.plans (h.same .seq seq)) (prio_subset_of_eq (h.same .prio prio)) (h.sameFloor resp cabs strs)
    (h.visitsKept visits)

/-- An act at the Alarm Unit. -/
theorem Moves.planActs_of_alarm {s t : State} (h : Moves [.alarm] s t) : PlanActs s t :=
  h.only.planActs (by decide) (by decide) (by decide) (by decide) (by decide) (by decide)

/-- A change of the orders. -/
theorem Only.planActs_of_tracker {s t : State} (h : Only [.tracker] s t) : PlanActs s t :=
  h.planActs (by decide) (by decide) (by decide) (by decide) (by decide) (by decide)

theorem dropPrio_planActs (g : Nat) (s : State) : PlanActs s (dropPrio g s) :=
  .frame rfl List.filter_sublist.subset ((dropPrio_moves g s).sameFloor (by decide) (by decide) (by decide)) (.of_entries rfl)

/-! Halts, orders and the end of a plan (R133, R140 to R143). -/

theorem haltPlan_planActs (g : Nat) (c : HaltCause) (d : Option Nat) (s : State) : PlanActs s (haltPlan g c d s) := by
  unfold haltPlan; split
  next p found =>
    exact (PlanActs.change found (p.halt_follows c d) rfl).trans ((lapseSlot_moves ..).only.planActs_of_tracker.trans
      ((dropPrio_planActs ..).trans ((raise_moves ..).planActs_of_alarm.trans (queueNotice_moves ..).planActs_of_alarm)))
  · exact .refl s

theorem haltOr_planActs (g : Nat) (h : Option (HaltCause × Nat)) {rest : State → State} {s : State}
    (acts : PlanActs s (rest s)) : PlanActs s (haltOr g h rest s) := by
  unfold haltOr; split
  · exact haltPlan_planActs ..
  · exact acts

theorem completePlan_planActs (g : Nat) (s : State) : PlanActs s (completePlan g s) := by
  unfold completePlan; split
  next p _ =>
    refine (dropPrio_planActs g s).trans ((queueNotice_moves ..).planActs_of_alarm.trans (.free fun x sent => ?_))
    exact bne_iff_ne.mp (List.mem_filter.mp (show x ∈ (dropPrio g s).prio from sent)).2
  · exact .refl s

theorem resumePlan_planActs {s : State} {g : Nat} {p : Plan} (found : plan? s g = some p) :
    PlanActs s (resumePlan g p s) :=
  (removeSlotOrder_moves g s).only.planActs_of_tracker.trans ((clear_moves ..).planActs_of_alarm.trans
    (.change (p := p) found (p.resume_follows s.now) (p.resume_order s.now)))

theorem abandonPlan_planActs (g : Nat) (p : Plan) (s : State) : PlanActs s (abandonPlan g p s) := by
  have dropped : PlanActs s (dropPrio g (removeSlotOrder g s)) :=
    (removeSlotOrder_moves g s).only.planActs_of_tracker.trans (dropPrio_planActs ..)
  have unsent : ∀ x ∈ (dropPrio g (removeSlotOrder g s)).prio, x.slot ≠ g := fun x sent =>
    bne_iff_ne.mp (List.mem_filter.mp sent).2
  unfold abandonPlan; dsimp only; split
  · exact dropped.trans ((clear_moves ..).planActs_of_alarm.trans (.free unsent))
  · exact dropped.trans (.free unsent)

/-! Ramps (R136 to R138): a ramp order is a SET_SHARE, which returns no cabinet to service. -/

theorem judgeRamp_planActs (g : Nat) (s : State) : PlanActs s (judgeRamp g s) := by
  unfold judgeRamp; split
  next p found =>
    split
    next ra t _ _ _ =>
      have ends : PlanActs s (endRamp g p ra s) := .change found (.of_running rfl rfl rfl rfl nofun) rfl
      split
      next r record =>
        have issues : ∀ v, PlanActs s (issueRamp g p ra r v s) := fun v =>
          .issue (some v) 0 found (.of_same rfl rfl rfl rfl fun halted => ⟨halted, rfl⟩) record nofun
        refine .ite ?_ ?_
        · exact .ite (.ite ends (.ite (haltOr_planActs _ _ (issues _)) (.refl s))) (.refl s)
        · exact .ite (.ite ends (.ite (haltOr_planActs _ _ (issues _)) (.refl s))) (.refl s)
      · exact .refl s
    · exact .refl s
  · exact .refl s

theorem beginRamp_planActs (g : Nat) (s : State) : PlanActs s (beginRamp g s) := by
  unfold beginRamp; split
  next p found =>
    refine PlanActs.trans ?_ (judgeRamp_planActs ..)
    exact .change found (.of_running rfl rfl rfl rfl nofun) rfl
  · exact .refl s

/-! The walk of a step trigger (R130, R131). -/

/-- The stage of a position on a walk. -/
def WalkItem.stage : WalkItem → Stage
  | .enter st => st
  | .step st _ => st

/-- A step whose order returns a cabinet to service belongs to a RESTORE, whose target it goes to, or to a GROUP_FROM_MAINT,
where it goes to a member or to the lead (R111, R130). -/
theorem stepKind_returns {k : PlanKind} {st : Stage} {i : Nat} (own : st ∈ k.stages)
    (returns : (stepKind st i).returnsToService = true) :
    (k = .restore ∧ st.everyMember = false ∧ ¬(st = .maintClose ∨ st = .maintOpen)) ∨
      (k = .groupFromMaint ∧ (st.everyMember = true ∨ st = .maintOpen)) := by
  cases st with
  | deisolate | close => cases k <;> simp [PlanKind.stages, Stage.everyMember] at own ⊢
  | deisolateAll | closeAll | maintOpen | toInverter => cases k <;> simp [PlanKind.stages, Stage.everyMember] at own ⊢
  | _ => cases returns

/-- A plan's own steps of return to service go to the cabinets that it returns. -/
theorem returns_stepCabinet {s : State} {p : Plan} {st : Stage} {i c : Nat} (own : st ∈ p.kind.stages)
    (returns : (stepKind st i).returnsToService = true) (cabinet : stepCabinet s p st i = some c) : Returns s p c := by
  have member : c ∈ members s p.group → groupOf? s c = some p.group := fun listed => by
    obtain ⟨r, record, group⟩ := (mem_members_iff ..).mp listed
    rw [groupOf?, record, Option.map_some, group]
  rcases stepKind_returns own returns with ⟨kind, single, other⟩ | ⟨kind, every | rfl⟩
  · rw [stepCabinet, single, if_neg nofun, if_neg other] at cabinet
    exact .inl ⟨kind, cabinet⟩
  · rw [stepCabinet, if_pos every] at cabinet
    exact .inr ⟨kind, member (List.mem_of_getElem? cabinet)⟩
  · rw [stepCabinet, if_neg nofun, if_pos (.inr rfl)] at cabinet
    obtain ⟨x, lead, rfl⟩ := Option.map_eq_some_iff.mp cabinet
    exact .inr ⟨kind, member (List.mem_map_of_mem (List.mem_of_find?_eq_some lead))⟩

theorem walkItems_stage_mem {s : State} {p : Plan} (fits : p.Fits) {x : WalkItem} (listed : x ∈ walkItems s p) :
    x.stage ∈ p.kind.stages := by
  have items : ∀ {st : Stage}, x ∈ stageItems s p.group st → x.stage = st := fun {st} listed => by
    rcases List.mem_cons.mp listed with rfl | step
    · rfl
    · obtain ⟨i, -, rfl⟩ := List.mem_map.mp step; rfl
  have later : ∀ {st : Stage}, x ∈ (p.kind.after st).flatMap (stageItems s p.group) → x.stage ∈ p.kind.stages :=
    fun {st} listed => by
      obtain ⟨z, after, own⟩ := List.mem_flatMap.mp listed
      rw [items own]
      exact (List.dropWhile_sublist _).subset ((List.drop_sublist _ _).subset after)
  unfold walkItems at listed
  split at listed
  · obtain ⟨z, stands, own⟩ := List.mem_flatMap.mp listed
    rw [items own]; exact stands
  next st here =>
    have own := fits.stage st here
    dsimp only at listed
    split at listed
    · split at listed
      · exact later listed
      · rcases List.mem_cons.mp listed with rfl | rest
        · exact own
        · exact later rest
    · rcases List.mem_append.mp listed with step | rest
      · obtain ⟨i, -, rfl⟩ := List.mem_map.mp step
        exact own
      · exact later rest

/-- A plan walks over positions of its own kind. -/
theorem walk_planActs (g : Nat) (l : List WalkItem) {s : State} {p : Plan} (found : plan? s g = some p)
    (own : ∀ x ∈ l, x.stage ∈ p.kind.stages) : PlanActs s (walk g l s) := by
  induction l generalizing s p with
  | nil => exact completePlan_planActs g s
  | cons x rest ih =>
    have here := own x List.mem_cons_self
    have further : ∀ y ∈ rest, y.stage ∈ p.kind.stages := fun y listed => own y (List.mem_cons_of_mem x listed)
    have goesOn : ∀ {u : State} {q : Plan}, plan? u g = some q → q.kind = p.kind → PlanActs u (walk g rest (markDone g u)) :=
      fun {u q} stands same => by
        have follows : Plan.Follows { q with stepDone := true } q := .of_same rfl rfl rfl rfl fun halted => ⟨halted, rfl⟩
        rw [markDone_of_found stands]
        exact (PlanActs.change stands follows rfl).trans
          (ih (p := { q with stepDone := true }) (plan?_setPlan_self stands _) (same ▸ further))
    cases x with
    | enter st =>
      have entered : PlanActs s (enterStage g p st s) :=
        (PlanActs.change found (p.enter_follows here) rfl).trans (queueNotice_moves ..).planActs_of_alarm
      have stands : plan? (enterStage g p st s) g = some (p.enter st) := plan?_enterStage found
      rw [walk_enter found]
      refine entered.trans (.ite (haltOr_planActs _ _ (goesOn stands rfl)) (.ite (beginRamp_planActs ..) ?_))
      exact ih stands further
    | step st i =>
      let q : Plan := { p with step := i, stepDone := false }
      have stepped : PlanActs s (setPlan g (some q) s) :=
        .change found (.of_same rfl rfl rfl rfl fun halted => ⟨halted, rfl⟩) rfl
      have stands : plan? (setPlan g (some q) s) g = some q := plan?_setPlan_self found _
      simp only [walk, found]
      refine stepped.trans ?_
      split
      · exact .refl _
      next r ordered =>
        obtain ⟨c, cabinet, record⟩ := Option.bind_eq_some_iff.mp ordered
        refine .ite (goesOn stands rfl) (haltOr_planActs _ _ ?_)
        exact .issue _ _ stands (.refl q) record fun returns => returns_stepCabinet (p := q) here returns cabinet

theorem trigger_planActs {s : State} (inPlace : PlansInPlace s) (g : Nat) : PlanActs s (trigger g s) := by
  unfold trigger; split
  next p found =>
    have fits := ((plansInPlace_iff s).mp inPlace g p found).2
    exact .ite (walk_planActs g _ found fun _ => walkItems_stage_mem fits) (.refl s)
  · exact .refl s

/-! Replies and windows (R119 to R121, R134, R135). -/

theorem planDone_planActs (g : Nat) (s : State) : PlanActs s (planDone g s) := by
  unfold planDone; split
  next p found =>
    refine .ite (.ite (PlanActs.trans ?_ (judgeRamp_planActs ..)) ?_) (.refl s)
    · exact .change found (.of_running rfl rfl rfl rfl nofun) rfl
    · exact .change found (p.settleFrom_follows s.now) (p.settleFrom_order s.now)
  · exact .refl s

theorem planRejected_planActs (g reason : Nat) (s : State) : PlanActs s (planRejected g reason s) :=
  .ite (haltPlan_planActs ..) (.refl s)

theorem planLateDone_planActs (g : Nat) (s : State) : PlanActs s (planLateDone g s) := by
  unfold planLateDone modPlan; split
  next p found =>
    dsimp only; split
    · exact .change found (.of_same rfl rfl rfl rfl fun halted => ⟨halted, rfl⟩) rfl
    · exact .change found (.refl p) rfl
  · exact .refl s

theorem resend_planActs {s : State} {g : Nat} {p : Plan} {o : PlanOrder} (found : plan? s g = some p)
    (order : p.order = some o) : PlanActs s (resend g p o s) := by
  let q : Plan := { p with sends := p.sends + 1 }
  have counted : PlanActs s (setPlan g (some q) s) :=
    .change found (.of_same rfl rfl rfl rfl fun halted => ⟨halted, rfl⟩) rfl
  have stands : plan? (setPlan g (some q) s) g = some q := plan?_setPlan_self found _
  unfold resend
  refine counted.trans (PlanActs.trans ?_ (.ite (.refl _) (.send (p := q) stands order)))
  exact (modOrder_moves _ _ (by intro; rfl) _).only.planActs_of_tracker

theorem planReplyExpiry_planActs (g : Nat) (s : State) : PlanActs s (planReplyExpiry g s) := by
  unfold planReplyExpiry; split
  next p found =>
    split
    next order => exact .ite (resend_planActs found order) (haltPlan_planActs ..)
    · exact .refl s
  · exact .refl s

theorem planCompletionExpiry_planActs (g : Nat) (s : State) : PlanActs s (planCompletionExpiry g s) := by
  unfold planCompletionExpiry; split
  · split
    · exact haltPlan_planActs ..
    · exact .refl s
  · exact .refl s

theorem handPlan_planActs (e : OrderEntry) {f : Nat → State → State} (s : State) (h : ∀ g, PlanActs s (f g s)) :
    PlanActs s (handPlan e f s) := by
  unfold handPlan; split
  · exact .ite (h _) (.refl s)
  · exact .refl s

/-- A DONE writes records under their shape (R120). -/
theorem doneEntry_planActs (e : OrderEntry) (s : State) : PlanActs s (doneEntry e s) := by
  have only := (doneEntry_moves e s).only
  exact .frame (congrArg Sequencer.plans (only.same .seq (by decide))) (prio_subset_of_eq (only.same .prio (by decide)))
    (doneEntry_sameFloor e s) (only.visitsKept (by decide))

theorem replyOnEntry_planActs (e : OrderEntry) (k : ReplyKind) (reason : Nat) (s : State) :
    PlanActs s (replyOnEntry e k reason s) := by
  unfold replyOnEntry; split
  · exact .ite (only_withTracker s _).planActs_of_tracker (.refl s)
  · exact (doneEntry_planActs e s).trans ((removeOrder_moves ..).only.planActs_of_tracker.trans
      (handPlan_planActs _ _ fun g => planDone_planActs g _))
  · exact (removeOrder_moves ..).only.planActs_of_tracker.trans
      (handPlan_planActs _ _ fun g => planRejected_planActs g reason _)

theorem replyOnLapsed_planActs (e : OrderEntry) (k : ReplyKind) (s : State) : PlanActs s (replyOnLapsed e k s) := by
  unfold replyOnLapsed; split
  · exact (doneEntry_planActs e s).trans (handPlan_planActs _ _ fun g => planLateDone_planActs g _)
  · exact .refl s

theorem matchReply_getD_planActs (o : Origin) (f : Frame) {s u : State} (h : PlanActs s u) :
    PlanActs s ((matchReply o f s).getD u) := by
  unfold matchReply; split
  · exact h
  · split
    · exact h
    · exact .ite (replyOnLapsed_planActs ..) (replyOnEntry_planActs ..)

theorem enqueueForward_planActs (p : Port) (f : Frame) (s : State) : PlanActs s (enqueueForward p f s) := by
  refine (enqueueForward_moves p f s).only.planActs ?_ ?_ ?_ ?_ ?_ ?_ <;> cases p <;> decide

theorem dropHead_planActs (p : Port) (s : State) : PlanActs s (dropHead p s) := by
  refine (dropHead_moves p s).only.planActs ?_ ?_ ?_ ?_ ?_ ?_ <;> cases p <;> decide

theorem trackReply_planActs (f : Frame) (s : State) : PlanActs s (trackReply f s) := by
  have counts : PlanActs s (countUnmatched s) := (only_withTracker s _).planActs_of_tracker
  exact .ite (matchReply_getD_planActs _ _ counts)
    (.ite ((matchReply_getD_planActs _ _ (.refl s)).trans (enqueueForward_planActs ..)) (enqueueForward_planActs ..))

theorem windowExpires_planActs (w : WindowKind) {onPlan : Nat → State → State} {s : State} (h : ∀ g, PlanActs s (onPlan g s))
    (k : OrderKey) : PlanActs s (windowExpires w onPlan k s) := by
  unfold windowExpires; split
  next e _ =>
    refine .ite ?_ (.refl s)
    split
    · exact (removeOrder_moves k s).only.planActs_of_tracker.trans (only_withTracker _ _).planActs_of_tracker
    · exact handPlan_planActs e s h
  · exact .refl s

/-! The plan's own timers (R135, R137, R139) and the judgement of a ramp step at a hand-off. -/

theorem settleExpires_planActs (g : Nat) (s : State) : PlanActs s (settleExpires g s) := by
  unfold settleExpires; split
  next p found => exact .ite (.change found (.of_running rfl rfl rfl rfl nofun) rfl) (.refl s)
  · exact .refl s

theorem intervalExpires_planActs (g : Nat) (s : State) : PlanActs s (intervalExpires g s) := by
  unfold intervalExpires; split
  next p found =>
    split
    · refine .ite (PlanActs.trans ?_ (judgeRamp_planActs ..)) (.refl s)
      exact .change found (.of_same rfl rfl rfl rfl fun halted => ⟨halted, rfl⟩) rfl
    · exact .refl s
  · exact .refl s

theorem matchExpires_planActs (g : Nat) (s : State) : PlanActs s (matchExpires g s) := by
  unfold matchExpires; split
  · exact .ite (haltPlan_planActs ..) (.refl s)
  · exact .refl s

theorem takeRampHand_planActs (c : Nat) (s : State) : PlanActs s (takeRampHand c s) := by
  unfold takeRampHand; split
  · exact judgeRamp_planActs ..
  · exact .refl s

/-! Sending, and a Reset TRAFFIC (R171, R191). -/

/-- Sending takes from the priority queue. -/
theorem transmitF_prio_subset (s : State) : (transmitF s).prio ⊆ s.prio := by
  unfold transmitF; split
  next rest queue => exact queue ▸ List.subset_cons_self ..
  · split
    · unfold takeForwardF; split
      · split <;> exact List.Subset.refl _
      · exact List.Subset.refl _
    · exact List.Subset.refl _

theorem transmitTake_planActs (p : Port) (s : State) : PlanActs s (transmitTake p s) := by
  have only := (transmitTake_moves p s).only
  have prio : (transmitTake p s).prio ⊆ s.prio := by
    cases p with
    | s => exact prio_subset_of_eq (only.same .prio (by decide))
    | f =>
      unfold transmitTake; split
      · exact List.Subset.refl _
      · exact transmitF_prio_subset s
  refine .frame (congrArg Sequencer.plans (only.same .seq ?_)) prio (only.sameFloor ?_ ?_ ?_) (only.visitsKept ?_) <;>
    cases p <;> decide

theorem emptyPorts_planActs (s : State) : PlanActs s (emptyPorts s) := by
  have seq : (emptyPorts s).seq = s.seq := by simp [emptyPorts, modPort, State.withPort]
  have prio : (emptyPorts s).prio = [] := by simp [emptyPorts]
  have moves := emptyPorts_moves s
  exact .frame (congrArg Sequencer.plans seq) (by rw [prio]; exact List.nil_subset _)
    (moves.sameFloor (by decide) (by decide) (by decide)) (moves.only.visitsKept (by decide))

theorem haltIssued_planActs (s : State) : PlanActs s (haltIssued s) :=
  foldl_keeps (P := PlanActs s) (fun _ _ kept => kept.trans (.ite (haltPlan_planActs ..) (.refl _))) _ (.refl s)

theorem trafficReset_planActs (s : State) : PlanActs s (trafficReset s) :=
  (emptyPorts_planActs s).trans ((emptyTracker_moves _).only.planActs_of_tracker.trans
    ((clear_moves ..).planActs_of_alarm.trans ((clear_moves ..).planActs_of_alarm.trans (haltIssued_planActs _))))

/-! The commands. -/

/-- The plan that an id names stands in its slot (R141). -/
theorem planById_some {s : State} {id g : Nat} {p : Plan} (h : planById s id = some (g, p)) : plan? s g = some p := by
  obtain ⟨j, -, found⟩ := List.exists_of_findSome?_eq_some h
  obtain ⟨q, holds, same⟩ := Option.map_eq_some_iff.mp found
  obtain ⟨rfl, rfl⟩ := Prod.mk.inj same
  exact (Option.filter_eq_some_iff.mp holds).1

theorem onPlan_planActs (code id : Nat) {act : Nat → Plan → State → State × ManageReply} {s : State}
    (h : ∀ g p, plan? s g = some p → PlanActs s (act g p s).1) : PlanActs s (onPlan code id act s).1 := by
  refine refuseIf_keeps (P := PlanActs s) _ _ (.refl s) ?_
  split
  · exact .refl s
  next g p found => exact h g p (planById_some found)

theorem portField_ne_prio (p : Port) : Field.prio ≠ portField p := by cases p <;> decide

/-- What every command does to the plans, beside the full resets, the writes of the floor, a Plan Request and a Visit
Open. -/
theorem exec_planActs {i : Instr} {s t : State} (inPlace : PlansInPlace s) (h : exec i s = .next t)
    (noReset : isFullReset i = false) (noWrite : writesFloor i = false) (noRequest : ∀ k g c, i ≠ .planRequest k g c)
    (noOpen : ∀ r, i ≠ .visitOpen r) : PlanActs s t := by
  have floor := exec_sameFloor h noReset noWrite
  have visits := exec_visitsKept h noOpen
  have framed : ∀ {fs : List Field}, Only fs s t → .seq ∉ fs → .prio ∉ fs → PlanActs s t := fun only seq prio =>
    .frame (congrArg Sequencer.plans (only.same .seq seq)) (prio_subset_of_eq (only.same .prio prio)) floor visits
  have running : ∀ {f : State → State}, Host.Outcome.next (φ := Fault) (ρ := Refusal) (whenRunning f s) = .next t →
      PlanActs s (f s) → PlanActs s t := fun e acted => exec_running_keeps e (.refl s) acted
  have requested : ∀ {code : Nat} {form : FieldForm} {effect : State → State × ManageReply},
      request code form effect s = t → (∀ u, PlanActs u (effect u).1) → PlanActs s t := fun e acts =>
    exec_request_keeps (P := PlanActs s) (congrArg _ e) (fun _ _ only kept => kept.trans (only.planActs (by decide)
      (by decide) (by decide) (by decide) (by decide) (by decide))) (.refl s) (fun u kept => kept.trans (acts u))
  cases i with
  | powerOn | resetLineReleased | fullResetTaken => cases noReset
  | writeNodeEntry | clearNodeEntry | startSupervision | stopSupervision => cases noWrite
  | planRequest k g c => exact absurd rfl (noRequest k g c)
  | visitOpen r => exact absurd rfl (noOpen r)
  | siteOrderJudgement =>
    rcases exec_siteOrderJudgement_cases h with rfl | ⟨f, -, rfl⟩
    · exact .refl _
    · exact (dropHead_planActs .s s).trans ((judgeOrder_only f _).planActs (by decide) (by decide) (by decide) (by decide)
        (by decide) (by decide))
  | replyMatch =>
    refine running h ?_
    rcases takeHead_cases .f trackerReady trackReply s with idle | ⟨f, -, taken⟩
    · rw [idle]; exact .refl s
    · rw [taken]; exact (dropHead_planActs .f s).trans (trackReply_planActs ..)
  | rampStepJudgement =>
    refine running h ?_
    dsimp only; split
    · exact ((only_withHand ..).planActs (by decide) (by decide) (by decide) (by decide) (by decide) (by decide)).trans
        (takeRampHand_planActs ..)
    · exact .refl s
  | transmitTake p => exact running h (transmitTake_planActs p s)
  | replyWindowExpiry k => exact running h (windowExpires_planActs .reply (fun g => planReplyExpiry_planActs g s) k)
  | completionWindowExpiry k =>
    exact running h (windowExpires_planActs .completion (fun g => planCompletionExpiry_planActs g s) k)
  | settleExpiry g => exact running h (settleExpires_planActs g s)
  | rampIntervalExpiry g => exact running h (intervalExpires_planActs g s)
  | matchWindowExpiry g => exact running h (matchExpires_planActs g s)
  | stepTrigger g => exact running h (trigger_planActs inPlace g)
  | writeGroupParameters g fs =>
    exact requested (Host.Outcome.next.inj h) fun u => refuseIf_keeps (P := PlanActs u) _ _ (.refl u)
      (.frame rfl (List.Subset.refl _) ⟨rfl, rfl, fun _ => rfl, fun _ => rfl⟩ (.of_entries rfl))
  | planResume id =>
    exact requested (Host.Outcome.next.inj h) fun u => onPlan_planActs 24 id fun g p found =>
      refuseIf_keeps (P := PlanActs u) _ _ (.refl u) (resumePlan_planActs found)
  | planAbandon id =>
    exact requested (Host.Outcome.next.inj h) fun u => onPlan_planActs 25 id fun g p _ => abandonPlan_planActs g p u
  | resetTraffic kind =>
    have e := Host.Outcome.next.inj h
    split at e
    · exact e ▸ .refl s
    · refine requested e fun u => ?_
      rcases resetTrafficEffect_cases kind u with refused | reset
      · rw [refused]; exact .refl u
      · rw [reset]; exact trafficReset_planActs u
  | frameSent p | abandonedTx p =>
    refine framed (exec_moves h rfl (by nofun)).only ?_ ?_ <;> cases p <;> decide
  | watchExpiry n =>
    refine framed (exec_moves h rfl (by nofun)).only ?_ ?_ <;> cases n <;> simp [touches]
  | _ =>
    refine framed (exec_moves h rfl (by nofun)).only ?_ ?_ <;>
      simp [touches, requestFields, portField_ne_seq, portField_ne_prio]

end Sys2Proof.Machine
end

section
/-! PROOF. The plans stay in the slots of their groups and in stages of their kinds (R125, R130), and a plan that returns a
cabinet to service stays clear of the visits, with its orders that wait (R111, R127, R150; log entry 41). -/

namespace Sys2Proof.Machine

/-! The plans after an act. -/

theorem plan?_issueOrder (g j : Nat) (p : Plan) (k : OrderKind) (r : CabRec) (v : Option Nat) (settle : Nat) (s : State) :
    plan? (issueOrder g p k r v settle s) j = if g = j ∧ g < 4 then
      some { p with state := .issued, order := some ⟨k, r.addr, takeSeq s r.addr, v⟩, sends := 1, settle := settle }
      else plan? s j := join_set ..

theorem mem_placePrio_iff (g : Nat) (f : Frame) (s : State) (x : PrioFrame) :
    x ∈ (placePrio g f s).prio ↔ (x ∈ s.prio ∧ x.slot ≠ g) ∨ x = ⟨g, f⟩ := by
  simp [placePrio]

/-- A plan that an order is issued for follows the plan it was. -/
theorem Plan.issued_follows (q : Plan) (o : PlanOrder) (settle : Nat) :
    Plan.Follows { q with state := .issued, order := some o, sends := 1, settle := settle } q :=
  .of_running rfl rfl rfl rfl nofun

/-! Plans in place (R125, R130). -/

theorem PlansInPlace.of_plans {s t : State} (inv : PlansInPlace s)
    (plans : ∀ g q, plan? t g = some q → ∃ p, plan? s g = some p ∧ q.Follows p) : PlansInPlace t := by
  rw [plansInPlace_iff] at inv ⊢
  intro g q held
  obtain ⟨p, stood, follows⟩ := plans g q held
  obtain ⟨slot, fits⟩ := inv g p stood
  exact ⟨follows.group.trans slot, follows.fits fits⟩

/-- Each plan after an act follows the plan that its slot held. -/
theorem PlanActs.plans {s t : State} (h : PlanActs s t) (g : Nat) (q : Plan) (held : plan? t g = some q) :
    ∃ p, plan? s g = some p ∧ q.Follows p := by
  induction h generalizing q with
  | frame plans => exact ⟨q, by rwa [plan?, plans] at held, .refl q⟩
  | @change s j p x found follows =>
    rw [plan?_setPlan] at held
    split at held
    next here => exact ⟨p, here.1 ▸ found, Option.some.inj held ▸ follows⟩
    · exact ⟨q, held, .refl q⟩
  | free =>
    rw [plan?_setPlan] at held
    split at held
    · cases held
    · exact ⟨q, held, .refl q⟩
  | @issue s j p x k c r v settle found follows =>
    rw [plan?_issueOrder] at held
    split at held
    next here => exact ⟨p, here.1 ▸ found, Option.some.inj held ▸ (x.issued_follows _ settle).trans follows⟩
    · exact ⟨q, held, .refl q⟩
  | send => exact ⟨q, held, .refl q⟩
  | trans _ _ first second =>
    obtain ⟨x, stood, after⟩ := second q held
    obtain ⟨p, before, follows⟩ := first x stood
    exact ⟨p, before, after.trans follows⟩

theorem Only.plansInPlace {fs : List Field} {s t : State} (h : Only fs s t) (seq : .seq ∉ fs) (inv : PlansInPlace s) :
    PlansInPlace t :=
  inv.of_plans fun g q held => ⟨q, by rwa [plan?, h.same .seq seq] at held, .refl q⟩

/-- A Plan Request is refused, or fills a free slot with a plan that no visit stands against (R127, R129). -/
theorem planRequestEffect_cases (kind g : Nat) (target : Option Nat) (s : State) :
    (planRequestEffect kind g target s).1 = s ∨ ∃ k, plan? s g = none ∧ ¬CoveredByVisit s k g target ∧
      (planRequestEffect kind g target s).1 = (acceptPlan k g target s).1 := by
  refine refuseIf_keeps (P := fun t => t = s ∨ ∃ k, plan? s g = none ∧ ¬CoveredByVisit s k g target ∧
    t = (acceptPlan k g target s).1) _ _ (.inl rfl) ?_
  dsimp only; split
  · exact .inl rfl
  next k _ =>
    let P : State → Prop := fun t => t = s ∨ ∃ k, plan? s g = none ∧ ¬CoveredByVisit s k g target ∧
      t = (acceptPlan k g target s).1
    refine refuseIf_keeps (P := P) _ _ (.inl rfl) (refuseIf_keeps (P := P) _ _ (.inl rfl)
      (refuseIf_keeps_of_passed (P := P) _ _ (.inl rfl) fun free => refuseIf_keeps_of_passed (P := P) _ _ (.inl rfl)
        fun away => refuseIf_keeps (P := P) _ _ (.inl rfl) (.inr ⟨k, by simpa using free, ?_, rfl⟩)))
    exact fun covered => Bool.eq_false_iff.mp away ((planVisit_iff ..).mpr covered)

theorem newPlan_fits (id : Nat) (k : PlanKind) (g : Nat) (target : Option Nat) : (newPlan id k g target).Fits :=
  ⟨nofun, nofun⟩

theorem acceptPlan_plansInPlace (k : PlanKind) (g : Nat) (target : Option Nat) {s : State} (inv : PlansInPlace s) :
    PlansInPlace (acceptPlan k g target s).1 := by
  rw [plansInPlace_iff] at inv ⊢
  intro j q held
  rw [plan?_acceptPlan] at held
  split at held
  next here => exact Option.some.inj held ▸ ⟨here.1, newPlan_fits ..⟩
  · exact inv j q held

/-- The commands that write the floor, and Visit Open, leave the Sequencer and the priority queue alone. -/
theorem exec_plans_of_floor_or_visit {i : Instr} {s t : State} (h : exec i s = .next t) (noReset : isFullReset i = false)
    (writes : writesFloor i = true ∨ ∃ r, i = .visitOpen r) : t.seq = s.seq ∧ t.prio = s.prio := by
  have same : ∀ {fs : List Field}, Only fs s t → .seq ∉ fs → .prio ∉ fs → t.seq = s.seq ∧ t.prio = s.prio :=
    fun only seq prio => ⟨only.same .seq seq, only.same .prio prio⟩
  rcases writes with floor | ⟨r, rfl⟩
  · cases i with
    | writeNodeEntry | clearNodeEntry | startSupervision | stopSupervision =>
      exact same (exec_moves h rfl (by nofun)).only (by simp [touches, requestFields]) (by simp [touches, requestFields])
    | _ => cases floor
  · exact same (exec_moves h rfl (by nofun)).only (by simp [touches, requestFields]) (by simp [touches, requestFields])

theorem exec_keeps_plansInPlace {i : Instr} {s t : State} (inv : PlansInPlace s) (h : exec i s = .next t) :
    PlansInPlace t := by
  cases isReset : isFullReset i with
  | true =>
    rcases exec_fullReset_only h isReset with rfl | only
    · exact inv
    · refine only.plansInPlace (by decide) fun g p held => ?_
      cases held.symm.trans (getElem?_replicate_none_join ..)
  | false =>
    by_cases writes : writesFloor i = true ∨ ∃ r, i = .visitOpen r
    · have seq := (exec_plans_of_floor_or_visit h isReset writes).1
      exact inv.of_plans fun g q held => ⟨q, by rwa [plan?, seq] at held, .refl q⟩
    · obtain ⟨floor, visit⟩ := not_or.mp writes
      by_cases request : ∃ k g c, i = .planRequest k g c
      · obtain ⟨k, g, c, rfl⟩ := request
        refine exec_request_keeps h (fun _ _ only kept => only.plansInPlace (by decide) kept) inv fun u kept => ?_
        rcases planRequestEffect_cases k g c u with refused | ⟨k, -, -, accepted⟩
        · rwa [refused]
        · rw [accepted]; exact acceptPlan_plansInPlace k g c kept
      · exact inv.of_plans (exec_planActs inv h isReset (Bool.eq_false_iff.mpr floor)
          (fun k g c same => request ⟨k, g, c, same⟩) (fun r same => visit ⟨r, same⟩)).plans

/-! The order of a plan (R111, R133). -/

/-- The order goes to a loop address and, when it is of the return-to-service set, to a cabinet that the plan returns. -/
def OrderSound (s : State) (p : Plan) (o : PlanOrder) : Prop :=
  o.target ≤ 239 ∧ (o.kind.returnsToService = true → ∀ c, cabAt? s o.target = some c → Returns s p c)

theorem SameFloor.cabAt? {s t : State} (h : SameFloor s t) (addr : Nat) : cabAt? t addr = Machine.cabAt? s addr := by
  rw [Machine.cabAt?, Machine.cabAt?, nodeAt?, nodeAt?, h.dir]

theorem SameFloor.groupOf? {s t : State} (h : SameFloor s t) (c : Nat) : groupOf? t c = Machine.groupOf? s c := by
  have groups : ∀ u : State, Machine.groupOf? u c = ((cab? u c).map CabRec.shape).map fun x => x.2.1 := fun u => by
    rw [Machine.groupOf?, Option.map_map]; rfl
  rw [groups, groups, h.cabs]

theorem SameFloor.addr {s t : State} (h : SameFloor s t) {c : Nat} {r : CabRec} (record : cab? t c = some r) :
    ∃ x, cab? s c = some x ∧ x.addr = r.addr := by
  have shapes := h.cabs c
  rw [record] at shapes
  obtain ⟨x, stood, shape⟩ := Option.map_eq_some_iff.mp shapes.symm
  exact ⟨x, stood, congrArg Prod.fst shape⟩

theorem SameFloor.returns_iff {s t : State} (h : SameFloor s t) (p : Plan) (c : Nat) : Returns t p c ↔ Returns s p c := by
  rw [Returns, Returns, h.groupOf?]

theorem OrderSound.of_follows {s t : State} {p q : Plan} {o : PlanOrder} (sound : OrderSound s p o) (floor : SameFloor s t)
    (follows : q.Follows p) : OrderSound t q o :=
  ⟨sound.1, fun back c node => (floor.returns_iff q c).mpr ((follows.returns_iff s c).mpr
    (sound.2 back c (floor.cabAt? _ ▸ node)))⟩

/-- An order that a plan issues is sound: the address of a record is that of its directory entry (R5, R7). -/
theorem PlansClearOfVisits.orderSound {s : State} (inv : PlansClearOfVisits s) {c : Nat} {r : CabRec} {p : Plan}
    {k : OrderKind} (seq : Byte) (v : Option Nat) (record : cab? s c = some r)
    (returns : k.returnsToService = true → Returns s p c) : OrderSound s p ⟨k, r.addr, seq, v⟩ := by
  have node := inv.addresses c r record
  obtain ⟨e, found⟩ : ∃ e, nodeAt? s r.addr = some e := by
    refine Option.ne_none_iff_exists'.mp fun absent => ?_
    rw [cabAt?, absent] at node
    cases node
  have same : e.addr = r.addr := beq_iff_eq.mp (List.find?_some (p := fun x : DirEntry => x.addr == r.addr) found)
  refine ⟨same ▸ inv.entries e (List.mem_of_find?_eq_some found), fun back d at_d => ?_⟩
  exact Option.some.inj (node.symm.trans at_d) ▸ returns back

/-! Clear of the visits. -/

/-- What keeps plans clear of the visits on a floor whose shape stands: the plans follow the plans that stood, no visit enters,
and the orders and frames are sound. -/
theorem PlansClearOfVisits.of_follows {s t : State} (inv : PlansClearOfVisits s) (floor : SameFloor s t)
    (visits : VisitsKept s t) (plans : ∀ g q, plan? t g = some q → ∃ p, plan? s g = some p ∧ q.Follows p)
    (orders : ∀ g q o, plan? t g = some q → q.order = some o → OrderSound t q o)
    (frames : ∀ x ∈ t.prio, ∃ q o, plan? t x.slot = some q ∧ x.frame = planOrderFrame o ∧ OrderSound t q o) :
    PlansClearOfVisits t := by
  refine ⟨fun g q c held back => ?_, floor.dir ▸ inv.entries, fun c r record => ?_, orders, frames⟩
  · obtain ⟨p, stood, follows⟩ := plans g q held
    refine Bool.eq_false_iff.mpr fun covered => Bool.eq_false_iff.mp (inv.clear g p c stood ?_) (visits.cabCovered covered)
    exact (follows.returns_iff s c).mp ((floor.returns_iff q c).mp back)
  · obtain ⟨x, stood, same⟩ := floor.addr record
    rw [floor.cabAt?, ← same]
    exact inv.addresses c x stood

/-- Plans and orders that stand as they were. -/
theorem PlansClearOfVisits.of_same {s t : State} (inv : PlansClearOfVisits s) (floor : SameFloor s t)
    (visits : VisitsKept s t) (plans : t.seq.plans = s.seq.plans) (prio : t.prio ⊆ s.prio) : PlansClearOfVisits t := by
  have same : ∀ g, plan? t g = plan? s g := fun g => by rw [plan?, plans]; rfl
  refine inv.of_follows floor visits (fun g q held => ⟨q, same g ▸ held, .refl q⟩)
    (fun g q o held order => OrderSound.of_follows (inv.orders g q o (same g ▸ held) order) floor (.refl q))
    (fun x sent => ?_)
  obtain ⟨q, o, held, frame, sound⟩ := inv.frames x (prio sent)
  exact ⟨q, o, (same _).trans held, frame, OrderSound.of_follows sound floor (.refl q)⟩

theorem Only.plansClear {fs : List Field} {s t : State} (h : Only fs s t) (resp : .resp ∉ fs) (cabs : .cabs ∉ fs)
    (strs : .strs ∉ fs) (seq : .seq ∉ fs) (visits : .visits ∉ fs) (prio : .prio ∉ fs) (inv : PlansClearOfVisits s) :
    PlansClearOfVisits t :=
  inv.of_same (h.sameFloor resp cabs strs) (h.visitsKept visits) (congrArg Sequencer.plans (h.same .seq seq))
    (prio_subset_of_eq (h.same .prio prio))

/-- A frame of the priority queue keeps its plan under a write of that plan's slot. -/
theorem PlansClearOfVisits.frame_of_setPlan {s : State} (inv : PlansClearOfVisits s) {g : Nat} {p q : Plan}
    (found : plan? s g = some p) (follows : q.Follows p) {t : State}
    (plans : ∀ j, plan? t j = if g = j ∧ g < 4 then some q else plan? s j) (floor : SameFloor s t) (x : PrioFrame)
    (sent : x ∈ s.prio) : ∃ q o, plan? t x.slot = some q ∧ x.frame = planOrderFrame o ∧ OrderSound t q o := by
  obtain ⟨y, o, held, frame, sound⟩ := inv.frames x sent
  by_cases here : g = x.slot
  · obtain rfl : p = y := Option.some.inj (found.symm.trans (here ▸ held))
    exact ⟨q, o, (plans _).trans (if_pos ⟨here, plan?_lt found⟩), frame, OrderSound.of_follows sound floor follows⟩
  · exact ⟨y, o, (plans _).trans ((if_neg fun same => here same.1).trans held), frame,
      OrderSound.of_follows sound floor (.refl y)⟩

theorem PlanActs.plansClear {s t : State} (h : PlanActs s t) (inv : PlansClearOfVisits s) : PlansClearOfVisits t := by
  induction h with
  | frame plans prio floor visits => exact inv.of_same floor visits plans prio
  | @change s g p q found follows order =>
    have floor := (setPlan_moves g (some q) s).sameFloor (by decide) (by decide) (by decide)
    refine inv.of_follows floor ((setPlan_moves g (some q) s).only.visitsKept (by decide))
      (PlanActs.change found follows order).plans (fun j x o held ordered => ?_)
      (fun x => inv.frame_of_setPlan found follows (fun _ => plan?_setPlan ..) floor x)
    rw [plan?_setPlan] at held
    split at held
    · obtain rfl := Option.some.inj held
      exact OrderSound.of_follows (inv.orders g p o found (order ▸ ordered)) floor follows
    · exact OrderSound.of_follows (inv.orders j x o held ordered) floor (.refl x)
  | @free s g unsent =>
    have floor := (setPlan_moves g none s).sameFloor (by decide) (by decide) (by decide)
    refine inv.of_follows floor ((setPlan_moves g none s).only.visitsKept (by decide)) (PlanActs.free unsent).plans
      (fun j x o held ordered => ?_) (fun x sent => ?_)
    · rw [plan?_setPlan] at held
      split at held
      · cases held
      · exact OrderSound.of_follows (inv.orders j x o held ordered) floor (.refl x)
    · obtain ⟨y, o, held, frame, sound⟩ := inv.frames x sent
      exact ⟨y, o, (plan?_setPlan ..).trans ((if_neg fun same => unsent x sent same.1.symm).trans held), frame,
        OrderSound.of_follows sound floor (.refl y)⟩
  | @issue s g p q k c r v settle found follows record returns =>
    have moves := issueOrder_moves g q k r v settle s (plan?_lt found)
    have floor := moves.sameFloor (by decide) (by decide) (by decide)
    have plans := fun j => plan?_issueOrder g j q k r v settle s
    have after := (q.issued_follows ⟨k, r.addr, takeSeq s r.addr, v⟩ settle).trans follows
    have sound := (inv.orderSound (takeSeq s r.addr) v record returns).of_follows floor after
    refine inv.of_follows floor (moves.only.visitsKept (by decide)) (PlanActs.issue v settle found follows record returns).plans
      (fun j x o held ordered => ?_) (fun x sent => ?_)
    · rw [plans] at held
      split at held
      · obtain rfl := Option.some.inj held
        obtain rfl := Option.some.inj ordered
        exact sound
      · exact OrderSound.of_follows (inv.orders j x o held ordered) floor (.refl x)
    · rcases (mem_placePrio_iff ..).mp sent with ⟨stood, -⟩ | rfl
      · exact inv.frame_of_setPlan found after plans floor x stood
      · exact ⟨_, _, (plans g).trans (if_pos ⟨rfl, plan?_lt found⟩), rfl, sound⟩
  | @send s g p o found order =>
    have moves := placePrio_moves g (planOrderFrame o) s (plan?_lt found)
    have floor := moves.sameFloor (by decide) (by decide) (by decide)
    refine inv.of_follows floor (moves.only.visitsKept (by decide)) (PlanActs.send found order).plans
      (fun j x o' held ordered => OrderSound.of_follows (inv.orders j x o' held ordered) floor (.refl x)) (fun x sent => ?_)
    rcases (mem_placePrio_iff ..).mp sent with ⟨stood, -⟩ | rfl
    · obtain ⟨y, o', held, frame, sound⟩ := inv.frames x stood
      exact ⟨y, o', held, frame, OrderSound.of_follows sound floor (.refl y)⟩
    · exact ⟨p, o, found, rfl, OrderSound.of_follows (inv.orders g p o found order) floor (.refl p)⟩
  | trans _ _ first second => exact second (first inv)

/-! Plan Request and Visit Open (R127, R150). -/

/-- A plan that a Plan Request starts returns no cabinet that a visit covers, and its slot held no plan. -/
theorem acceptPlan_plansClear {s : State} (inv : PlansClearOfVisits s) (k : PlanKind) {g : Nat} {target : Option Nat}
    (free : plan? s g = none) (away : ¬CoveredByVisit s k g target) : PlansClearOfVisits (acceptPlan k g target s).1 := by
  have plans := plan?_acceptPlan k g target s
  refine ⟨fun j q c held back => ?_, inv.entries, inv.addresses, fun j q o held order => ?_, fun x sent => ?_⟩
  · rw [plans] at held
    split at held
    · obtain rfl := Option.some.inj held
      refine Bool.eq_false_iff.mpr fun covered => away ?_
      rcases back with ⟨kind, aims⟩ | ⟨kind, group⟩
      · obtain rfl : k = .restore := kind
        obtain rfl : target = some c := aims
        exact covered
      · obtain rfl : k = .groupFromMaint := kind
        obtain ⟨r, record, same⟩ := Option.map_eq_some_iff.mp (show (cab? s c).map (·.group) = some g from group)
        exact ⟨c, (mem_members_iff ..).mpr ⟨r, record, same⟩, covered⟩
    · exact inv.clear j q c held back
  · rw [plans] at held
    split at held
    · obtain rfl := Option.some.inj held
      cases order
    · exact inv.orders j q o held order
  · obtain ⟨p, o, held, frame, sound⟩ := inv.frames x sent
    refine ⟨p, o, (plans _).trans ((if_neg fun same => ?_).trans held), frame, sound⟩
    cases (same.1 ▸ free).symm.trans held

theorem Plan.conflictsWith_iff (p : Plan) (c : Nat) (s : State) : p.conflictsWith c (groupOf? s c) = true ↔ Returns s p c := by
  simp [Plan.conflictsWith, Returns]

/-- A Visit Open that is accepted covers no cabinet that a plan returns to service. -/
theorem VisitOpens.plansClear {r : VisitReq} {k : Nat} {d : Depth} {s t : State} (h : VisitOpens r k d s t)
    (floor : SameFloor s t) (plans : t.seq.plans = s.seq.plans) (prio : t.prio = s.prio) (inv : PlansClearOfVisits s) :
    PlansClearOfVisits t := by
  have place := ((freeEntry_eq_some_iff s k).mp h.free).1
  have entered : PlansClearOfVisits (setVisit k (some (preparingVisit s r d)) s) := by
    refine ⟨fun g p c held back => Bool.eq_false_iff.mpr fun covered => ?_, inv.entries, inv.addresses, inv.orders, inv.frames⟩
    obtain ⟨j, w, stands, live, inScope⟩ := (cabCovered_iff ..).mp covered
    rw [visitEntry?_setVisit] at stands
    split at stands
    · obtain rfl := Option.some.inj stands
      have quiet := List.find?_eq_none.mp h.quiet c inScope
      exact quiet (List.any_eq_true.mpr ⟨p, (mem_toList_filterMap_id ..).mpr ⟨g, held⟩, (p.conflictsWith_iff c s).mpr back⟩)
    · exact Bool.eq_false_iff.mp (inv.clear g p c held back) ((cabCovered_iff s c).mpr ⟨j, w, stands, live, inScope⟩)
  have kept := openVisit_visitsKept (s := s) place r d
  rw [← h.opens] at kept
  exact entered.of_same ⟨floor.mode, floor.dir, floor.strs, floor.cabs⟩ kept plans (prio_subset_of_eq prio)

/-! The writes of the floor, where no plan stands (R3, R4, R18, R19). -/

/-- Without plans only the directory and the Cabinet Table matter. -/
theorem PlansClearOfVisits.of_no_plan {t : State} (plans : ∀ g, plan? t g = none) (prio : t.prio = [])
    (entries : ∀ e ∈ dirEntries t.resp.dir, e.addr ≤ 239) (addresses : ∀ c r, cab? t c = some r → cabAt? t r.addr = some c) :
    PlansClearOfVisits t :=
  have absent : ∀ {g p}, plan? t g ≠ some p := fun {g p} held => by cases (plans g).symm.trans held
  ⟨fun _ _ _ held => absurd held absent, entries, addresses, fun _ _ _ held => absurd held absent,
    fun x sent => by rw [prio] at sent; cases sent⟩

/-- Without plans the priority queue is empty. -/
theorem PlansClearOfVisits.prio_eq_nil {s : State} (inv : PlansClearOfVisits s) (plans : ∀ g, plan? s g = none) :
    s.prio = [] := by
  refine List.eq_nil_iff_forall_not_mem.mpr fun x sent => ?_
  obtain ⟨p, -, held, -⟩ := inv.frames x sent
  cases (plans _).symm.trans held

/-- An entry written to the directory with a loop address, or cleared. -/
theorem setDir_plansClear {s : State} (inv : PlansClearOfVisits s) (empty : FloorEmpty s) (index : Nat)
    {e : Option DirEntry} (inRange : ∀ x, e = some x → x.addr ≤ 239) : PlansClearOfVisits (setDir index e s) := by
  refine .of_no_plan empty.plans (inv.prio_eq_nil empty.plans) (fun x listed => ?_)
    (fun c r record => by cases (empty.cabs c).symm.trans record)
  obtain ⟨i, stands⟩ := (mem_dirEntries_iff ..).mp listed
  rw [setDir, State.withResp_resp, Vector.getElem?_setIfInBounds] at stands
  split at stands
  · split at stands
    · exact inRange x (Option.some.inj stands)
    · cases stands
  · exact inv.entries x ((mem_dirEntries_iff ..).mpr ⟨i, stands⟩)

theorem storedEntry_addr {r : NodeReq} {x : DirEntry} (stored : storedEntry r = some x) : x.addr = r.addr := by
  obtain ⟨role, -, rfl⟩ := Option.map_eq_some_iff.mp stored
  rfl

/-- A directory that passes the check has a cabinet and no entry that offends (R17). -/
theorem not_offends_of_pass {dir : Vector (Option DirEntry) 56} (pass : directoryFault dir = none) (i : Nat) :
    ¬Offends dir i := by
  classical
  intro offends
  have cabinet : ∃ i e n, CabAt dir i e n := by
    by_contra absent
    cases (directoryFault_of_no_cabinet dir fun i e n stands => absent ⟨i, e, n, stands⟩).symm.trans pass
  have some_offends : ∃ i, Offends dir i := ⟨i, offends⟩
  cases (directoryFault_of_offends dir cabinet (Nat.find_spec some_offends)
    (fun j lt => Nat.find_min some_offends lt)).symm.trans pass

/-- In a directory without offence an address finds the cabinet of its entry. -/
theorem cabAt?_of_sound {s : State} (sound : ∀ i, ¬Offends s.resp.dir i) {i : Nat} {e : DirEntry} {n : CabNode}
    (stands : CabAt s.resp.dir i e n) : cabAt? s e.addr = some n.index := by
  have listed : e ∈ dirEntries s.resp.dir := (mem_dirEntries_iff ..).mpr ⟨i, stands.1⟩
  obtain ⟨x, found⟩ := Option.isSome_iff_exists.mp
    ((List.find?_isSome (p := fun x : DirEntry => x.addr == e.addr)).mpr ⟨e, listed, beq_self_eq_true _⟩)
  have same : x.addr = e.addr := beq_iff_eq.mp (List.find?_some (p := fun x : DirEntry => x.addr == e.addr) found)
  obtain ⟨j, at_j⟩ := (mem_dirEntries_iff ..).mp (List.mem_of_find?_eq_some found)
  have apart : ∀ i j (e x : DirEntry), i < j → s.resp.dir[i]? = some (some e) → s.resp.dir[j]? = some (some x) →
      x.addr ≠ e.addr := fun i j e x lt he hx same => sound j (.inl ⟨x, hx, i, e, lt, he, same.symm⟩)
  obtain rfl : x = e := by
    rcases Nat.lt_trichotomy i j with lt | rfl | gt
    · exact absurd same (apart i j e x lt stands.1 at_j)
    · exact Option.some.inj (Option.some.inj (at_j.symm.trans stands.1))
    · exact absurd same.symm (apart j i x e gt at_j stands.1)
  have node : x.cab? = some n := (x.cab?_eq_some_iff n).mpr stands.2
  rw [cabAt?, show nodeAt? s x.addr = some x from found, Option.bind_some, node, Option.map_some]

theorem startSupervision_plansClear {s : State} (inv : PlansClearOfVisits s) (empty : FloorEmpty s)
    (pass : directoryFault s.resp.dir = none) : PlansClearOfVisits (startSupervision s) := by
  have only := (startSupervision_moves s).only
  have dir : (startSupervision s).resp.dir = s.resp.dir := by rw [startSupervision_resp]
  have sound := not_offends_of_pass pass
  refine .of_no_plan (fun g => ?_) ((only.same .prio (by decide)).trans (inv.prio_eq_nil empty.plans))
    (by rw [dir]; exact inv.entries) (fun c r record => ?_)
  · rw [plan?, only.same .seq (by decide)]; exact empty.plans g
  · obtain ⟨-, i, e, n, stands, rfl, rfl⟩ := (cab?_startSupervision_iff sound c r).mp record
    rw [cabAt?, nodeAt?, dir]
    exact cabAt?_of_sound sound stands

theorem stopSupervision_plansClear {s : State} (inv : PlansClearOfVisits s) (idle : floorBusy s = false) :
    PlansClearOfVisits (stopSupervision s) := by
  have empty := stopSupervision_floorEmpty idle
  have prio : (stopSupervision s).prio = s.prio := (stopSupervision_moves s).only.same .prio (by decide)
  refine .of_no_plan empty.plans (prio.trans (inv.prio_eq_nil ((floorBusy_eq_false_iff s).mp idle).1))
    (by rw [stopSupervision_resp]; exact inv.entries) (fun c r record => by cases (empty.cabs c).symm.trans record)

/-! The commands. -/

/-- A request keeps the plans clear when its effect does on the state without the frame. -/
theorem request_keeps_plansClear {code : Nat} {form : FieldForm} {effect : State → State × ManageReply} {s t : State}
    (h : Host.Outcome.next (φ := Fault) (ρ := Refusal) (request code form effect s) = .next t) (inv : PlansClearOfVisits s)
    (keeps : PlansClearOfVisits (dropHead .s s) → PlansClearOfVisits (effect (dropHead .s s)).1) : PlansClearOfVisits t := by
  rw [← Host.Outcome.next.inj h]
  have dropped := (dropHead_moves .s s).only.plansClear (by decide) (by decide) (by decide) (by decide) (by decide)
    (by decide) inv
  rcases request_cases code form effect s with idle | ⟨f, taken⟩
  · rwa [idle]
  · rw [taken]
    exact (enqueueReply_moves ..).only.plansClear (by decide) (by decide) (by decide) (by decide) (by decide) (by decide)
      (keeps dropped)

/-- The four writes of the floor: while SUPERVISING the first three are refused and Stop Supervision finds no plan. -/
theorem exec_writesFloor_plansClear {i : Instr} {s t : State} (unconf : UnconfiguredHoldsNothing s)
    (inv : PlansClearOfVisits s) (h : exec i s = .next t) (writes : writesFloor i = true) : PlansClearOfVisits t := by
  let u := dropHead .s s
  have empty : u.supervising = false → FloorEmpty u := fun off => dropHead_s_floorEmpty (unconf (by
    cases mode : s.resp.mode with
    | unconfigured => rfl
    | supervising => simp [u, State.supervising, mode] at off))
  have written : ∀ (code : Nat) {rest : State → State × ManageReply}, PlansClearOfVisits u →
      (FloorEmpty u → PlansClearOfVisits (rest u).1) →
      PlansClearOfVisits (refuseIf u.supervising (replyRefused code .mode) rest u).1 := fun code {rest} kept acts =>
    refuseIf_keeps_of_passed (P := PlansClearOfVisits) _ _ kept fun off => acts (empty off)
  cases i with
  | writeNodeEntry index r =>
    refine request_keeps_plansClear h inv fun kept => written 2 kept fun floor =>
      refuseIf_keeps_of_passed (P := PlansClearOfVisits) _ _ kept fun good => ?_
    refine setDir_plansClear kept floor index fun x stored => ?_
    have low : ¬239 < r.addr := by simp [nodeBad] at good; omega
    rw [storedEntry_addr stored]; omega
  | clearNodeEntry index =>
    exact request_keeps_plansClear h inv fun kept => written 3 kept fun floor =>
      refuseIf_keeps (P := PlansClearOfVisits) _ _ kept (setDir_plansClear kept floor index nofun)
  | startSupervision =>
    refine request_keeps_plansClear h inv fun kept => written 5 kept fun floor => ?_
    split
    · exact kept
    next pass => exact startSupervision_plansClear kept floor pass
  | stopSupervision =>
    exact request_keeps_plansClear h inv fun kept => refuseIf_keeps (P := PlansClearOfVisits) _ _ kept
      (refuseIf_keeps_of_passed (P := PlansClearOfVisits) _ _ kept fun idle => stopSupervision_plansClear kept idle)
  | _ => cases writes

theorem exec_keeps_plansClear {i : Instr} {s t : State} (unconf : UnconfiguredHoldsNothing s) (inPlace : PlansInPlace s)
    (inv : PlansClearOfVisits s) (h : exec i s = .next t) : PlansClearOfVisits t := by
  cases isReset : isFullReset i with
  | true =>
    rcases exec_fullReset_only h isReset with rfl | only
    · exact inv
    · refine only.plansClear (by decide) (by decide) (by decide) (by decide) (by decide) (by decide)
        (.of_no_plan (fun _ => getElem?_replicate_none_join ..) rfl (fun e listed => ?_) (fun c r record => ?_))
      · obtain ⟨i, stands⟩ := (mem_dirEntries_iff ..).mp listed
        cases (Option.join_eq_some_iff.mpr stands).symm.trans (getElem?_replicate_none_join ..)
      · cases record.symm.trans (getElem?_replicate_none_join ..)
  | false =>
    by_cases floor : writesFloor i = true
    · exact exec_writesFloor_plansClear unconf inv h floor
    have noWrite := Bool.eq_false_iff.mpr floor
    by_cases request : ∃ k g c, i = .planRequest k g c
    · obtain ⟨k, g, c, rfl⟩ := request
      refine request_keeps_plansClear h inv fun kept => ?_
      rcases planRequestEffect_cases k g c (dropHead .s s) with refused | ⟨k, free, away, accepted⟩
      · rwa [refused]
      · rw [accepted]; exact acceptPlan_plansClear kept k free away
    by_cases visit : ∃ r, i = .visitOpen r
    · obtain ⟨r, rfl⟩ := visit
      refine request_keeps_plansClear h inv fun kept => ?_
      have only := (visitOpenEffect_moves r (dropHead .s s)).only
      rcases visitOpenEffect_cases r (dropHead .s s) with same | ⟨k, d, opens⟩
      · rwa [same]
      · exact opens.plansClear (only.sameFloor (by decide) (by decide) (by decide))
          (congrArg Sequencer.plans (only.same .seq (by decide))) (only.same .prio (by decide)) kept
    · exact (exec_planActs inPlace h isReset noWrite (fun k g c same => request ⟨k, g, c, same⟩)
        (fun r same => visit ⟨r, same⟩)).plansClear inv

/-- What keeps the plans clear of the visits: the part holds no plan while UNCONFIGURED, and its plans stand in place. -/
structure PlansApart (s : State) : Prop where
  unconfigured : UnconfiguredHoldsNothing s
  inPlace : PlansInPlace s
  clear : PlansClearOfVisits s

/-- Settles O59: each of the three is kept by every command, the third with the first two of `PlansApart`; the queue of
commands is no part of them. -/
theorem everyStepKeepsVisitsAndPlansApart : Obligations.EveryStepKeepsVisitsAndPlansApart := by
  intro s t h
  refine ⟨fun inv => ?_, fun inv => ?_, fun unconf inPlace clear => ?_⟩
  · exact step_keeps (P := VisitsDisjoint) (fun _ _ kept => ⟨kept.live, kept.ids, kept.cabinets, kept.strings⟩)
      (fun _ _ _ kept ran => exec_keeps_visitsDisjoint kept ran) inv h
  · exact step_keeps (P := PlansInPlace) (fun _ _ kept => kept) (fun _ _ _ kept ran => exec_keeps_plansInPlace kept ran)
      inv h
  · refine (step_keeps (P := PlansApart) (fun s x kept => ?_) (fun i s t kept ran => ?_) ⟨unconf, inPlace, clear⟩ h).clear
    · have only := only_withPending s x
      exact ⟨fun mode => (kept.unconfigured mode).of_same rfl rfl rfl rfl rfl (kept.unconfigured mode).siteEntries,
        only.plansInPlace (by decide) kept.inPlace,
        only.plansClear (by decide) (by decide) (by decide) (by decide) (by decide) (by decide) kept.clear⟩
    · exact ⟨exec_keeps_unconfiguredHoldsNothing kept.unconfigured ran, exec_keeps_plansInPlace kept.inPlace ran,
        exec_keeps_plansClear kept.unconfigured kept.inPlace kept.clear ran⟩

end Sys2Proof.Machine
end

section
/-! PROOF. How a visit ends: Visit Close, Force Close and Cancel (R156 to R159), and the three timers of a visit (R153, R154,
R156). -/

namespace Sys2Proof.Machine

/-! The requests on one visit. -/

section
variable {s : State} {id k : Nat} {v : Visit} (sup : s.resp.mode = .supervising) (found : visitById s id = some (k, v))
include sup found

theorem onVisit_of_found (code : Nat) (allowed : VisitState → Bool) (act : Nat → Visit → State → State × ManageReply) :
    onVisit code id allowed act s = refuseIf (!allowed v.state) (replyRefused code .state) (act k v) s :=
  (refuseIf_mode_of_supervising sup _ _).trans (by rw [found])

theorem onVisit_of_state {allowed : VisitState → Bool} (code : Nat) (act : Nat → Visit → State → State × ManageReply)
    (out : allowed v.state = false) : onVisit code id allowed act s = (s, replyRefused code .state) :=
  (onVisit_of_found sup found ..).trans (refuseIf_true _ _ _ (by rw [out]; rfl))

theorem onVisit_of_allowed {allowed : VisitState → Bool} (code : Nat) (act : Nat → Visit → State → State × ManageReply)
    (fits : allowed v.state = true) : onVisit code id allowed act s = act k v s :=
  (onVisit_of_found sup found ..).trans (refuseIf_false _ _ _ (by rw [fits]; rfl))

end

/-! What the steps of a close change. -/

/-- An entry that a visit has left reads as CLOSED. -/
theorem Leaves.stateReached {k : Nat} {v : Visit} {final : VisitState} {byDoors : Bool} {s t : State}
    (h : Leaves k v final byDoors s t) : stateReached t k = .closed := by
  have freed : visitEntry? t k = none := by
    rw [visitEntry?, h.visits, Vector.getElem?_setIfInBounds]
    split
    · split <;> rfl
    next other => exact absurd rfl other
  rw [Machine.stateReached, freed]; rfl

theorem raiseOpenDoors_visits (v : Visit) (s : State) : (raiseOpenDoors v s).visits = s.visits :=
  foldl_keeps (P := fun t => t.visits = s.visits) (fun _ _ kept => (raise_visits ..).trans kept) _ rfl

/-- The record of a visit that a Visit Close takes (R156). -/
def Visit.asClosing (v : Visit) (clock : FloorClock) : Visit :=
  { v with
    state := .closing, closingFrom := some clock.sec, closeTimer := some ⟨clock.ms, v.prepareLimit * 60000⟩ }

/-- A visit is CLOSING, and announced so (R156). -/
def startClosing (k : Nat) (v : Visit) (s : State) : State :=
  visitNotice (v.asClosing s.clock) .closing (setVisit k (some (v.asClosing s.clock)) s)

theorem closeVisit_eq (k : Nat) (v : Visit) (s : State) : closeVisit k v s =
    if v.cabinets.any (doorOpen s) then startClosing k v s
    else leaveRegister k (v.asClosing s.clock) .closed true (startClosing k v s) := by
  have doors : doorsClosed (startClosing k v s) (v.asClosing s.clock) = !v.cabinets.any (doorOpen s) := rfl
  have steps : closeVisit k v s = if doorsClosed (startClosing k v s) (v.asClosing s.clock) then
      leaveRegister k (v.asClosing s.clock) .closed true (startClosing k v s) else startClosing k v s := rfl
  rw [steps, doors]
  cases v.cabinets.any (doorOpen s) <;> rfl

theorem stateReached_startClosing {s : State} {k : Nat} {v : Visit} (place : k < 8) :
    stateReached (startClosing k v s) k = .closing := by
  have stands : visitEntry? (startClosing k v s) k = some (v.asClosing s.clock) := by
    rw [startClosing, visitNotice, visitEntry_queueNotice]
    exact (visitEntry?_setVisit ..).trans (if_pos ⟨rfl, place⟩)
  rw [stateReached, stands]; rfl

/-! The effects of the three requests (R156 to R158). -/

section
variable {s : State} {id k : Nat} {v : Visit} (sup : s.resp.mode = .supervising) (found : visitById s id = some (k, v))
include sup found

theorem visitCloseEffect_of_other (other : v.state ≠ .active) : visitCloseEffect id s = (s, replyRefused 28 .state) :=
  onVisit_of_state sup found 28 _ (beq_eq_false_iff_ne.mpr other)

theorem visitCloseEffect_of_active (active : v.state = .active) : visitCloseEffect id s =
    (closeVisit k v s, replyWith 28 (.visitState (stateReached (closeVisit k v s) k))) :=
  onVisit_of_allowed sup found 28 _ (beq_iff_eq.mpr active)

theorem visitCloseEffect_of_open (active : v.state = .active) (stands : v.cabinets.any (doorOpen s) = true) :
    visitCloseEffect id s = (startClosing k v s, replyWith 28 (.visitState .closing)) := by
  rw [visitCloseEffect_of_active sup found active, closeVisit_eq, if_pos stands,
    stateReached_startClosing (visitEntry?_lt (findVisit_some found).1)]

theorem visitCloseEffect_of_shut (active : v.state = .active) (shut : v.cabinets.any (doorOpen s) = false) :
    visitCloseEffect id s = (leaveRegister k (v.asClosing s.clock) .closed true (startClosing k v s),
      replyWith 28 (.visitState .closed)) := by
  rw [visitCloseEffect_of_active sup found active, closeVisit_eq, if_neg (Bool.eq_false_iff.mp shut),
    (leaveRegister_leaves ..).stateReached]

theorem visitForceCloseEffect_of_other (notActive : v.state ≠ .active) (notClosing : v.state ≠ .closing) :
    visitForceCloseEffect id s = (s, replyRefused 29 .state) :=
  onVisit_of_state sup found 29 _ (Bool.eq_false_iff.mpr fun shelves =>
    (v.state.shelves_iff.mp shelves).elim notActive notClosing)

theorem visitForceCloseEffect_of_shelves (shelves : v.state = .active ∨ v.state = .closing) :
    visitForceCloseEffect id s = (forceCloseVisit k v s, replyOk 29) :=
  onVisit_of_allowed sup found 29 _ (v.state.shelves_iff.mpr shelves)

theorem visitCancelEffect_of_other (other : v.state ≠ .preparing) :
    visitCancelEffect id s = (s, replyRefused 30 .state) :=
  onVisit_of_state sup found 30 _ (beq_eq_false_iff_ne.mpr other)

theorem visitCancelEffect_of_preparing (preparing : v.state = .preparing) :
    visitCancelEffect id s = (leaveRegister k v .cancelled false s, replyOk 30) :=
  onVisit_of_allowed sup found 30 _ (beq_iff_eq.mpr preparing)

end

/-! The timers. -/

section
variable {s : State} {id k : Nat} {v : Visit} {w : Timer} (found : visitById s id = some (k, v)) (out : RunOut w s)
include found out

theorem prepareExpires_of_runOut (preparing : v.state = .preparing) (runs : v.prepareTimer = some w) :
    prepareExpires id s = leaveRegister k v .cancelled false s := by
  simp only [prepareExpires, found]
  exact if_pos ⟨preparing, timerDue_of_runOut runs out⟩

theorem durationExpires_of_runOut (shelves : v.state = .active ∨ v.state = .closing) (runs : v.durationTimer = some w) :
    durationExpires id s = raise codeVisitOverstay (.cabinet v.first) (some (detailNat v.id))
      (setVisit k (some { v with overstay := true, durationTimer := none }) s) := by
  simp only [durationExpires, found]
  exact if_pos ⟨v.state.shelves_iff.mpr shelves, timerDue_of_runOut runs out⟩

theorem closeExpires_of_runOut (closing : v.state = .closing) (runs : v.closeTimer = some w) : closeExpires id s =
    raiseOpenDoors v (setVisit k (some { v with closeLimitPassed := true, closeTimer := none }) s) := by
  simp only [closeExpires, found]
  exact if_pos ⟨closing, timerDue_of_runOut runs out⟩

end

/-- Settles O44: each request and each timer finds its visit, and its effect on the state it is taken in is one of the
equations above. -/
theorem visitEndsByRequestOrTimer : Obligations.VisitEndsByRequestOrTimer := by
  refine ⟨fun id k v f s sup found => ?_, fun id k v w s opened found out => ?_⟩
  · intro u tells refused stands w closing raised forced
    have sup' : u.resp.mode = .supervising := sup
    have found' : visitById u id = some (k, v) := found
    refine ⟨fun takes => ⟨fun other => ?_, fun active isOpen => ?_, fun active shut => ?_⟩,
      fun takes => ⟨fun notActive notClosing => ?_, fun shelves => ?_⟩,
      fun takes => ⟨fun other => ?_, fun preparing => ?_⟩⟩
    · exact next_request_of_effect takes (visitCloseEffect_of_other sup' found' other)
    · exact next_request_of_effect takes (visitCloseEffect_of_open sup' found' active isOpen)
    · exact ⟨_, next_request_of_effect takes (visitCloseEffect_of_shut sup' found' active shut), leaveRegister_leaves ..⟩
    · exact next_request_of_effect takes (visitForceCloseEffect_of_other sup' found' notActive notClosing)
    · have placed : placeForce v (raiseOpenDoors v u) = forced := by
        rw [placeForce, raiseOpenDoors_visits]; rfl
      refine ⟨_, next_request_of_effect takes (visitForceCloseEffect_of_shelves sup' found' shelves), ?_⟩
      rw [forceCloseVisit, placed]
      exact leaveRegister_leaves ..
    · exact next_request_of_effect takes (visitCancelEffect_of_other sup' found' other)
    · exact ⟨_, next_request_of_effect takes (visitCancelEffect_of_preparing sup' found' preparing),
        leaveRegister_leaves ..⟩
  · intro stored
    have runs : ∀ f : State → State, Host.Outcome.next (ρ := Refusal) (φ := Fault) (whenRunning f s) = .next (f s) :=
      fun f => congrArg _ (whenRunning_of_opened opened f)
    refine ⟨fun preparing timer => ⟨_, runs _, ?_⟩, fun shelves timer => (runs _).trans (congrArg _ ?_),
      fun closing timer => (runs _).trans (congrArg _ ?_)⟩
    · rw [prepareExpires_of_runOut found out preparing timer]
      exact leaveRegister_leaves ..
    · exact durationExpires_of_runOut found out shelves timer
    · exact closeExpires_of_runOut found out closing timer

end Sys2Proof.Machine
end

section
/-! PROOF. A hand-off at the Visit Register: the work of the visit whose scope holds the cabinet (R152, R153, R155, R156), then
the door judgement (R160). -/

namespace Sys2Proof.Machine

/-! What the judgements ask. -/

/-- The modes that meet each depth (R148). -/
theorem cabinetMeets_iff (s : State) (d : Depth) (c : Nat) : cabinetMeets s d c = true ↔
    d = .doorOnly ∨ ∃ r m, cab? s c = some r ∧ r.reported = some m ∧
      (m = .isolated ∨ (d = .bypass ∧ (m = .maintBypass ∨ m = .standby))) := by
  have reads : ∀ p : Mode → Prop, (∃ m, (cab? s c).bind (·.reported) = some m ∧ p m) ↔
      ∃ r m, cab? s c = some r ∧ r.reported = some m ∧ p m := fun p => by
    simp only [Option.bind_eq_some_iff]
    exact ⟨fun ⟨m, ⟨r, record, mode⟩, holds⟩ => ⟨r, m, record, mode, holds⟩,
      fun ⟨r, m, record, mode, holds⟩ => ⟨m, ⟨r, record, mode⟩, holds⟩⟩
  rw [← reads, cabinetMeets]
  cases d with
  | doorOnly => exact ⟨fun _ => .inl rfl, fun _ => rfl⟩
  | bypass => cases (cab? s c).bind (·.reported) <;> simp [Depth.meets, or_comm]
  | isolation => simp [Depth.meets]

theorem conditionMet_iff (s : State) (v : Visit) :
    conditionMet s v = true ↔ ∀ c ∈ v.cabinets, cabinetMeets s v.depth c = true := List.all_eq_true

theorem doorOpen_iff (s : State) (c : Nat) : doorOpen s c = true ↔ ∃ r, cab? s c = some r ∧ r.door = .opened := by
  simp [doorOpen, Option.any_eq_true]

theorem doorsClosed_iff (s : State) (v : Visit) :
    doorsClosed s v = true ↔ ∀ j ∈ v.cabinets, ∀ r, cab? s j = some r → r.door ≠ .opened := by
  simp [doorsClosed, ← Bool.not_eq_true, doorOpen_iff]

theorem doorsClosed_congr {s t : State} (h : t.cabs = s.cabs) (v : Visit) : doorsClosed t v = doorsClosed s v := by
  have same : doorOpen t = doorOpen s := funext fun c => by rw [doorOpen, doorOpen, cab?, cab?, h]
  rw [doorsClosed, doorsClosed, same]

/-! The visit of the cabinet (R152). -/

theorem visitOfCabinet_eq_none_iff (s : State) (c : Nat) :
    visitOfCabinet s c = none ↔ ∀ k v, visitEntry? s k = some v → c ∉ v.cabinets := by
  simp [visitOfCabinet, findVisit_eq_none_iff]

/-- With disjoint scopes the search finds the one visit that holds the cabinet. -/
theorem visitOfCabinet_of_mem {s : State} {k c : Nat} {v : Visit} (apart : VisitsDisjoint s)
    (held : visitEntry? s k = some v) (inScope : c ∈ v.cabinets) : visitOfCabinet s c = some (k, v) := by
  obtain ⟨⟨j, w⟩, found⟩ : ∃ x, visitOfCabinet s c = some x :=
    Option.ne_none_iff_exists'.mp fun absent => (visitOfCabinet_eq_none_iff s c).mp absent k v held inScope
  obtain ⟨stands, holds⟩ := findVisit_some found
  obtain rfl := apart.cabinets j k w v c stands held (List.contains_iff_mem.mp holds) inScope
  rw [found, Option.some.inj (stands.symm.trans held)]

/-! The work by the visit's state (R153, R155, R156). -/

section
variable {s : State} {h : VisitHand} {k : Nat} {v : Visit}

theorem visitWork_of_none (absent : ∀ k v, visitEntry? s k = some v → h.cabinet ∉ v.cabinets) : visitWork h s = s := by
  rw [visitWork, (visitOfCabinet_eq_none_iff ..).mpr absent]

variable (found : visitOfCabinet s h.cabinet = some (k, v))
include found

theorem visitWork_of_preparing (state : v.state = .preparing) : visitWork h s = judgePreparing k v s := by
  simp only [visitWork, found, state]

theorem visitWork_of_active (state : v.state = .active) : visitWork h s = judgeCondition v h.cabinet s := by
  simp only [visitWork, found, state]

theorem visitWork_of_closing (state : v.state = .closing) :
    visitWork h s = judgeClosingDoor k v h.cabinet h.door (judgeCondition v h.cabinet s) := by
  simp only [visitWork, found, state]

end

theorem judgeCondition_of_met {s : State} {v : Visit} {c : Nat} (meets : cabinetMeets s v.depth c = true) :
    judgeCondition v c s = clear codeVisitConditionLost (.cabinet c) s := by
  rw [judgeCondition, meets]; rfl

theorem judgeCondition_of_lost {s : State} {v : Visit} {c : Nat} (fails : cabinetMeets s v.depth c = false) :
    judgeCondition v c s = raise codeVisitConditionLost (.cabinet c) (some (detailNat v.id)) s := by
  rw [judgeCondition, fails]; rfl

theorem judgeCondition_cabs (v : Visit) (c : Nat) (s : State) : (judgeCondition v c s).cabs = s.cabs := by
  unfold judgeCondition raiseOrClear; split
  · exact raise_cabs ..
  · exact clear_cabs ..

/-! The door of a cabinet of a CLOSING visit (R156). -/

section
variable {s : State} {k c : Nat} {v : Visit}

theorem judgeClosingDoor_opened_within (intime : v.closeLimitPassed = false) : judgeClosingDoor k v c .opened s = s :=
  if_neg (Bool.eq_false_iff.mp intime)

theorem judgeClosingDoor_opened_late (late : v.closeLimitPassed = true) : judgeClosingDoor k v c .opened s =
    raise codeDoorLeftOpen (.cabinet c) (some (detailNat v.id)) s := if_pos late

theorem judgeClosingDoor_closed : judgeClosingDoor k v c .closed s =
    if doorsClosed s v then leaveRegister k v .closed true (clear codeDoorLeftOpen (.cabinet c) s)
    else clear codeDoorLeftOpen (.cabinet c) s := by
  have same : doorsClosed (clear codeDoorLeftOpen (.cabinet c) s) v = doorsClosed s v := doorsClosed_congr (clear_cabs ..) v
  exact same ▸ rfl

end

/-! The door judgement by where the cabinet stands (R160). -/

theorem inOpenScope_iff (s : State) (c : Nat) : inOpenScope s c = true ↔
    ∃ k v, visitEntry? s k = some v ∧ (v.state = .active ∨ v.state = .closing) ∧ c ∈ v.cabinets := by
  simp only [inOpenScope, any_visitsIn_shelves_iff, List.contains_iff_mem]

section
variable {s : State} {c : Nat}

theorem doorJudgement_of_scope (within : inOpenScope s c = true) : doorJudgement c .opened s = s ∧
    doorJudgement c .closed s = clear codeDoorOpenUnscoped (.cabinet c) s :=
  ⟨if_pos within, if_pos within⟩

theorem doorJudgement_of_forceClosed {id : Nat} (outside : inOpenScope s c = false) (listed : forceClosed? s c = some id) :
    doorJudgement c .opened s = raise codeDoorLeftOpen (.cabinet c) (some (detailNat id)) s ∧
    doorJudgement c .closed s = clear codeDoorOpenUnscoped (.cabinet c) (clear codeVisitOverstay (.cabinet c)
      (clear codeDoorLeftOpen (.cabinet c) (releaseForce c s))) := by
  constructor <;> simp only [doorJudgement, outside, listed] <;> rfl

theorem doorJudgement_of_unscoped (outside : inOpenScope s c = false) (unlisted : forceClosed? s c = none) :
    doorJudgement c .opened s = raise codeDoorOpenUnscoped (.cabinet c) none s ∧
    doorJudgement c .closed s = clear codeDoorOpenUnscoped (.cabinet c) s := by
  constructor <;> simp only [doorJudgement, outside, unlisted] <;> rfl

theorem forceClosed?_eq_none_iff : forceClosed? s c = none ↔ ∀ id, (c, id) ∉ s.visits.forceClose := by
  simp only [forceClosed?, Option.map_eq_none_iff, List.find?_eq_none, beq_iff_eq]
  exact ⟨fun others id listed => others _ listed rfl, fun unlisted x listed same => unlisted x.2 (same ▸ listed)⟩

end

/-- Settles O45: the oldest hand-off is taken, the visit found is the one that holds the cabinet, and the door judgement asks
where the cabinet stands. -/
theorem visitHandOffWorksThenJudgesTheDoor : Obligations.VisitHandOffWorksThenJudgesTheDoor := by
  refine ⟨fun h rest s opened queue => ?_, fun c s => ?_⟩
  · intro got c u judged meets
    have taken : got = judged (visitWork h u) := by
      refine congrArg Host.Outcome.next ((whenRunning_of_opened opened _).trans ?_)
      simp only [queue]
      rfl
    have works : ∀ {x : State}, visitWork h u = x → got = judged x := fun work => work ▸ taken
    refine ⟨fun absent => works (visitWork_of_none absent), fun k v apart held inScope => ?_⟩
    intro w active kept lost shut closes
    have found : visitOfCabinet u c = some (k, v) :=
      visitOfCabinet_of_mem (s := u) ⟨apart.live, apart.ids, apart.cabinets, apart.strings⟩ held inScope
    have met : ∀ x, cabinetMeets u v.depth x = true ↔ meets v x := cabinetMeets_iff u v.depth
    have fails : ∀ x, ¬meets v x → cabinetMeets u v.depth x = false := fun x lacks =>
      Bool.eq_false_iff.mpr (mt (met x).mp lacks)
    have closing : v.state = .closing → ∀ x, judgeCondition v c u = x → closes x := fun state x judgedAs => by
      have work : visitWork h u = judgeClosingDoor k v c h.door x := by
        rw [← judgedAs]; exact visitWork_of_closing found state
      have doors : doorsClosed x v = true ↔ ∀ j ∈ v.cabinets, ∀ r, cab? s j = some r → r.door ≠ .opened := by
        rw [← judgedAs, doorsClosed_congr (judgeCondition_cabs v c u)]
        exact doorsClosed_iff u v
      refine ⟨fun door intime => works ?_, fun door late => works ?_, fun door some_open => works ?_,
        fun door all_closed => ⟨_, works ?_, leaveRegister_leaves k v .closed true (shut x)⟩⟩ <;> rw [work, door]
      · exact judgeClosingDoor_opened_within intime
      · exact judgeClosingDoor_opened_late late
      · refine judgeClosingDoor_closed.trans (if_neg fun closed => ?_)
        obtain ⟨j, inScope, r, record, isOpen⟩ := some_open
        exact doors.mp closed j inScope r record isOpen
      · exact judgeClosingDoor_closed.trans (if_pos (doors.mpr all_closed))
    refine ⟨fun state all => works ?_, fun state some_fails => works ?_, fun state ok => works ?_, fun state lacks => works ?_,
      fun state ok => closing state _ (judgeCondition_of_met ((met c).mpr ok)),
      fun state lacks => closing state _ (judgeCondition_of_lost (fails c lacks))⟩
    · refine (visitWork_of_preparing found state).trans (if_pos ?_)
      exact (conditionMet_iff u v).mpr fun x inScope => (met x).mpr (all x inScope)
    · obtain ⟨x, inScope, lacks⟩ := some_fails
      refine (visitWork_of_preparing found state).trans (if_neg fun all => lacks ?_)
      exact (met x).mp ((conditionMet_iff u v).mp all x inScope)
    · exact (visitWork_of_active found state).trans (judgeCondition_of_met ((met c).mpr ok))
    · exact (visitWork_of_active found state).trans (judgeCondition_of_lost (fails c lacks))
  · intro open' shut within unscoped
    have scope : inOpenScope s c = true ↔ within := inOpenScope_iff s c
    have outside : ¬within → inOpenScope s c = false := fun away => Bool.eq_false_iff.mpr (mt scope.mp away)
    refine ⟨fun inside => doorJudgement_of_scope (scope.mpr inside), fun away id listed => ?_, fun away unlisted => ?_⟩
    · exact doorJudgement_of_forceClosed (outside away) (by rw [forceClosed?, listed]; rfl)
    · exact doorJudgement_of_unscoped (outside away) (forceClosed?_eq_none_iff.mpr unlisted)

end Sys2Proof.Machine
end

section
/-! PROOF. Visit Open: its checks in their order (R149, R150), and the visit that an accepted one enters (R151, R153). -/

namespace Sys2Proof.Machine

/-! What the request has to be (R149). -/

/-- The fields are in their ranges and the cabinet scope is not empty. -/
def VisitFormed (r : VisitReq) : Prop :=
  (1 ≤ r.id ∧ r.id ≤ 255) ∧ r.cabinets ≠ [] ∧ (∀ c ∈ r.cabinets, c < 24) ∧ (∀ i ∈ r.strings, i < 32) ∧
    1 ≤ r.depth ∧ r.depth ≤ 3

/-- No index of the two scopes offends. -/
def ScopesPass (r : VisitReq) (cab str : Nat → Prop) : Prop :=
  (∀ c ∈ r.cabinets, ¬cab c) ∧ ∀ i ∈ r.strings, ¬str i

/-- The lowest cabinet index that offends, or the lowest string index when no cabinet does. -/
def LowestOffender (r : VisitReq) (cab str : Nat → Prop) (d : Nat) : Prop :=
  (d ∈ r.cabinets ∧ cab d ∧ ∀ c ∈ r.cabinets, cab c → d ≤ c) ∨
    ((∀ c ∈ r.cabinets, ¬cab c) ∧ d ∈ r.strings ∧ str d ∧ ∀ i ∈ r.strings, str i → d ≤ i)

theorem Depth.ofCode_toCode (d : Depth) : Depth.ofCode d.toCode = some d := by cases d <;> rfl

theorem Depth.exists_ofCode_iff (n : Nat) : (∃ d, Depth.ofCode n = some d) ↔ 1 ≤ n ∧ n ≤ 3 := by
  constructor
  · rintro ⟨d, code⟩
    unfold Depth.ofCode at code
    split at code
    any_goals omega
    cases code
  · rintro ⟨low, high⟩
    obtain rfl | rfl | rfl : n = 1 ∨ n = 2 ∨ n = 3 := by omega
    exacts [⟨_, rfl⟩, ⟨_, rfl⟩, ⟨_, rfl⟩]

theorem visitFormed_iff (r : VisitReq) :
    VisitFormed r ↔ visitBadValue r = false ∧ ∃ d, Depth.ofCode r.depth = some d := by
  simp [VisitFormed, visitBadValue, Depth.exists_ofCode_iff, Nat.one_le_iff_ne_zero, and_assoc]

/-! The scope checks (R149, R150). -/

theorem find?_range_filter_of_least {l : List Nat} {p : Nat → Bool} {n d : Nat} (listed : d ∈ l) (inRange : d < n)
    (holds : p d = true) (least : ∀ c ∈ l, p c = true → d ≤ c) : ((List.range n).filter l.contains).find? p = some d := by
  rw [List.find?_filter, List.find?_range_eq_some]
  refine ⟨by simp [listed, holds], List.mem_range.mpr inRange, fun j below => ?_⟩
  have fails : ¬(l.contains j = true ∧ p j = true) := fun ⟨inList, offends⟩ =>
    Nat.not_le_of_lt below (least j (List.contains_iff_mem.mp inList) offends)
  rw [decide_eq_false fails]; rfl

section
variable {r : VisitReq} {cab str : Nat → Bool} {C S : Nat → Prop} (cabs : ∀ c, cab c = true ↔ C c)
  (strs : ∀ i, str i = true ↔ S i)
include cabs strs

theorem offending_of_passes (passes : ScopesPass r C S) : offending r cab str = none := by
  refine (offending_eq_none_iff ..).mpr ⟨fun c inScope => ?_, fun i inScope => ?_⟩
  · exact Bool.eq_false_iff.mpr (mt (cabs c).mp (passes.1 c ((mem_cabinetScope_iff r c).mp inScope).2))
  · exact Bool.eq_false_iff.mpr (mt (strs i).mp (passes.2 i ((mem_stringScope_iff r i).mp inScope).2))

theorem offending_of_lowest (formed : VisitFormed r) {d : Nat} (lowest : LowestOffender r C S d) : offending r cab str = some d := by
  obtain ⟨-, -, cabRange, strRange, -⟩ := formed
  rcases lowest with ⟨listed, offends, least⟩ | ⟨quiet, listed, offends, least⟩
  · rw [offending, cabinetScope, find?_range_filter_of_least listed (cabRange d listed) ((cabs d).mpr offends)
      fun c inList offends => least c inList ((cabs c).mp offends)]
    rfl
  · have none_found : (cabinetScope r).find? cab = none := List.find?_eq_none.mpr fun c inScope offends =>
      quiet c ((mem_cabinetScope_iff r c).mp inScope).2 ((cabs c).mp offends)
    rw [offending, none_found, Option.none_or, stringScope, find?_range_filter_of_least listed (strRange d listed)
      ((strs d).mpr offends) fun i inList offends => least i inList ((strs i).mp offends)]

end

theorem unknownString_iff (s : State) (cs : List Nat) (i : Nat) :
    ((str? s i).isNone || !(strNode? s i).any (fun n => cs.contains n.owner)) = true ↔
      str? s i = none ∨ ¬∃ n, strNode? s i = some n ∧ n.owner ∈ cs := by
  rw [Bool.or_eq_true, Option.isNone_iff_eq_none, Bool.not_eq_true', ← Bool.not_eq_true, Option.any_eq_true]
  simp only [List.contains_iff_mem]

theorem anyPlanConflicts_iff (s : State) (c : Nat) :
    (s.seq.plans.toList.filterMap id).any (·.conflictsWith c (groupOf? s c)) = true ↔
      ∃ g p, plan? s g = some p ∧ Returns s p c := by
  simp only [List.any_eq_true, mem_toList_filterMap_id, Plan.conflictsWith_iff]
  exact ⟨fun ⟨p, ⟨g, held⟩, back⟩ => ⟨g, p, held, back⟩, fun ⟨g, p, held, back⟩ => ⟨p, ⟨g, held⟩, back⟩⟩

theorem conflictOffender_eq_offending (s : State) (r : VisitReq) : conflictOffender s r =
    offending r (fun c => (s.seq.plans.toList.filterMap id).any (·.conflictsWith c (groupOf? s c))) (fun _ => false) := by
  have strings : (stringScope r).find? (fun _ => false) = none := List.find?_eq_none.mpr fun _ _ => Bool.false_ne_true
  rw [offending, strings, Option.or_none]
  rfl

/-! The checks in their order (R149). -/

theorem refuseOffender_some {o : Option Nat} {n : Nat} (offends : o = some n) (c : Cause)
    (rest : State → State × ManageReply) (s : State) : refuseOffender o c rest s = (s, replyRefusedAt 27 c n) := by
  subst offends; rfl

theorem refuseOffender_none {o : Option Nat} (passes : o = none) (c : Cause) (rest : State → State × ManageReply)
    (s : State) : refuseOffender o c rest s = rest s := by
  subst passes; rfl

/-- The state and the answer of a Visit Open that passes its checks (R151). -/
def enterVisit (r : VisitReq) (k : Nat) (d : Depth) (s : State) : State × ManageReply :=
  let v := preparingVisit s r d
  (openVisit k v s, { replyClamped 27 (v.duration != r.duration || v.prepareLimit != r.prepareLimit) with
    result := .visitState (stateReached (openVisit k v s) k) })

section
variable {s : State} {r : VisitReq} {k : Nat} {d : Depth}

theorem visitOpenEffect_of_unconfigured (unconf : s.resp.mode = .unconfigured) :
    visitOpenEffect r s = (s, replyRefused 27 .mode) :=
  refuseIf_true _ _ _ (by simp [State.supervising, unconf])

variable (sup : s.resp.mode = .supervising)
include sup

theorem visitOpenEffect_of_unformed (bad : ¬VisitFormed r) : visitOpenEffect r s = (s, replyRefused 27 .badValue) := by
  refine (refuseIf_mode_of_supervising sup _ _).trans ?_
  cases coded : Depth.ofCode r.depth with
  | none => rfl
  | some d =>
    refine refuseIf_true _ _ _ (by_contra fun good => bad ?_)
    exact (visitFormed_iff r).mpr ⟨Bool.eq_false_iff.mpr good, d, coded⟩

variable (coded : Depth.ofCode r.depth = some d) (formed : VisitFormed r)
include coded formed

theorem visitOpenEffect_of_full (full : freeEntry s = none) : visitOpenEffect r s = (s, replyRefused 27 .full) := by
  refine (refuseIf_mode_of_supervising sup _ _).trans ?_
  simp only [coded]
  exact (refuseIf_false _ _ _ ((visitFormed_iff r).mp formed).1).trans (by simp only [full])

variable (free : freeEntry s = some k)
include free

/-- With a free entry the checks of the id and of the scopes are left. -/
theorem visitOpenEffect_of_free : visitOpenEffect r s = refuseIf (visitById s r.id).isSome (replyRefused 27 .id)
    (refuseOffender (scopeOffender s r) .scope (refuseOffender (overlapOffender s r) .overlap
      (refuseOffender (conflictOffender s r) .planConflict (enterVisit r k d)))) s := by
  refine (refuseIf_mode_of_supervising sup _ _).trans ?_
  simp only [coded]
  exact (refuseIf_false _ _ _ ((visitFormed_iff r).mp formed).1).trans (by simp only [free]; rfl)

theorem visitOpenEffect_of_id (taken : visitById s r.id ≠ none) : visitOpenEffect r s = (s, replyRefused 27 .id) :=
  (visitOpenEffect_of_free sup coded formed free).trans (refuseIf_true _ _ _ (Option.isSome_iff_ne_none.mpr taken))

variable (fresh : visitById s r.id = none)
include fresh

theorem visitOpenEffect_of_fresh : visitOpenEffect r s = refuseOffender (scopeOffender s r) .scope
    (refuseOffender (overlapOffender s r) .overlap (refuseOffender (conflictOffender s r) .planConflict
      (enterVisit r k d))) s :=
  (visitOpenEffect_of_free sup coded formed free).trans (refuseIf_false _ _ _ (by rw [fresh]; rfl))

theorem visitOpenEffect_of_scope {n : Nat} (offends : scopeOffender s r = some n) :
    visitOpenEffect r s = (s, replyRefusedAt 27 .scope n) :=
  (visitOpenEffect_of_fresh sup coded formed free fresh).trans (refuseOffender_some offends ..)

variable (known : scopeOffender s r = none)
include known

theorem visitOpenEffect_of_known : visitOpenEffect r s = refuseOffender (overlapOffender s r) .overlap
    (refuseOffender (conflictOffender s r) .planConflict (enterVisit r k d)) s :=
  (visitOpenEffect_of_fresh sup coded formed free fresh).trans (refuseOffender_none known ..)

theorem visitOpenEffect_of_overlap {n : Nat} (offends : overlapOffender s r = some n) :
    visitOpenEffect r s = (s, replyRefusedAt 27 .overlap n) :=
  (visitOpenEffect_of_known sup coded formed free fresh known).trans (refuseOffender_some offends ..)

variable (apart : overlapOffender s r = none)
include apart

theorem visitOpenEffect_of_conflict {n : Nat} (offends : conflictOffender s r = some n) :
    visitOpenEffect r s = (s, replyRefusedAt 27 .planConflict n) :=
  (visitOpenEffect_of_known sup coded formed free fresh known).trans ((refuseOffender_none apart ..).trans
    (refuseOffender_some offends ..))

theorem visitOpenEffect_of_quiet (quiet : conflictOffender s r = none) : visitOpenEffect r s = enterVisit r k d s :=
  (visitOpenEffect_of_known sup coded formed free fresh known).trans ((refuseOffender_none apart ..).trans
    (refuseOffender_none quiet ..))

end

/-! The cabinets that leave the Force Close list (R151). -/

/-- The alarms of a cabinet that leaves the Force Close list are cleared. -/
def clearForced (c : Nat) (s : State) : State :=
  clear codeDoorLeftOpen (.cabinet c) (clear codeVisitOverstay (.cabinet c) s)

theorem clearForced_alarm_congr {s t : State} (c : Nat) (alarm : t.alarm = s.alarm) (clock : t.clock = s.clock) :
    (clearForced c t).alarm = (clearForced c s).alarm :=
  clear_alarm_congr _ _ (clear_alarm_congr _ _ alarm clock) clock

theorem foldl_clearForced_clock (cs : List Nat) (s : State) :
    (cs.foldl (fun s c => clearForced c s) s).clock = s.clock :=
  foldl_keeps (P := fun t => t.clock = s.clock) (by exact fun _ _ kept => kept) cs rfl

theorem foldl_release_visits (cs : List Nat) (s : State) :
    (cs.foldl (fun s c => clearForced c (releaseForce c s)) s).visits =
      { s.visits with forceClose := s.visits.forceClose.filter (fun p => !cs.contains p.1) } := by
  induction cs generalizing s with
  | nil => simp
  | cons c cs ih =>
    have here : (clearForced c (releaseForce c s)).visits =
        { s.visits with forceClose := s.visits.forceClose.filter (fun p => p.1 != c) } := rfl
    rw [List.foldl_cons, ih, here]
    simp only [List.filter_filter, List.contains_cons, Bool.not_or, bne, Bool.and_comm]

theorem foldl_release_alarm (cs : List Nat) {s t : State} (alarm : t.alarm = s.alarm) (clock : t.clock = s.clock) :
    (cs.foldl (fun s c => clearForced c (releaseForce c s)) t).alarm =
      (cs.foldl (fun s c => clearForced c s) s).alarm := by
  induction cs generalizing s t with
  | nil => exact alarm
  | cons c cs ih => exact ih (clearForced_alarm_congr c (t := releaseForce c t) alarm clock) clock

theorem forceClosed?_isSome (s : State) (c : Nat) :
    (forceClosed? s c).isSome = s.visits.forceClose.any (fun p => p.1 == c) := by
  rw [forceClosed?, Option.isSome_map, List.isSome_find?]

theorem releaseScoped_eq (cs : List Nat) (s : State) : releaseScoped cs s =
    (cs.filter (fun c => s.visits.forceClose.any (fun p => p.1 == c))).foldl
      (fun s c => clearForced c (releaseForce c s)) s := by
  simp only [← forceClosed?_isSome]
  rfl

/-- Whether only the listed cabinets of a scope are taken off the list or all of them, the same pairs stay. -/
theorem releaseScoped_visits (cs : List Nat) (s : State) : (releaseScoped cs s).visits =
    { s.visits with forceClose := s.visits.forceClose.filter (fun p => !cs.contains p.1) } := by
  rw [releaseScoped_eq, foldl_release_visits]
  refine congrArg (VisitRegister.mk _) (List.filter_congr fun p listed => congrArg Bool.not ?_)
  rw [Bool.eq_iff_iff, List.contains_iff_mem, List.contains_iff_mem, List.mem_filter, List.any_eq_true]
  exact and_iff_left ⟨p, listed, beq_self_eq_true _⟩

/-! The visit enters (R151, R153). -/

/-- The visit stands in its entry as PREPARING, its cabinets are off the Force Close list, and it is announced. -/
def startPreparing (k : Nat) (v : Visit) (s : State) : State :=
  visitNotice v .preparing (releaseScoped v.cabinets (setVisit k (some v) s))

theorem startPreparing_visits (k : Nat) (v : Visit) (s : State) : (startPreparing k v s).visits =
    ⟨s.visits.entries.setIfInBounds k (some v), s.visits.forceClose.filter (fun p => !v.cabinets.contains p.1)⟩ :=
  (queueNotice_visits ..).trans (releaseScoped_visits ..)

theorem startPreparing_only (k : Nat) (v : Visit) (s : State) : Only [.visits, .alarm] s (startPreparing k v s) :=
  (((setVisit_moves ..).mono (by decide)).trans ((releaseScoped_moves ..).trans
    ((visitNotice_moves ..).mono (by decide)))).only

/-- The alarms and notices of a visit that starts PREPARING. -/
def preparingAlarms (v : Visit) (s : State) : State :=
  visitNotice v .preparing ((v.cabinets.filter (fun c => s.visits.forceClose.any (fun p => p.1 == c))).foldl
    (fun s c => clearForced c s) s)

theorem preparingAlarms_clock (v : Visit) (s : State) : (preparingAlarms v s).clock = s.clock :=
  (queueNotice_clock ..).trans (foldl_clearForced_clock ..)

theorem startPreparing_alarm {s u : State} (k : Nat) (v : Visit) (alarm : u.alarm = s.alarm) (clock : u.clock = s.clock)
    (visits : u.visits = s.visits) : (startPreparing k v u).alarm = (preparingAlarms v s).alarm := by
  have listed : (setVisit k (some v) u).visits.forceClose = s.visits.forceClose :=
    by rw [← visits]; rfl
  have cleared := foldl_release_alarm (v.cabinets.filter (fun c => s.visits.forceClose.any (fun p => p.1 == c)))
    (t := setVisit k (some v) u) alarm clock
  rw [← listed, ← releaseScoped_eq, listed] at cleared
  refine queueNotice_alarm_congr _ _ cleared ?_
  have kept := ((releaseScoped_moves v.cabinets (setVisit k (some v) u)).only.same .clock (by decide)).trans clock
  exact kept.trans (foldl_clearForced_clock ..).symm

/-- The record of a visit that activates (R153). -/
def Visit.asActive (v : Visit) (clock : FloorClock) : Visit :=
  { v with
    state := .active, activeFrom := some clock.sec, prepareTimer := none,
    durationTimer := some ⟨clock.ms, v.duration * 60000⟩ }

theorem activateVisit_visits (k : Nat) (v : Visit) (s : State) : (activateVisit k v s).visits =
    { s.visits with entries := s.visits.entries.setIfInBounds k (some (v.asActive s.clock)) } := rfl

theorem activateVisit_alarm {s t : State} (k : Nat) (v : Visit) (alarm : t.alarm = s.alarm) (clock : t.clock = s.clock) :
    (activateVisit k v t).alarm = (visitNotice v .active s).alarm :=
  queueNotice_alarm_congr _ _ (s := s) (t := setVisit k (some (v.asActive t.clock)) t) alarm clock

theorem conditionMet_congr {s t : State} (h : t.cabs = s.cabs) (v : Visit) : conditionMet t v = conditionMet s v := by
  have same : cabinetMeets t v.depth = cabinetMeets s v.depth := funext fun c => by
    rw [cabinetMeets, cabinetMeets, cab?, cab?, h]
  rw [conditionMet, conditionMet, same]

/-- The condition is judged on the Cabinet Table, which the steps before leave alone. -/
theorem openVisit_eq (k : Nat) (v : Visit) (s : State) : openVisit k v s =
    if conditionMet s v then activateVisit k v (startPreparing k v s) else startPreparing k v s := by
  rw [← conditionMet_congr ((startPreparing_only k v s).same .cabs (by decide)) v]
  rfl

theorem stateReached_of_entries {t : State} {k : Nat} {x : Visit} {entries : Vector (Option Visit) 8} (place : k < 8)
    (h : t.visits.entries = entries.setIfInBounds k (some x)) : stateReached t k = x.state := by
  rw [stateReached, visitEntry?, h, Vector.getElem?_setIfInBounds_self, if_pos place]
  rfl

/-- The answer of a Visit Open gives the state of the record it leaves, and says when a limit was clamped. -/
theorem enterVisit_of_entries {r : VisitReq} {k : Nat} {d : Depth} {s t : State} {x : Visit}
    {entries : Vector (Option Visit) 8} (place : k < 8) (opened : openVisit k (preparingVisit s r d) s = t)
    (h : t.visits.entries = entries.setIfInBounds k (some x)) : enterVisit r k d s = (t,
      ⟨27, if clamp 1 720 r.duration ≠ r.duration ∨ clamp 1 120 r.prepareLimit ≠ r.prepareLimit then .okClamped else .ok,
        none, none, .visitState x.state⟩) := by
  rw [enterVisit, opened, stateReached_of_entries place h]
  simp only [replyClamped, preparingVisit, Bool.or_eq_true, bne_iff_ne]

/-- In a request with cabinets in range a pair of the list is of the scope when its cabinet is carried. -/
theorem contains_cabinetScope {r : VisitReq} (inRange : ∀ c ∈ r.cabinets, c < 24) (c : Nat) :
    (cabinetScope r).contains c = r.cabinets.contains c := by
  rw [Bool.eq_iff_iff, List.contains_iff_mem, List.contains_iff_mem, mem_cabinetScope_iff]
  exact ⟨And.right, fun listed => ⟨inRange c listed, listed⟩⟩

/-- Settles O43: each refusal is the first check that fails; an accepted request enters the record of `preparingVisit`, which
activates when `conditionMet` says so. -/
theorem visitOpenIsCheckedThenPrepares : Obligations.VisitOpenIsCheckedThenPrepares := by
  intro r f s takes u got refused formed room fresh passes lowest unknownCab unknownStr takenCab takenStr planned
  have scope_cab : ∀ c, (cab? u c).isNone = true ↔ unknownCab c := fun _ => Option.isNone_iff_eq_none
  have scope_str := unknownString_iff u r.cabinets
  have taken_cab : ∀ c, cabCovered u c = true ↔ takenCab c := cabCovered_iff u
  have taken_str : ∀ i, strCovered u i = true ↔ takenStr i := strCovered_iff u
  have plan_cab := anyPlanConflicts_iff u
  have plan_str : ∀ i : Nat, false = true ↔ False := fun _ => iff_of_false Bool.false_ne_true id
  refine ⟨fun unconf => next_request_of_effect takes (visitOpenEffect_of_unconfigured unconf), fun sup => ?_, ?_⟩
  · have sup' : u.resp.mode = .supervising := sup
    refine ⟨fun bad => next_request_of_effect takes (visitOpenEffect_of_unformed sup' bad), fun good noRoom => ?_,
      fun good hasRoom taken => ?_, fun good hasRoom new => ?_⟩
    all_goals
      have good' : VisitFormed r := good
      obtain ⟨-, d, coded⟩ := (visitFormed_iff r).mp good'
    · refine next_request_of_effect takes (visitOpenEffect_of_full sup' coded good' ?_)
      refine Option.eq_none_iff_forall_ne_some.mpr fun k free => noRoom ⟨k, ?_⟩
      obtain ⟨place, empty, -⟩ := (freeEntry_eq_some_iff u k).mp free
      exact ⟨place, empty⟩
    all_goals
      obtain ⟨k, free⟩ : ∃ k, freeEntry u = some k := by
        obtain ⟨j, place, empty⟩ := hasRoom
        exact Option.isSome_iff_exists.mp (List.find?_isSome.mpr ⟨j, List.mem_range.mpr place,
          Option.isNone_iff_eq_none.mpr empty⟩)
    · exact next_request_of_effect takes (visitOpenEffect_of_id sup' coded good' free
        fun absent => taken ((visitById_eq_none_iff u r.id).mp absent))
    · have new' := (visitById_eq_none_iff u r.id).mpr new
      refine ⟨fun n low => next_request_of_effect takes (visitOpenEffect_of_scope sup' coded good' free new'
        (offending_of_lowest scope_cab scope_str good' low)), fun known => ?_⟩
      have known' : scopeOffender u r = none := offending_of_passes scope_cab scope_str known
      refine ⟨fun n low => next_request_of_effect takes (visitOpenEffect_of_overlap sup' coded good' free new' known'
        (offending_of_lowest taken_cab taken_str good' low)), fun apart n low => ?_⟩
      have apart' : overlapOffender u r = none := offending_of_passes taken_cab taken_str apart
      exact next_request_of_effect takes (visitOpenEffect_of_conflict sup' coded good' free new' known' apart'
        ((conflictOffender_eq_offending u r).trans (offending_of_lowest plan_cab plan_str good' low)))
  · intro k d sup good new known apart quiet code place empty lower lasts limit met v w freed prepares status opens
    have good' : VisitFormed r := good
    obtain ⟨-, -, inRange, -⟩ := good
    have coded : Depth.ofCode r.depth = some d := code ▸ d.ofCode_toCode
    have free : freeEntry u = some k := (freeEntry_eq_some_iff u k).mpr ⟨place, empty, lower⟩
    have accepted : visitOpenEffect r u = enterVisit r k d u := visitOpenEffect_of_quiet (s := u) sup coded good' free
      ((visitById_eq_none_iff u r.id).mpr new) (offending_of_passes scope_cab scope_str known)
      (offending_of_passes taken_cab taken_str apart)
      ((conflictOffender_eq_offending u r).trans (offending_of_passes plan_cab plan_str quiet))
    have condition : conditionMet u v = true ↔ met := by
      refine (conditionMet_iff u v).trans ⟨fun all c listed => ?_, fun all c inScope => ?_⟩
      · exact (cabinetMeets_iff u d c).mp (all c ((mem_cabinetScope_iff r c).mpr ⟨inRange c listed, listed⟩))
      · exact (cabinetMeets_iff u d c).mpr (all c ((mem_cabinetScope_iff r c).mp inScope).2)
    have visits : (startPreparing k v u).visits = ⟨s.visits.entries.setIfInBounds k (some v),
        s.visits.forceClose.filter (fun p => !r.cabinets.contains p.1)⟩ := by
      refine (startPreparing_visits k v u).trans ?_
      simp only [show v.cabinets = cabinetScope r from rfl, contains_cabinetScope inRange]
      rfl
    have alarm : (startPreparing k v u).alarm = prepares.alarm := startPreparing_alarm k v (s := s) rfl rfl rfl
    have clock : (startPreparing k v u).clock = s.clock := (startPreparing_only k v u).same .clock (by decide)
    have only := (openVisit_moves k v u).only
    refine ⟨fun ok => ?_, fun lacks => ?_⟩
    · have opened : openVisit k v u = activateVisit k v (startPreparing k v u) :=
        (openVisit_eq k v u).trans (if_pos (condition.mpr ok))
      have after : (activateVisit k v (startPreparing k v u)).visits = ⟨s.visits.entries.setIfInBounds k (some w),
          s.visits.forceClose.filter (fun p => !r.cabinets.contains p.1)⟩ := by
        rw [activateVisit_visits, visits, clock, Vector.setIfInBounds_setIfInBounds]
        rfl
      refine ⟨_, next_request_of_effect takes (accepted.trans
        (enterVisit_of_entries place opened (congrArg VisitRegister.entries after))), after, ?_, opened ▸ only⟩
      exact activateVisit_alarm k v (s := prepares) alarm (clock.trans (preparingAlarms_clock v s).symm)
    · have opened : openVisit k v u = startPreparing k v u :=
        (openVisit_eq k v u).trans (if_neg fun all => lacks (condition.mp all))
      exact ⟨_, next_request_of_effect takes (accepted.trans
        (enterVisit_of_entries place opened (congrArg VisitRegister.entries visits))), visits, alarm, opened ▸ only⟩

end Sys2Proof.Machine
end

section
/-! PROOF. Bytes on the line (R177 to R179): the two- and four-byte fields and two's complement are read back as they were
written and written back as they were read, and so is a row of fields of one width. -/

namespace Sys2Proof.Machine

/-! One field. -/

theorem toNat_byteOf (n : Nat) : (byteOf n).toNat = n % 256 := BitVec.toNat_ofNat ..

theorem byteOf_toNat (b : Byte) : byteOf b.toNat = b := (BitVec.ofNat_toNat 8 b).trans (BitVec.setWidth_eq b)

theorem byteAt_lt (p : List Byte) (i : Nat) : byteAt p i < 256 := BitVec.isLt _

theorem be16_lt (p : List Byte) (i : Nat) : be16 p i < 65536 := by
  have high := byteAt_lt p i
  have low := byteAt_lt p (i + 1)
  unfold be16; omega

theorem byteAt_eq_drop (p : List Byte) (i : Nat) : byteAt p i = byteAt (p.drop i) 0 := by
  simp [byteAt, List.getD_eq_getElem?_getD]

theorem byteAt_drop (p : List Byte) (i j : Nat) : byteAt (p.drop i) j = byteAt p (i + j) := by
  simp [byteAt, List.getD_eq_getElem?_getD]

theorem be16_drop (p : List Byte) (i j : Nat) : be16 (p.drop i) j = be16 p (i + j) := by
  simp only [be16, byteAt_drop, Nat.add_assoc]

theorem be32_drop (p : List Byte) (i j : Nat) : be32 (p.drop i) j = be32 p (i + j) := by
  simp only [be32, be16_drop, Nat.add_assoc]

theorem bytes16_length (n : Nat) : (bytes16 n).length = 2 := rfl

theorem be16_bytes16 {n : Nat} (fits : n < 65536) (rest : List Byte) : be16 (bytes16 n ++ rest) 0 = n := by
  show (byteOf (n / 256)).toNat * 256 + (byteOf n).toNat = n
  rw [toNat_byteOf, toNat_byteOf]; omega

theorem bytes16_be16_cons (a b : Byte) (rest : List Byte) : bytes16 (be16 (a :: b :: rest) 0) = [a, b] := by
  have high : byteOf ((a.toNat * 256 + b.toNat) / 256) = a := by
    rw [show (a.toNat * 256 + b.toNat) / 256 = a.toNat by have := b.isLt; omega, byteOf_toNat]
  have low : byteOf (a.toNat * 256 + b.toNat) = b := by
    apply BitVec.eq_of_toNat_eq
    rw [toNat_byteOf]; have := b.isLt; omega
  show [byteOf ((a.toNat * 256 + b.toNat) / 256), byteOf (a.toNat * 256 + b.toNat)] = [a, b]
  rw [high, low]

/-- The four bytes of a word are the bytes of its two halves. -/
theorem bytes32_eq (w : Word32) : bytes32 w = bytes16 (w.toNat / 65536) ++ bytes16 (w.toNat % 65536) := by
  have byte : ∀ s, w.extractLsb' s 8 = byteOf (w.toNat / 2 ^ s) := fun s => by
    apply BitVec.eq_of_toNat_eq
    rw [toNat_byteOf, BitVec.extractLsb'_toNat, Nat.shiftRight_eq_div_pow]
  have congr : ∀ m n : Nat, m % 256 = n % 256 → byteOf m = byteOf n := fun m n same =>
    BitVec.eq_of_toNat_eq (by rw [toNat_byteOf, toNat_byteOf, same])
  simp only [bytes32, bytes16, byte, List.cons_append, List.nil_append, List.cons.injEq, and_true]
  refine ⟨congr _ _ ?_, congr _ _ ?_, congr _ _ ?_, congr _ _ ?_⟩ <;> omega

theorem be32_bytes32 (w : Word32) (rest : List Byte) : be32 (bytes32 w ++ rest) 0 = w.toNat := by
  have high := be16_bytes16 (n := w.toNat / 65536) (by have := w.isLt; omega)
    (bytes16 (w.toNat % 65536) ++ rest)
  have low := be16_bytes16 (n := w.toNat % 65536) (by omega) rest
  have second : be16 (bytes32 w ++ rest) 2 = be16 (bytes16 (w.toNat % 65536) ++ rest) 0 := by rw [bytes32_eq]; rfl
  have first : be16 (bytes32 w ++ rest) 0 = be16 (bytes16 (w.toNat / 65536) ++ (bytes16 (w.toNat % 65536) ++ rest)) 0 := by
    rw [bytes32_eq, List.append_assoc]
  rw [be32, first, second, high, low]; omega

theorem signed16_toNat_ofInt {i : Int} (fits : isSigned16 i) : signed16 (BitVec.ofInt 16 i).toNat = i := by
  obtain ⟨low, high⟩ := fits
  rw [BitVec.toNat_ofInt, signed16]
  split <;> omega

theorem toNat_ofInt_signed16 {n : Nat} (fits : n < 65536) : (BitVec.ofInt 16 (signed16 n)).toNat = n := by
  rw [BitVec.toNat_ofInt, signed16]
  split <;> omega

/-! A field read at its place in a payload and written again is the bytes that stand there. -/

section
variable {p : List Byte} {i : Nat}

theorem byteOf_byteAt (inside : i < p.length) : [byteOf (byteAt p i)] = (p.drop i).take 1 := by
  have long : 1 ≤ (p.drop i).length := by rw [List.length_drop]; omega
  rw [byteAt_eq_drop]
  match p.drop i, long with
  | a :: rest, _ => exact congrArg (fun b => [b]) (byteOf_toNat a)

theorem bytes16_be16 (inside : i + 1 < p.length) : bytes16 (be16 p i) = (p.drop i).take 2 := by
  have long : 2 ≤ (p.drop i).length := by rw [List.length_drop]; omega
  rw [show be16 p i = be16 (p.drop i) 0 from (be16_drop p i 0).symm]
  match p.drop i, long with
  | a :: b :: rest, _ => exact bytes16_be16_cons a b rest

theorem bytes32_be32 (inside : i + 3 < p.length) : bytes32 (BitVec.ofNat 32 (be32 p i)) = (p.drop i).take 4 := by
  have high := be16_lt p i
  have low := be16_lt p (i + 2)
  have whole : be32 p i = be16 p i * 65536 + be16 p (i + 2) := rfl
  rw [bytes32_eq, BitVec.toNat_ofNat, whole, Nat.mod_eq_of_lt (by omega),
    show (be16 p i * 65536 + be16 p (i + 2)) / 65536 = be16 p i by omega,
    show (be16 p i * 65536 + be16 p (i + 2)) % 65536 = be16 p (i + 2) by omega,
    bytes16_be16 (by omega), bytes16_be16 (by omega), ← List.drop_drop, ← List.take_add]

end

/-! A row of fields of one width. -/

theorem flatMap_length_of_width {α : Type} {write : α → List Byte} {width : Nat} (size : ∀ x, (write x).length = width)
    (l : List α) : (l.flatMap write).length = width * l.length := by
  simp [List.length_flatMap, size, Nat.mul_comm]

/-- A row that is written and read field by field is as it was. -/
theorem map_range_read_flatMap {α : Type} {write : α → List Byte} {read : List Byte → α} {width : Nat}
    (size : ∀ x, (write x).length = width) (xs : List α) (reads : ∀ x ∈ xs, ∀ rest, read (write x ++ rest) = x)
    (rest : List Byte) :
    (List.range xs.length).map (fun j => read ((xs.flatMap write ++ rest).drop (width * j))) = xs := by
  induction xs with
  | nil => rfl
  | cons x xs ih =>
    have head : read ((x :: xs).flatMap write ++ rest) = x := by
      rw [List.flatMap_cons, List.append_assoc]; exact reads x List.mem_cons_self _
    have tail : ∀ j, ((x :: xs).flatMap write ++ rest).drop (width * (j + 1)) =
        (xs.flatMap write ++ rest).drop (width * j) := fun j => by
      rw [List.flatMap_cons, List.append_assoc, Nat.mul_succ, Nat.add_comm, ← List.drop_drop, ← size x, List.drop_left]
    rw [List.length_cons, List.range_succ_eq_map, List.map_cons, List.map_map, Nat.mul_zero, List.drop_zero, head]
    simp only [Function.comp_def, Nat.succ_eq_add_one, tail]
    rw [ih fun y listed => reads y (List.mem_cons_of_mem x listed)]

/-- A row that is read and written field by field gives its bytes back. -/
theorem flatMap_map_range_read {α : Type} {write : α → List Byte} {read : List Byte → α} {width : Nat}
    (writes : ∀ q, width ≤ q.length → write (read q) = q.take width) (n : Nat) : ∀ q : List Byte, width * n ≤ q.length →
    ((List.range n).map (fun j => read (q.drop (width * j)))).flatMap write = q.take (width * n) := by
  induction n with
  | zero => intro q _; simp
  | succ n ih =>
    intro q long
    rw [Nat.mul_succ] at long
    have rest := ih (q.drop width) (by rw [List.length_drop]; omega)
    simp only [List.drop_drop] at rest
    rw [List.range_succ_eq_map, List.map_cons, List.map_map, List.flatMap_cons, Nat.mul_zero, List.drop_zero,
      writes q (by omega), Nat.mul_succ, Nat.add_comm (width * n), List.take_add, ← rest]
    simp only [Function.comp_def, Nat.succ_eq_add_one, Nat.mul_succ, Nat.add_comm width]

end Sys2Proof.Machine
end

section
/-! PROOF. The receiver (R165 to R168, R173, R174): what it does with a character, with idle line time, and at each end of a
frame; the checks of a complete frame. -/

namespace Sys2Proof.Machine

/-! A port after a write. -/

@[simp] theorem port_withPort (s : State) (p : Port) (x : PortState) : (s.withPort p x).port p = x := by cases p <;> rfl

@[simp] theorem withPort_withPort (s : State) (p : Port) (x y : PortState) :
    (s.withPort p x).withPort p y = s.withPort p y := by cases p <;> rfl

@[simp] theorem withPort_bridge (s : State) (p : Port) (x : PortState) : (s.withPort p x).bridge = s.bridge := by
  cases p <;> rfl

/-! A character (R166, R167). -/

section
variable {s : State} {p : Port} {b : Byte} {parity stop : Bool}

theorem exec_characterReceived_of_opened (opened : s.bridge = .opened) : exec (.characterReceived p b parity stop) s =
    .next (s.withPort p ((s.port p).receive b (charFaulty b parity stop))) :=
  congrArg Host.Outcome.next (whenRunning_of_opened opened _)

end

section
variable {x : PortState} {b : Byte} {faulty : Bool}

theorem Rx.mayBegin_iff (r : Rx) : r.mayBegin = true ↔ r.phase = .idle ∨ (r.phase = .waitIdle ∧ 48 ≤ r.idleBits) := by
  rw [Rx.mayBegin, Bool.or_eq_true, beq_iff_eq, Bool.and_eq_true, beq_iff_eq, decide_eq_true_iff]; rfl

/-- The start bit after idle begins a frame under the settings of the port. -/
theorem PortState.receive_of_begin (begins : x.rx.phase = .idle ∨ (x.rx.phase = .waitIdle ∧ 48 ≤ x.rx.idleBits)) :
    x.receive b faulty = x.frameChar (rxBegin x.settings) b faulty :=
  if_pos (x.rx.mayBegin_iff.mpr begins)

theorem PortState.receive_of_inFrame (phase : x.rx.phase = .inFrame) (goesOn : x.rx.ended = false) :
    x.receive b faulty = x.frameChar x.rx b faulty := by
  have noBegin : ¬x.rx.mayBegin = true := by simp [x.rx.mayBegin_iff, phase]
  simp [PortState.receive, noBegin, phase, goesOn]

theorem PortState.receive_of_early (phase : x.rx.phase = .waitIdle) (early : x.rx.idleBits < 48) :
    x.receive b faulty = { x with rx := { x.rx with idleBits := 0 } } := by
  have noBegin : ¬x.rx.mayBegin = true := by simp [x.rx.mayBegin_iff, phase, early]
  simp [PortState.receive, noBegin, phase]

theorem PortState.frameChar_of_sound (r : Rx) (sound : faulty = false) :
    x.frameChar r b faulty = { x with rx := r.take b } := by simp [PortState.frameChar, sound]

theorem PortState.frameChar_of_faulty (r : Rx) (bad : faulty = true) :
    x.frameChar r b faulty = { x with rx := r.refuse, counters := x.counters.repeated } := by
  simp [PortState.frameChar, bad]

end

/-! Idle line time (R165, R167). -/

theorem exec_idleDetected_of_waiting {s : State} {p : Port} (bits : Nat) (opened : s.bridge = .opened)
    (waits : (s.port p).rx.phase = .waitIdle) : exec (.idleDetected p bits) s =
      .next (s.withPort p { s.port p with rx := { (s.port p).rx with
        idleBits := (s.port p).rx.idleBits + bits,
        phase := if 48 ≤ (s.port p).rx.idleBits + bits then .idle else .waitIdle } }) := by
  have counts : ∀ r : Rx, r.phase = .waitIdle → r.idle bits = { r with
      idleBits := r.idleBits + bits, phase := if 48 ≤ r.idleBits + bits then .idle else .waitIdle } := by
    intro r waits
    simp only [Rx.idle, waits]; rfl
  refine congrArg Host.Outcome.next ((whenRunning_of_opened opened _).trans ?_)
  rw [modPort, counts _ waits]

/-! A frame that is dropped, and a sound frame (R167, R174). -/

theorem dropCounted_eq_frameLost (p : Port) (count : Counters → Counters) (s : State) :
    dropCounted p count s = frameLost p (s.port p).rx.idleBits count s := by
  cases p <;> rfl

/-- The line time that has run out counts on in the receiver that gives the frame up. -/
theorem dropCounted_of_idle_eq_frameLost (p : Port) (idle : Nat) (count : Counters → Counters) (s : State) :
    dropCounted p count (modPort p (fun x => { x with rx := { x.rx with idleBits := idle } }) s) =
      frameLost p idle count s := by
  cases p <;> rfl

/-- Below 32 sound frames the count reaches 32 exactly from 31 (R174). -/
theorem soundFrame_eq_frameSound {p : Port} {x : PortState} (below : x.sound < 32) (s : State) :
    soundFrame p (s.withPort p x) = frameSound p x s := by
  rw [soundFrame, frameSound]
  simp only [port_withPort, withPort_withPort]
  by_cases last : x.sound = 31
  · rw [if_neg (by omega), if_pos last]
  · rw [if_pos (by omega), if_neg last]

/-! The ends of a frame that is not complete (R166, R167). -/

theorem Rx.exhausted_of_few {r : Rx} (few : r.refusals < 5) : r.exhausted = false := decide_eq_false (Nat.not_le.mpr few)

section
variable {s : State} {p : Port}

theorem exec_characterWaitExpiry_of_gap {bits : Nat} (opened : s.bridge = .opened)
    (phase : (s.port p).rx.phase = .inFrame) (goesOn : (s.port p).rx.ended = false)
    (gap : 12 * (s.port p).rx.settings.waitLimit < (s.port p).rx.idleBits + bits) :
    exec (.characterWaitExpiry p bits) s =
      .next (frameLost p ((s.port p).rx.idleBits + bits) Counters.truncate s) := by
  refine congrArg Host.Outcome.next ((whenRunning_of_opened opened _).trans ?_)
  have runs : (s.port p).rx.phase = .inFrame ∧ (!(s.port p).rx.ended) = true := ⟨phase, by simp [goesOn]⟩
  rw [← dropCounted_of_idle_eq_frameLost, waitExpires]
  dsimp only
  rw [if_pos runs]
  cases p <;> exact if_pos gap

theorem exec_payloadLengthTooLong_of_long (opened : s.bridge = .opened) (phase : (s.port p).rx.phase = .inFrame)
    (header : 5 ≤ (s.port p).rx.taken.length) (long : 128 < byteAt (s.port p).rx.taken 4)
    (few : (s.port p).rx.refusals < 5) :
    exec (.payloadLengthTooLong p) s = .next (frameLost p (s.port p).rx.idleBits Counters.truncate s) := by
  refine congrArg Host.Outcome.next ((whenRunning_of_opened opened _).trans ?_)
  have drops : (s.port p).rx.phase = .inFrame ∧ (s.port p).rx.tooLong ∧ (!(s.port p).rx.exhausted) = true :=
    ⟨phase, by simp [Rx.tooLong, Rx.payloadLength, header, maxPayload, long],
      by rw [Rx.exhausted_of_few few]; rfl⟩
  rw [← dropCounted_eq_frameLost]
  exact if_pos drops

theorem exec_abandonedRx_of_exhausted (opened : s.bridge = .opened) (phase : (s.port p).rx.phase = .inFrame)
    (many : 5 ≤ (s.port p).rx.refusals) :
    exec (.abandonedRx p) s = .next (frameLost p (s.port p).rx.idleBits Counters.abandonRx s) := by
  refine congrArg Host.Outcome.next ((whenRunning_of_opened opened _).trans ?_)
  rw [← dropCounted_eq_frameLost]
  exact if_pos ⟨phase, decide_eq_true many⟩

end

/-- Settles O6: the cases of `PortState.receive`, and each end of an incomplete frame is a `frameLost`. -/
theorem receiverTakesWaitsAndDrops : Obligations.ReceiverTakesWaitsAndDrops := by
  refine ⟨fun p b parity stop s opened => ?_, fun p bits s opened waits => exec_idleDetected_of_waiting bits opened waits,
    fun p s opened phase => ⟨fun bits goesOn gap => exec_characterWaitExpiry_of_gap opened phase goesOn gap,
      fun header long few => exec_payloadLengthTooLong_of_long opened phase header long few,
      fun many => exec_abandonedRx_of_exhausted opened phase many⟩⟩
  simp only [exec_characterReceived_of_opened opened]
  refine ⟨fun begins => ?_, fun phase goesOn => ?_, fun phase early => ?_⟩
  · rw [PortState.receive_of_begin begins]
    exact ⟨fun sound => by rw [PortState.frameChar_of_sound _ sound]; rfl,
      fun bad => by rw [PortState.frameChar_of_faulty _ bad]; rfl⟩
  · rw [PortState.receive_of_inFrame phase goesOn]
    exact ⟨fun sound => by rw [PortState.frameChar_of_sound _ sound]; rfl,
      fun bad => by rw [PortState.frameChar_of_faulty _ bad]; rfl⟩
  · rw [PortState.receive_of_early phase early]

/-! The checks of a complete frame (R168). -/

theorem exec_frameComplete_of_complete {s : State} {p : Port} (opened : s.bridge = .opened)
    (phase : (s.port p).rx.phase = .inFrame) (complete : (s.port p).rx.complete = true)
    (few : (s.port p).rx.refusals < 5) : exec (.frameComplete p) s = .next (checkFrame p s) := by
  refine congrArg Host.Outcome.next ((whenRunning_of_opened opened _).trans ?_)
  exact if_pos ⟨phase, complete, by rw [Rx.exhausted_of_few few]; rfl⟩

theorem Rx.crcOk_iff (r : Rx) : r.crcOk = true ↔ BitVec.ofNat 16 (be16 r.taken (5 + byteAt r.taken 4)) =
    crc16 (r.taken.take (5 + byteAt r.taken 4)) := beq_iff_eq

theorem droppedDestination_iff (p : Port) (k : FrameKind) (dest : Nat) : droppedDestination p k dest = true ↔
    (241 ≤ dest ∧ dest ≤ 254) ∨ (p = .f ∧ k = .manage ∧ dest = 240) := by
  simp [droppedDestination, Config.supervisorAddr, and_assoc]

section
variable {s : State} {p : Port} {k : FrameKind}

theorem checkFrame_of_bad_crc (bad : ¬(s.port p).rx.crcOk = true) :
    checkFrame p s = frameLost p (s.port p).rx.idleBits Counters.failCrc s := by
  simp [checkFrame, bad, dropCounted_eq_frameLost]

theorem checkFrame_of_no_kind (crc : (s.port p).rx.crcOk = true)
    (uncoded : FrameKind.ofCode (byteAt (s.port p).rx.taken 2) = none) :
    checkFrame p s = frameLost p (s.port p).rx.idleBits Counters.truncate s := by
  simp [checkFrame, crc, uncoded, dropCounted_eq_frameLost]

theorem checkFrame_of_misaddressed (crc : (s.port p).rx.crcOk = true)
    (coded : FrameKind.ofCode (byteAt (s.port p).rx.taken 2) = some k)
    (dropped : droppedDestination p k (byteAt (s.port p).rx.taken 0) = true) : checkFrame p s =
      soundFrame p (s.withPort p { (s.port p).leaveFrame with counters := (s.port p).counters.dropAddress }) := by
  simp only [checkFrame, crc, coded, dropped]; rfl

theorem checkFrame_of_full (crc : (s.port p).rx.crcOk = true)
    (coded : FrameKind.ofCode (byteAt (s.port p).rx.taken 2) = some k)
    (kept : ¬droppedDestination p k (byteAt (s.port p).rx.taken 0) = true) (full : 8 ≤ (s.port p).inq.length) :
    checkFrame p s = frameLost p (s.port p).rx.idleBits Counters.overran s := by
  simp [checkFrame, crc, coded, kept, inboundPlaces, full, dropCounted_eq_frameLost]

theorem checkFrame_of_passed (crc : (s.port p).rx.crcOk = true)
    (coded : FrameKind.ofCode (byteAt (s.port p).rx.taken 2) = some k)
    (kept : ¬droppedDestination p k (byteAt (s.port p).rx.taken 0) = true) (room : (s.port p).inq.length < 8) :
    checkFrame p s = soundFrame p (s.withPort p ((s.port p).enqueue ((s.port p).rx.frame k))) := by
  have free : ¬inboundPlaces ≤ (s.port p).inq.length := Nat.not_le.mpr room
  simp only [checkFrame, crc, coded, kept, if_neg free]; rfl

end

/-- Settles O7: one lemma for each way through `checkFrame`. -/
theorem completeFrameIsCheckedInOrder : Obligations.CompleteFrameIsCheckedInOrder := by
  intro p s opened phase complete few below
  simp only [exec_frameComplete_of_complete opened phase complete few]
  have crc := (s.port p).rx.crcOk_iff
  refine ⟨fun bad => congrArg _ (checkFrame_of_bad_crc (bad ∘ crc.mp)), fun good uncoded => congrArg _
    (checkFrame_of_no_kind (crc.mpr good) uncoded), fun k good coded => ?_⟩
  have dest := droppedDestination_iff p k (byteAt (s.port p).rx.taken 0)
  refine ⟨fun bad => congrArg _ ?_, fun kept full => congrArg _
    (checkFrame_of_full (crc.mpr good) coded (kept ∘ dest.mp) full), fun kept room => congrArg _ ?_⟩
  · rw [checkFrame_of_misaddressed (crc.mpr good) coded (dest.mpr bad)]
    exact soundFrame_eq_frameSound (x := _) (by exact below) s
  · rw [checkFrame_of_passed (crc.mpr good) coded (kept ∘ dest.mp) room, ← good]
    exact soundFrame_eq_frameSound (x := _) (by exact below) s

end Sys2Proof.Machine
end

section
/-! PROOF. The report layouts (R179): a report is read back from its bytes, a payload that passes the form tests is read
and gives its bytes back, and the others fail with the cause that R23 and R25 give. -/

namespace Sys2Proof.Machine

/-! The enumerated bytes of a cabinet report (R178). -/

theorem Mode.ofCode_toCode (m : Mode) : Mode.ofCode m.toCode = some m := by cases m <;> rfl

theorem BypassStatus.ofCode_toCode (b : BypassStatus) : BypassStatus.ofCode b.toCode = some b := by cases b <;> rfl

theorem Door.ofCode_toCode (d : Door) : Door.ofCode d.toCode = some d := by cases d <;> rfl

theorem Mode.ofCode_eq_some_iff (n : Nat) (m : Mode) : Mode.ofCode n = some m ↔ m.toCode = n := by
  refine ⟨fun coded => ?_, fun code => code ▸ m.ofCode_toCode⟩
  unfold Mode.ofCode at coded
  split at coded <;> cases coded <;> rfl

theorem BypassStatus.ofCode_eq_some_iff (n : Nat) (b : BypassStatus) : BypassStatus.ofCode n = some b ↔ b.toCode = n := by
  refine ⟨fun coded => ?_, fun code => code ▸ b.ofCode_toCode⟩
  unfold BypassStatus.ofCode at coded
  split at coded <;> cases coded <;> rfl

theorem Door.ofCode_eq_some_iff (n : Nat) (d : Door) : Door.ofCode n = some d ↔ d.toCode = n := by
  refine ⟨fun coded => ?_, fun code => code ▸ d.ofCode_toCode⟩
  unfold Door.ofCode at coded
  split at coded <;> cases coded <;> rfl

theorem Mode.exists_toCode_iff (n : Nat) : (∃ m : Mode, m.toCode = n) ↔ 1 ≤ n ∧ n ≤ 7 := by
  constructor
  · rintro ⟨m, rfl⟩
    cases m <;> decide
  · rintro ⟨low, high⟩
    obtain rfl | rfl | rfl | rfl | rfl | rfl | rfl : n = 1 ∨ n = 2 ∨ n = 3 ∨ n = 4 ∨ n = 5 ∨ n = 6 ∨ n = 7 := by omega
    exacts [⟨.isolated, rfl⟩, ⟨.standby, rfl⟩, ⟨.online, rfl⟩, ⟨.onBattery, rfl⟩, ⟨.staticBypass, rfl⟩,
      ⟨.maintBypass, rfl⟩, ⟨.fault, rfl⟩]

theorem BypassStatus.exists_toCode_iff (n : Nat) : (∃ b : BypassStatus, b.toCode = n) ↔ 1 ≤ n ∧ n ≤ 3 := by
  constructor
  · rintro ⟨b, rfl⟩
    cases b <;> decide
  · rintro ⟨low, high⟩
    obtain rfl | rfl | rfl : n = 1 ∨ n = 2 ∨ n = 3 := by omega
    exacts [⟨.good, rfl⟩, ⟨.poor, rfl⟩, ⟨.absent, rfl⟩]

theorem Door.exists_toCode_iff (n : Nat) : (∃ d : Door, d.toCode = n) ↔ n ≤ 1 := by
  constructor
  · rintro ⟨d, rfl⟩
    cases d <;> decide
  · intro high
    obtain rfl | rfl : n = 0 ∨ n = 1 := by omega
    exacts [⟨.closed, rfl⟩, ⟨.opened, rfl⟩]

/-! The cabinet report. -/

/-- A cabinet report is read from a payload exactly when its fields stand there as the layout has them. -/
theorem parseCabReport_eq_some_iff (p : List Byte) (r : CabReport) : parseCabReport p = some r ↔
    (byteAt p 0 = 1 ∧ p.length = 17) ∧ r.mode.toCode = byteAt p 1 ∧ r.bypass.toCode = byteAt p 12 ∧
      r.door.toCode = byteAt p 13 ∧ r = ⟨r.mode, be16 p 2, be16 p 4, be16 p 6, be16 p 8, signed16 (be16 p 10), r.bypass,
        r.door, be16 p 14, byteAt p 16 != 0⟩ := by
  simp only [← Mode.ofCode_eq_some_iff, ← BypassStatus.ofCode_eq_some_iff, ← Door.ofCode_eq_some_iff]
  unfold parseCabReport
  split
  next form =>
    constructor
    · intro read
      split at read
      next m b d mode bypass door => cases read; exact ⟨form, mode, bypass, door, rfl⟩
      · cases read
    · rintro ⟨-, mode, bypass, door, same⟩
      simp only [mode, bypass, door]
      exact congrArg some same.symm
  next noForm => exact iff_of_false nofun fun read => noForm read.1

theorem parseCabReport_cabReportBytes {r : CabReport} (load : r.load < 65536) (echo : r.echo < 65536)
    (inV : r.inV < 65536) (outV : r.outV < 65536) (temp : isSigned16 r.temp) (fault : r.fault < 65536) :
    parseCabReport (cabReportBytes r) = some r := by
  have field : ∀ {n i : Nat} {rest : List Byte}, n < 65536 → (cabReportBytes r).drop i = bytes16 n ++ rest →
      be16 (cabReportBytes r) i = n := fun {n i rest} fits at_i => by
    rw [← Nat.add_zero i, ← be16_drop, at_i, be16_bytes16 fits]
  have mode : r.mode.toCode = byteAt (cabReportBytes r) 1 := by cases r with | mk m => cases m <;> rfl
  have bypass : r.bypass.toCode = byteAt (cabReportBytes r) 12 := by cases r with | mk _ _ _ _ _ _ b => cases b <;> rfl
  have door : r.door.toCode = byteAt (cabReportBytes r) 13 := by cases r with | mk _ _ _ _ _ _ _ d => cases d <;> rfl
  have running : (byteAt (cabReportBytes r) 16 != 0) = r.testRunning := by
    cases r with | mk _ _ _ _ _ _ _ _ _ t => cases t <;> rfl
  refine (parseCabReport_eq_some_iff _ _).mpr ⟨⟨rfl, rfl⟩, mode, bypass, door, ?_⟩
  rw [field load rfl, field echo rfl, field inV rfl, field outV rfl, field (BitVec.isLt _) rfl, field fault rfl, running,
    signed16_toNat_ofInt temp]

/-- The payloads that pass the form test for a cabinet address (R23). -/
theorem exists_parseCabReport_iff (p : List Byte) : (∃ r, parseCabReport p = some r) ↔ p.length = 17 ∧ byteAt p 0 = 1 ∧
    (1 ≤ byteAt p 1 ∧ byteAt p 1 ≤ 7) ∧ (1 ≤ byteAt p 12 ∧ byteAt p 12 ≤ 3) ∧ byteAt p 13 ≤ 1 := by
  simp only [← Mode.exists_toCode_iff, ← BypassStatus.exists_toCode_iff, ← Door.exists_toCode_iff,
    parseCabReport_eq_some_iff]
  constructor
  · rintro ⟨r, ⟨cabinet, size⟩, mode, bypass, door, -⟩
    exact ⟨size, cabinet, ⟨_, mode⟩, ⟨_, bypass⟩, ⟨_, door⟩⟩
  · rintro ⟨size, cabinet, ⟨m, mode⟩, ⟨b, bypass⟩, ⟨d, door⟩⟩
    exact ⟨⟨m, _, _, _, _, _, b, d, _, _⟩, ⟨cabinet, size⟩, mode, bypass, door, rfl⟩

theorem cabReportBytes_of_parse {p : List Byte} {r : CabReport} (read : parseCabReport p = some r) :
    cabReportBytes r = p.take 16 ++ [if byteAt p 16 = 0 then 0 else 1] := by
  obtain ⟨⟨cabinet, size⟩, mode, bypass, door, same⟩ := (parseCabReport_eq_some_iff p r).mp read
  have first : ([1] : List Byte) = p.take 1 := by
    rw [← List.drop_zero (l := p), ← byteOf_byteAt (by omega : 0 < p.length), cabinet]; rfl
  have segments : p.take 16 = p.take 1 ++ (p.drop 1).take 1 ++ (p.drop 2).take 2 ++ (p.drop 4).take 2 ++ (p.drop 6).take 2 ++
      (p.drop 8).take 2 ++ (p.drop 10).take 2 ++ ((p.drop 12).take 1 ++ (p.drop 13).take 1) ++ (p.drop 14).take 2 := by
    simp only [← List.append_assoc, ← List.take_add]
  have flag : (if (byteAt p 16 != 0) = true then 1 else 0 : Byte) = if byteAt p 16 = 0 then 0 else 1 := by
    by_cases zero : byteAt p 16 = 0 <;> simp [zero]
  rw [cabReportBytes, mode, bypass, door, same]
  simp only [toNat_ofInt_signed16 (be16_lt _ _), flag]
  rw [segments, ← first]
  simp (disch := omega) only [← byteOf_byteAt, ← bytes16_be16]
  rfl

/-! The string report. -/

/-- What a row of temperatures, of block voltages and of resistances gives from its bytes. -/
def readTemp (q : List Byte) : Int := signed16 (be16 q 0)
def readVolt (q : List Byte) : Nat := be16 q 0
def readResistance (q : List Byte) : Nat × Nat := (byteAt q 0, be32 q 1)

/-- The bytes of a temperature, of a block voltage and of a resistance (R179). -/
def tempBytes (t : Int) : List Byte := bytes16 (BitVec.ofInt 16 t).toNat
def resistanceBytes (x : Nat × Nat) : List Byte := byteOf x.1 :: bytes32 (BitVec.ofNat 32 x.2)

theorem tempBytes_length (t : Int) : (tempBytes t).length = 2 := rfl

theorem resistanceBytes_length (x : Nat × Nat) : (resistanceBytes x).length = 5 := rfl

theorem readTemp_tempBytes {t : Int} (fits : isSigned16 t) (rest : List Byte) : readTemp (tempBytes t ++ rest) = t := by
  rw [readTemp, tempBytes, be16_bytes16 (BitVec.isLt _), signed16_toNat_ofInt fits]

theorem readVolt_bytes16 {v : Nat} (fits : v < 65536) (rest : List Byte) : readVolt (bytes16 v ++ rest) = v :=
  be16_bytes16 fits rest

theorem readResistance_resistanceBytes {x : Nat × Nat} (block : x.1 < 256) (value : x.2 < 2 ^ 32) (rest : List Byte) :
    readResistance (resistanceBytes x ++ rest) = x := by
  have number : (byteOf x.1).toNat = x.1 := by rw [toNat_byteOf, Nat.mod_eq_of_lt block]
  have reading : be32 (resistanceBytes x ++ rest) 1 = x.2 := by
    rw [show be32 (resistanceBytes x ++ rest) 1 = be32 (bytes32 (BitVec.ofNat 32 x.2) ++ rest) 0 from
      (be32_drop (resistanceBytes x ++ rest) 1 0).symm, be32_bytes32, BitVec.toNat_ofNat, Nat.mod_eq_of_lt value]
  exact Prod.ext number reading

theorem tempBytes_readTemp {q : List Byte} (long : 2 ≤ q.length) : tempBytes (readTemp q) = q.take 2 := by
  rw [tempBytes, readTemp, toNat_ofInt_signed16 (be16_lt q 0), bytes16_be16 (by omega), List.drop_zero]

theorem bytes16_readVolt {q : List Byte} (long : 2 ≤ q.length) : bytes16 (readVolt q) = q.take 2 := by
  rw [readVolt, bytes16_be16 (by omega), List.drop_zero]

theorem resistanceBytes_readResistance {q : List Byte} (long : 5 ≤ q.length) :
    resistanceBytes (readResistance q) = q.take 5 := by
  rw [show q.take 5 = q.take 1 ++ (q.drop 1).take 4 from List.take_add (i := 1) (j := 4), ← bytes32_be32 (by omega),
    ← List.drop_zero (l := q), ← byteOf_byteAt (by omega), List.drop_zero]
  rfl

/-- The report that a payload of these counts spells (R179). -/
def strReportRead (p : List Byte) (n s k : Nat) : StrReport where
  blocks := n
  serial := BitVec.ofNat 32 (be32 p 4)
  current := signed16 (be16 p 8)
  temps := (List.range s).map fun j => readTemp ((p.drop 10).drop (2 * j))
  volts := (List.range n).map fun j => readVolt ((p.drop (10 + 2 * s)).drop (2 * j))
  resistances := (List.range k).map fun j => readResistance ((p.drop (10 + 2 * s + 2 * n)).drop (5 * j))

section
variable {p : List Byte}

theorem parseStrReport_of_other_type (other : byteAt p 0 ≠ 2) : parseStrReport p = .error (.form, 0) :=
  if_pos (.inr other)

/-- Past the test of the type the payload holds a byte. -/
theorem parseStrReport_of_type (string : byteAt p 0 = 2) : parseStrReport p =
    if p.length < 4 then .error (.length, if p.length < 2 then 0 else byteAt p 1)
    else if byteAt p 2 < 1 ∨ 4 < byteAt p 2 then
      if Config.sensorCountCauseIsForm p then .error (.form, 0) else .error (.length, byteAt p 1)
    else if p.length ≠ strReportLength (byteAt p 1) (byteAt p 2) (byteAt p 3) then .error (.length, byteAt p 1)
    else .ok (strReportRead p (byteAt p 1) (byteAt p 2) (byteAt p 3)) := by
  have holds : ¬(p.length = 0 ∨ byteAt p 0 ≠ 2) := by
    rintro (empty | other)
    · obtain rfl := List.eq_nil_of_length_eq_zero empty
      cases string
    · exact other string
  have fields : ∀ s n k : Nat, strReportRead p n s k = ⟨n, BitVec.ofNat 32 (be32 p 4), signed16 (be16 p 8),
      (List.range s).map (fun j => signed16 (be16 p (10 + 2 * j))),
      (List.range n).map (fun j => be16 p (10 + 2 * s + 2 * j)), (List.range k).map (fun j =>
        (byteAt p (10 + 2 * s + 2 * n + 5 * j), be32 p (11 + 2 * s + 2 * n + 5 * j)))⟩ := fun s n k => by
    have next : ∀ j, 10 + 2 * s + 2 * n + 5 * j + 1 = 11 + 2 * s + 2 * n + 5 * j := by omega
    simp only [strReportRead, readTemp, readVolt, readResistance, List.drop_drop, be16_drop, be32_drop, byteAt_drop,
      Nat.add_zero, next]
  rw [parseStrReport, fields]
  exact if_neg holds

theorem parseStrReport_of_short (string : byteAt p 0 = 2) (short : p.length < 4) :
    parseStrReport p = .error (.length, if p.length < 2 then 0 else byteAt p 1) := by
  rw [parseStrReport_of_type string, if_pos short]

theorem parseStrReport_of_bad_sensors (string : byteAt p 0 = 2) (long : 4 ≤ p.length)
    (bad : byteAt p 2 < 1 ∨ 4 < byteAt p 2) :
    parseStrReport p = .error (.form, 0) ∨ parseStrReport p = .error (.length, byteAt p 1) := by
  rw [parseStrReport_of_type string, if_neg (by omega), if_pos bad]
  split
  · exact .inl rfl
  · exact .inr rfl

theorem parseStrReport_of_sensors (string : byteAt p 0 = 2) (long : 4 ≤ p.length) (sensed : 1 ≤ byteAt p 2)
    (few : byteAt p 2 ≤ 4) : parseStrReport p =
      if p.length ≠ strReportLength (byteAt p 1) (byteAt p 2) (byteAt p 3) then .error (.length, byteAt p 1)
      else .ok (strReportRead p (byteAt p 1) (byteAt p 2) (byteAt p 3)) := by
  rw [parseStrReport_of_type string, if_neg (by omega), if_neg (by omega)]

/-- The fields of a report give back the bytes it was read from, when its counts are those declared. -/
theorem strReportBytes_strReportRead (string : byteAt p 0 = 2)
    (size : p.length = strReportLength (byteAt p 1) (byteAt p 2) (byteAt p 3)) :
    strReportBytes (strReportRead p (byteAt p 1) (byteAt p 2) (byteAt p 3)) = p := by
  generalize counts : (byteAt p 1, byteAt p 2, byteAt p 3) = c
  obtain ⟨n, s, k⟩ := c
  obtain ⟨blocks, sensors, readings⟩ : byteAt p 1 = n ∧ byteAt p 2 = s ∧ byteAt p 3 = k := by simpa using counts
  rw [blocks, sensors, readings] at size ⊢
  unfold strReportLength at size
  have head : [2, byteOf n, byteOf s, byteOf k] = p.take 4 := by
    rw [show p.take 4 = p.take 1 ++ (p.drop 1).take 1 ++ (p.drop 2).take 1 ++ (p.drop 3).take 1 by
      simp only [← List.take_add], ← byteOf_byteAt (by omega), ← byteOf_byteAt (by omega), ← byteOf_byteAt (by omega),
      ← List.drop_zero (l := p), ← byteOf_byteAt (by omega), List.drop_zero, string, blocks, sensors, readings]
    rfl
  have temps := flatMap_map_range_read (fun q => tempBytes_readTemp (q := q)) s (p.drop 10)
    (by rw [List.length_drop]; omega)
  have volts := flatMap_map_range_read (fun q => bytes16_readVolt (q := q)) n (p.drop (10 + 2 * s))
    (by rw [List.length_drop]; omega)
  have resistances := flatMap_map_range_read (fun q => resistanceBytes_readResistance (q := q)) k
    (p.drop (10 + 2 * s + 2 * n)) (by rw [List.length_drop]; omega)
  have lengths : (strReportRead p n s k).temps.length = s ∧ (strReportRead p n s k).resistances.length = k := by
    simp [strReportRead]
  calc strReportBytes (strReportRead p n s k)
      = p.take 4 ++ (p.drop 4).take 4 ++ (p.drop 8).take 2 ++ (p.drop 10).take (2 * s) ++
          (p.drop (10 + 2 * s)).take (2 * n) ++ (p.drop (10 + 2 * s + 2 * n)).take (5 * k) := by
        rw [← head, ← bytes32_be32 (by omega), ← bytes16_be16 (by omega), ← temps, ← volts, ← resistances,
          ← toNat_ofInt_signed16 (be16_lt p 8), strReportBytes, lengths.1, lengths.2]
        rfl
    _ = p := by
        simp only [← List.take_add]
        exact List.take_of_length_le (by omega)

end

/-- A string report whose fields fit their bytes is read back from them. -/
theorem strReportRead_strReportBytes {r : StrReport} (blocks : r.blocks = r.volts.length) (current : isSigned16 r.current)
    (temps : ∀ t ∈ r.temps, isSigned16 t) (volts : ∀ v ∈ r.volts, v < 65536)
    (resistances : ∀ x ∈ r.resistances, x.1 < 256 ∧ x.2 < 2 ^ 32) :
    strReportRead (strReportBytes r) r.blocks r.temps.length r.resistances.length = r := by
  have bytes : strReportBytes r = ([2, byteOf r.blocks, byteOf r.temps.length, byteOf r.resistances.length] ++
      bytes32 r.serial ++ bytes16 (BitVec.ofInt 16 r.current).toNat) ++ (r.temps.flatMap tempBytes ++
        (r.volts.flatMap bytes16 ++ (r.resistances.flatMap resistanceBytes ++ []))) := by
    simp only [strReportBytes, List.append_assoc, List.append_nil]; rfl
  have atTemps : (strReportBytes r).drop 10 = r.temps.flatMap tempBytes ++
      (r.volts.flatMap bytes16 ++ (r.resistances.flatMap resistanceBytes ++ [])) := by rw [bytes]; rfl
  have atVolts : (strReportBytes r).drop (10 + 2 * r.temps.length) =
      r.volts.flatMap bytes16 ++ (r.resistances.flatMap resistanceBytes ++ []) := by
    rw [← List.drop_drop, atTemps, List.drop_left' (flatMap_length_of_width tempBytes_length r.temps)]
  have atResistances : (strReportBytes r).drop (10 + 2 * r.temps.length + 2 * r.volts.length) =
      r.resistances.flatMap resistanceBytes ++ [] := by
    rw [← List.drop_drop, atVolts, List.drop_left' (flatMap_length_of_width bytes16_length r.volts)]
  have serial : be32 (strReportBytes r) 4 = r.serial.toNat := by
    rw [← Nat.add_zero 4, ← be32_drop, bytes]
    exact be32_bytes32 r.serial _
  have flow : be16 (strReportBytes r) 8 = (BitVec.ofInt 16 r.current).toNat := by
    rw [← Nat.add_zero 8, ← be16_drop, bytes]
    exact be16_bytes16 (BitVec.isLt _) _
  rw [strReportRead, serial, flow, signed16_toNat_ofInt current, BitVec.ofNat_toNat, BitVec.setWidth_eq, blocks, atTemps,
    atVolts, atResistances, map_range_read_flatMap tempBytes_length r.temps (fun t listed => readTemp_tempBytes (temps t listed)),
    map_range_read_flatMap bytes16_length r.volts (fun v listed => readVolt_bytes16 (volts v listed)),
    map_range_read_flatMap resistanceBytes_length r.resistances (fun x listed =>
      readResistance_resistanceBytes (resistances x listed).1 (resistances x listed).2), ← blocks]

/-- Settles O12: the two layouts are read back field by field, and each way through the form tests is a lemma. -/
theorem reportLayoutsReadBack : Obligations.ReportLayoutsReadBack := by
  refine ⟨fun r load echo inV outV temp fault => parseCabReport_cabReportBytes load echo inV outV temp fault,
    fun r blocks fits sensed few count current temps volts resistances => ?_, fun p => ⟨fun bad => ?_, fun good => ?_⟩,
    fun p => ⟨parseStrReport_of_other_type, fun string => ⟨fun one => ?_, fun two short => ?_, fun long =>
      ⟨parseStrReport_of_bad_sensors string long, fun sensed few => ⟨fun other => ?_, fun size => ?_⟩⟩⟩⟩⟩
  · have declared : byteAt (strReportBytes r) 1 = r.blocks ∧ byteAt (strReportBytes r) 2 = r.temps.length ∧
        byteAt (strReportBytes r) 3 = r.resistances.length := by
      refine ⟨?_, ?_, ?_⟩ <;> refine (toNat_byteOf _).trans (Nat.mod_eq_of_lt ?_) <;> omega
    have size : (strReportBytes r).length = strReportLength r.blocks r.temps.length r.resistances.length := by
      simp [strReportBytes, strReportLength, List.length_flatMap, bytes16, bytes32, blocks]
      omega
    rw [parseStrReport_of_sensors rfl (by rw [size, strReportLength]; omega) (by rw [declared.2.1]; exact sensed)
      (by rw [declared.2.1]; exact few), declared.1, declared.2.1, declared.2.2, if_neg (not_not_intro size),
      strReportRead_strReportBytes blocks current temps volts resistances]
  · exact Option.eq_none_iff_forall_ne_some.mpr fun r read => bad ((exists_parseCabReport_iff p).mp ⟨r, read⟩)
  · obtain ⟨r, read⟩ := (exists_parseCabReport_iff p).mpr good
    exact ⟨r, read, cabReportBytes_of_parse read⟩
  · rw [parseStrReport_of_short string (by omega), if_pos (by omega)]
  · rw [parseStrReport_of_short string short, if_neg (by omega)]
  · rw [parseStrReport_of_sensors string long sensed few]
    exact if_pos other
  · rw [parseStrReport_of_sensors string long sensed few]
    exact ⟨_, if_neg (not_not_intro size), strReportBytes_strReportRead string size⟩

end Sys2Proof.Machine
end

section
/-! PROOF. A frame on the line (R165 to R168, R177, R178, R183): its characters, sent with even parity, are taken one after the
other until the frame is complete, and the checks find each field in its place; what stands in a MANAGE-REPLY. -/

namespace Sys2Proof.Machine

/-! The layout of a frame (R177). -/

theorem FrameKind.ofCode_toCode (k : FrameKind) : FrameKind.ofCode k.toCode = some k := by cases k <;> rfl

section
variable (dest src seq : Byte) (k : FrameKind) {payload : List Byte}

theorem headerBytes_append_length (payload : List Byte) :
    (headerBytes dest src k seq payload.length ++ payload).length = 5 + payload.length := by
  rw [List.length_append]; rfl

theorem lineBytes_length : (lineBytes dest src k seq payload).length = 7 + payload.length := by
  rw [lineBytes, List.length_append, headerBytes_append_length, bytes16_length]; omega

theorem take_lineBytes : (lineBytes dest src k seq payload).take (5 + payload.length) =
    headerBytes dest src k seq payload.length ++ payload :=
  List.take_left' (headerBytes_append_length dest src seq k payload)

/-- The CRC that a frame carries is the one over its header and payload. -/
theorem crc_lineBytes : BitVec.ofNat 16 (be16 (lineBytes dest src k seq payload) (5 + payload.length)) =
    crc16 (headerBytes dest src k seq payload.length ++ payload) := by
  have carried : (lineBytes dest src k seq payload).drop (5 + payload.length) =
      bytes16 (crc16 (headerBytes dest src k seq payload.length ++ payload)).toNat ++ [] :=
    (List.drop_left' (headerBytes_append_length dest src seq k payload)).trans (List.append_nil _).symm
  rw [← Nat.add_zero (5 + payload.length), ← be16_drop, carried, be16_bytes16 (BitVec.isLt _), BitVec.ofNat_toNat,
    BitVec.setWidth_eq]

theorem kind_lineBytes : FrameKind.ofCode (byteAt (lineBytes dest src k seq payload) 2) = some k := by
  have code : byteAt (lineBytes dest src k seq payload) 2 = k.toCode := by cases k <;> rfl
  rw [code, k.ofCode_toCode]

theorem payloadLength_lineBytes (fits : payload.length ≤ 128) :
    byteAt (lineBytes dest src k seq payload) 4 = payload.length :=
  (toNat_byteOf _).trans (Nat.mod_eq_of_lt (by omega))

end

/-! The characters of a frame (R165 to R167). -/

/-- Even parity is what a receiver looks for. -/
theorem charFaulty_evenParity (b : Byte) : charFaulty b (evenParity b) true = false := by
  have parity := Nat.mod_two_eq_zero_or_one (onesCount b)
  rcases parity with even | odd
  · simp [charFaulty, evenParity, even]
  · simp [charFaulty, evenParity, odd, Nat.add_mod]

/-- A receiver that has taken these characters, none of them refused last. -/
def Rx.reading (st : LineSettings) (taken : List Byte) : Rx := ⟨.inFrame, taken, 0, 0, st⟩

theorem Rx.complete_iff (r : Rx) : r.complete = true ↔
    5 ≤ r.taken.length ∧ r.payloadLength ≤ 128 ∧ 7 + r.payloadLength ≤ r.taken.length := by
  rw [Rx.complete, Bool.and_eq_true, Bool.and_eq_true, decide_eq_true_iff, decide_eq_true_iff, decide_eq_true_iff, and_assoc]
  rfl

/-- A frame ends too long, complete, or at the fifth refusal of a character. -/
theorem Rx.ended_iff (r : Rx) : r.ended = true ↔ (5 ≤ r.taken.length ∧ 128 < r.payloadLength) ∨
    (5 ≤ r.taken.length ∧ r.payloadLength ≤ 128 ∧ 7 + r.payloadLength ≤ r.taken.length) ∨ 5 ≤ r.refusals := by
  rw [Rx.ended, Bool.or_eq_true, Bool.or_eq_true, Rx.complete_iff, or_assoc, Rx.tooLong, Bool.and_eq_true,
    decide_eq_true_iff, decide_eq_true_iff, Rx.exhausted, decide_eq_true_iff]
  rfl

/-- Before its last character a frame on the line has not reached an end. -/
theorem Rx.reading_ended (st : LineSettings) {line q rest : List Byte} {n : Nat} (size : line.length = 7 + n)
    (fits : n ≤ 128) (length : byteAt line 4 = n) (split : q ++ rest = line) (more : rest ≠ []) :
    (Rx.reading st q).ended = false := by
  have short : q.length < 7 + n := by
    have pos := List.length_pos_of_ne_nil more
    have whole := congrArg List.length split
    rw [List.length_append] at whole
    omega
  have same : 5 ≤ q.length → (Rx.reading st q).payloadLength = n := fun header => by
    rw [← length, ← split]
    simp only [Rx.payloadLength, Rx.reading, byteAt, List.getD_eq_getElem?_getD]
    rw [List.getElem?_append_left (by omega)]
  refine Bool.eq_false_iff.mpr fun ended => ?_
  rcases (Rx.ended_iff _).mp ended with ⟨header, long⟩ | ⟨header, -, whole⟩ | refused
  · exact absurd (same header ▸ long) (Nat.not_lt.mpr fits)
  · exact absurd (same header ▸ whole) (Nat.not_le.mpr short)
  · cases refused

/-- A character as it is sent. -/
abbrev sendChar (p : Port) (b : Byte) : Instr := .characterReceived p b (evenParity b) true

/-- The further characters of a frame on the line join those that have been taken. -/
theorem runs_sendChar {s : State} {p : Port} {line : List Byte} {n : Nat} (opened : s.bridge = .opened)
    (size : line.length = 7 + n) (fits : n ≤ 128) (length : byteAt line 4 = n) (x : PortState) (st : LineSettings)
    (after : List Instr) : ∀ rest q, q ++ rest = line →
      runs (rest.map (sendChar p) ++ after) (s.withPort p { x with rx := Rx.reading st q }) =
        runs after (s.withPort p { x with rx := Rx.reading st line }) := by
  intro rest
  induction rest with
  | nil =>
    intro q split
    rw [List.append_nil] at split
    rw [split]; rfl
  | cons b rest ih =>
    intro q split
    have goesOn := Rx.reading_ended st size fits length split (List.cons_ne_nil b rest)
    have taken : exec (sendChar p b) (s.withPort p { x with rx := Rx.reading st q }) =
        .next (s.withPort p { x with rx := Rx.reading st (q ++ [b]) }) := by
      rw [exec_characterReceived_of_opened ((withPort_bridge ..).trans opened), port_withPort, withPort_withPort,
        PortState.receive_of_inFrame rfl goesOn, PortState.frameChar_of_sound _ (charFaulty_evenParity b)]
      rfl
    rw [List.map_cons, List.cons_append, runs_cons_of_exec_eq_next taken]
    exact ih (q ++ [b]) (by rw [List.append_assoc]; exact split)

/-- An IDLE receiver takes the whole of a frame on the line. -/
theorem runs_sendChar_of_idle {s : State} {p : Port} {line : List Byte} {n : Nat} (opened : s.bridge = .opened)
    (idle : (s.port p).rx.phase = .idle) (size : line.length = 7 + n) (fits : n ≤ 128) (length : byteAt line 4 = n)
    (after : List Instr) : runs (line.map (sendChar p) ++ after) s =
      runs after (s.withPort p { s.port p with rx := Rx.reading (s.port p).settings line }) := by
  match line, size with
  | b :: rest, _ =>
    have begins : exec (sendChar p b) s =
        .next (s.withPort p { s.port p with rx := Rx.reading (s.port p).settings [b] }) := by
      rw [exec_characterReceived_of_opened opened, PortState.receive_of_begin (.inl idle),
        PortState.frameChar_of_sound _ (charFaulty_evenParity b)]
      rfl
    rw [List.map_cons, List.cons_append, runs_cons_of_exec_eq_next begins]
    exact runs_sendChar opened (by assumption) fits length (s.port p) _ after rest [b] rfl

/-! The frame taken (R168, R174). -/

theorem soundFrame_port (p : Port) (s : State) :
    ∃ sound score, (soundFrame p s).port p = { s.port p with sound := sound, score := score } := by
  have cleared : ∀ u : State, (clear codeLinkErrors (.port p) u).port p = u.port p := fun u => by cases p <;> rfl
  unfold soundFrame
  dsimp only
  split
  · exact ⟨(s.port p).sound + 1, (s.port p).score, port_withPort ..⟩
  · refine ⟨0, (s.port p).score - 1, ?_⟩
    split
    · rw [cleared, port_withPort]
    · rw [port_withPort]

/-- A receiver that has taken a frame on the line reads its fields where they were laid out. -/
theorem Rx.frame_reading (st : LineSettings) (dest src seq : Byte) (k : FrameKind) {payload : List Byte}
    (fits : payload.length ≤ 128) :
    (Rx.reading st (lineBytes dest src k seq payload)).frame k = wireFrame dest src k seq payload := by
  have length : (Rx.reading st (lineBytes dest src k seq payload)).payloadLength = payload.length :=
    payloadLength_lineBytes dest src seq k fits
  have front : (Rx.reading st (lineBytes dest src k seq payload)).crcBytes =
      headerBytes dest src k seq payload.length ++ payload := by
    rw [Rx.crcBytes, length]; exact take_lineBytes dest src seq k
  have carried : (Rx.reading st (lineBytes dest src k seq payload)).crcCarried =
      crc16 (headerBytes dest src k seq payload.length ++ payload) := by
    rw [Rx.crcCarried, length]; exact crc_lineBytes dest src seq k
  rw [Rx.frame, front, carried]
  rfl

theorem exec_frameComplete_of_line {s : State} {p : Port} {dest src seq : Byte} {k : FrameKind} {payload : List Byte}
    (st : LineSettings) (x : PortState) (opened : s.bridge = .opened) (fits : payload.length ≤ 128) (room : x.inq.length < 8)
    (kept : ¬((241 ≤ dest.toNat ∧ dest.toNat ≤ 254) ∨ (p = .f ∧ k = .manage ∧ dest.toNat = 240))) :
    exec (.frameComplete p) (s.withPort p { x with rx := Rx.reading st (lineBytes dest src k seq payload) }) =
      .next (soundFrame p (s.withPort p { x with
        rx := rxWaitIdle x.settings 0, inq := x.inq ++ [wireFrame dest src k seq payload], counters := x.counters.frameIn })) := by
  have length := payloadLength_lineBytes dest src seq k fits
  have size := lineBytes_length dest src seq k (payload := payload)
  have complete : (Rx.reading st (lineBytes dest src k seq payload)).complete = true := by
    have same : (Rx.reading st (lineBytes dest src k seq payload)).payloadLength = payload.length := length
    refine (Rx.complete_iff _).mpr ?_
    rw [same, show (Rx.reading st (lineBytes dest src k seq payload)).taken.length = _ from size]
    exact ⟨by omega, fits, Nat.le_refl _⟩
  have crc : (Rx.reading st (lineBytes dest src k seq payload)).crcOk = true := by
    refine (Rx.crcOk_iff _).mpr ?_
    rw [show (Rx.reading st (lineBytes dest src k seq payload)).taken = lineBytes dest src k seq payload from rfl, length,
      take_lineBytes, crc_lineBytes]
  rw [exec_frameComplete_of_complete ((withPort_bridge ..).trans opened) (by rw [port_withPort]; rfl)
    (by rw [port_withPort]; exact complete) (by rw [port_withPort]; exact Nat.zero_lt_succ _),
    checkFrame_of_passed (k := k) (by rw [port_withPort]; exact crc)
      (by rw [port_withPort]; exact kind_lineBytes dest src seq k) (by
        rw [port_withPort]; exact fun dropped => kept ((droppedDestination_iff ..).mp dropped))
      (by rw [port_withPort]; exact room), port_withPort, withPort_withPort, Rx.frame_reading st dest src seq k fits]
  rfl

/-! A MANAGE-REPLY (R178, R183, R188). -/

section
variable (seq : Byte) (r : ManageReply)

theorem manageReplyFrame_bytes : (manageReplyFrame seq r).bytes =
    lineBytes 0 240 .manageReply seq (manageReplyFrame seq r).payload := rfl

theorem ManageReply.front_length_le : r.front.length ≤ 4 := by
  rw [ManageReply.front]
  cases r.detail <;> simp

/-- The payload is the front and what the room behind it holds of the result (R183, R188). -/
theorem ManageReply.payload_eq : r.payload =
    r.front ++ (r.result.bytes r.code (128 - r.front.length)).take (128 - r.front.length) := by
  have room := r.front_length_le
  rw [ManageReply.payload, List.take_append, List.take_of_length_le (by rw [maxPayload]; omega)]
  rfl

end

/-! The enumerated fields and flags among the fields of a result, each in one byte (R178). -/

theorem flagByte_eq (b : Bool) : flagByte b = byteOf (flagCode b) := by cases b <;> rfl

section
variable (fs : List ReplyField)

@[simp] theorem fieldCodes_nil : fieldCodes [] = [] := rfl

@[simp] theorem fieldCodes_codeField_cons (c : Nat) : fieldCodes (codeField c :: fs) = byteOf c :: fieldCodes fs := rfl

@[simp] theorem fieldCodes_flagField_cons (b : Bool) : fieldCodes (flagField b :: fs) = byteOf (flagCode b) :: fieldCodes fs := by
  rw [← flagByte_eq]; rfl

@[simp] theorem fieldCodes_free_cons (n : Nat) (v : List Int) : fieldCodes (.free n v :: fs) = fieldCodes fs := rfl

@[simp] theorem fieldCodes_numField_cons (n v : Nat) : fieldCodes (numField n v :: fs) = fieldCodes fs := rfl

@[simp] theorem fieldCodes_listField_cons (n : Nat) (l : List Nat) : fieldCodes (listField n l :: fs) = fieldCodes fs := rfl

@[simp] theorem fieldCodes_append (gs : List ReplyField) : fieldCodes (fs ++ gs) = fieldCodes fs ++ fieldCodes gs :=
  List.flatMap_append

@[simp] theorem fieldCodes_optField (n : Nat) (v : Option Nat) : fieldCodes (optField n v) = [] := by cases v <;> rfl

@[simp] theorem fieldCodes_timerField (n : Nat) (t : Option Timer) : fieldCodes (timerField n t) = [] := by cases t <;> rfl

theorem fieldCodes_length : (fieldCodes fs).length = fs.countP ReplyField.isByte := by
  induction fs with
  | nil => rfl
  | cons f fs ih =>
    cases f with
    | byte b => exact (congrArg Nat.succ ih).trans (List.countP_cons_of_pos rfl).symm
    | free n v => exact ih.trans (List.countP_cons_of_neg Bool.false_ne_true).symm

end

theorem fieldCodes_nodeEntryReply (e : Option DirEntry) :
    fieldCodes (nodeEntryReply e) = (Result.nodeEntry e).codes.map byteOf := by
  cases e with
  | none => rfl
  | some e => cases role : e.role <;> simp [nodeEntryReply, Result.codes, role, NodeRole.toCode]

theorem fieldCodes_ageingReply (lists : Bool) (a : Ageing) (left : Option Nat) :
    fieldCodes (ageingReply lists a left) = a.codes.map byteOf := by
  have last : fieldCodes (a.lastTeff.map (fun t => ReplyField.free 121 [t])).toList = [] := by cases a.lastTeff <;> rfl
  cases lists <;> simp [ageingReply, Ageing.codes, last]

theorem fieldCodes_planReply (p : Option Plan) (settle interval window : Option Nat) :
    fieldCodes (planReply p settle interval window) = (Result.plan p settle interval window).codes.map byteOf := by
  have order : ∀ o : Option PlanOrder, fieldCodes ((o.map planOrderReply).getD []) =
      ((o.map fun x => x.kind.toCode).toList).map byteOf := fun o => by cases o <;> simp [planOrderReply]
  have ramp : ∀ o : Option Ramp, fieldCodes ((o.map rampReply).getD []) = [] := fun o => by cases o <;> simp [rampReply]
  have cause : ∀ o : Option HaltCause, fieldCodes (o.map fun c => codeField c.toCode).toList =
      ((o.map HaltCause.toCode).toList).map byteOf := fun o => by cases o <;> simp
  cases p with
  | none => rfl
  | some p => cases stage : p.stage <;> simp [planReply, Result.codes, order, ramp, cause, stage]

theorem fieldCodes_flatMap {α : Type} (piece : α → List ReplyField) (l : List α) :
    fieldCodes (l.flatMap piece) = l.flatMap fun x => fieldCodes (piece x) := List.flatMap_assoc

/-- The codes of a result are its enumerated fields and flags. -/
theorem Result.fieldCodes_fields (r : Result) : fieldCodes r.fields = r.codes.map byteOf := by
  cases r with
  | nodeEntry e => exact fieldCodes_nodeEntryReply e
  | ageingRecord a left => exact fieldCodes_ageingReply false a left
  | string volts current temps serial watch liveness a left =>
    simp [Result.fields, Result.codes, liveStringReply, fieldCodes_ageingReply]
  | plan p settle interval window => exact fieldCodes_planReply p settle interval window
  | visitSummary vs =>
    simp [Result.fields, Result.codes, fieldCodes_flatMap, Function.comp_def, ← List.map_eq_flatMap]
  | visit v => simp [Result.fields, Result.codes, visitReply]
  | cabinet r w res => simp [Result.fields, Result.codes, cabinetReply]
  | params p eq => simp [Result.fields, Result.codes, paramsReply]
  | portCounters => simp [Result.fields, Result.codes, countersReply]
  | blocks bs => simp [Result.fields, Result.codes, fieldCodes_flatMap]
  | identity | none | planId | visitState | ageingLists | alarmList => rfl

/-- Every code of a result stands among its bytes, in order, and none of them is cut off (R178, R188). -/
theorem Result.codes_sublist_bytes (r : Result) (code : Nat) {room : Nat} (fits : r.codes.length ≤ room) :
    (r.codes.map byteOf).Sublist ((r.bytes code room).take room) := by
  have fields : (r.codes.map byteOf).Sublist
      ((fieldsBytes code (room - r.fields.countP ReplyField.isByte) r.fields).take room) := by
    have count : r.fields.countP ReplyField.isByte = r.codes.length := by
      rw [← fieldCodes_length, r.fieldCodes_fields, List.length_map]
    have size := fieldsBytes_length_le code r.fields (room - r.fields.countP ReplyField.isByte)
    rw [List.take_of_length_le (by omega), ← r.fieldCodes_fields]
    exact fieldCodes_sublist ..
  cases r with
  | alarmList | ageingLists => exact List.nil_sublist _
  | _ => exact fields

/-- Settles O8: the characters are taken, the checks pass, and the payload of a reply is its front and its fields. -/
theorem frameSentOnTheLineIsReadBack : Obligations.FrameSentOnTheLineIsReadBack := by
  refine ⟨fun p dest src seq k payload s fits opened idle room noLoop noManage => ?_, fun seq r => ?_⟩
  · have length := payloadLength_lineBytes dest src seq k fits
    have kept : ¬((241 ≤ dest.toNat ∧ dest.toNat ≤ 254) ∨ (p = .f ∧ k = .manage ∧ dest.toNat = 240)) :=
      not_or.mpr ⟨noLoop, noManage⟩
    have completed := exec_frameComplete_of_line (s := s) (src := src) (seq := seq) (s.port p).settings (s.port p) opened
      fits room kept
    obtain ⟨sound, score, port⟩ := soundFrame_port p (s.withPort p { s.port p with
      rx := rxWaitIdle (s.port p).settings 0, inq := (s.port p).inq ++ [wireFrame dest src k seq payload],
      counters := (s.port p).counters.frameIn })
    rw [port_withPort] at port
    refine ⟨_, (runs_sendChar_of_idle opened idle (lineBytes_length dest src seq k) fits length _).trans
      (runs_cons_of_exec_eq_next completed []), ?_⟩
    rw [port]
    refine ⟨rfl, rfl, rfl, rfl, rfl, rfl, ?_⟩
    exact ((withPort_moves s p _).only.mono (by simp)).trans (soundFrame_moves ..).only
  · intro f front
    have front_eq : front = r.front := by
      cases r with
      | mk code status cause detail result => cases detail <;> rfl
    have few := r.front_length_le
    refine ⟨manageReplyFrame_bytes seq r, ?_⟩
    rw [front_eq, show f.payload = r.payload from rfl, r.payload_eq]
    refine ⟨?_, List.prefix_append .., fun empty => ?_, fun st state => ?_, fun fit => ?_⟩
    · rw [List.length_append, List.length_take]; omega
    · rw [empty]
      exact (congrArg _ List.take_nil).trans (List.append_nil _)
    · rw [state]
      exact congrArg _ (List.take_of_length_le (show 1 ≤ 128 - r.front.length by omega))
    · rw [List.drop_left]
      exact r.result.codes_sublist_bytes r.code (by omega)

end Sys2Proof.Machine
end

section
/-! PROOF. Forwarding (R16, R169) and the Port S arbitration (R170, R171, R190): what the transmitter takes next, and the
bound on the forwarded frames that go before a notice. -/

namespace Sys2Proof.Machine

/-! A head frame that no block takes (R169). -/

theorem exec_frameForward_of_ready {p : Port} {f : Frame} {s : State} (heads : Heads p f s)
    (ready : forwardReady p s f = true) : exec (.frameForward p) s = .next (enqueueForward (otherPort p) f (dropHead p s)) :=
  congrArg Host.Outcome.next ((whenRunning_of_opened heads.1 _).trans (takeHead_of_head _ heads ready))

theorem forwardReady_f {f : Frame} {s : State} (room : s.portS.fwd.length < 8)
    (other : s.resp.mode = .supervising → f.kind ≠ .report ∧ f.kind ≠ .reply) : forwardReady .f s f = true := by
  have free : forwardRoom s .s = true := decide_eq_true room
  have passes : forwardable s .f f = true := by
    simpa [forwardable, or_iff_not_imp_left] using other
  rw [forwardReady, passes]
  exact free

theorem forwardReady_s {f : Frame} {s : State} (room : s.portF.fwd.length < 8)
    (notManage : ¬(f.kind = .manage ∧ f.dest.toNat = 240)) (other : s.resp.mode = .supervising → f.kind ≠ .order) :
    forwardReady .s s f = true := by
  have free : forwardRoom s .f = true := decide_eq_true room
  have passes : forwardable s .s f = true := by
    simp only [forwardable, Frame.forResponder, Config.supervisorAddr, Bool.and_eq_true, Bool.not_eq_true',
      Bool.and_eq_false_iff, beq_eq_false_iff_ne, ne_eq]
    exact ⟨not_and_or.mp notManage, Classical.or_iff_not_imp_left.mpr fun sup => other (not_not.mp sup)⟩
  rw [forwardReady, passes]
  exact free

/-- Settles O9: the head frame that is ready moves from its inbound queue to the other port's forward queue. -/
theorem otherFramesAreForwardedUnchanged : Obligations.OtherFramesAreForwardedUnchanged := by
  refine fun f s => ⟨fun heads room other => ?_, fun heads room notManage other => ?_⟩
  · rw [exec_frameForward_of_ready heads (forwardReady_f room other), dropHead_f_eq]; rfl
  · rw [exec_frameForward_of_ready heads (forwardReady_s room notManage other), dropHead_s_eq]; rfl

/-! What Port S takes (R171, R190). -/

theorem exec_transmitTake_s_of_free {s : State} (opened : s.bridge = .opened) (free : s.portS.tx = none) :
    exec (.transmitTake .s) s = .next (transmitS s) := by
  refine congrArg Host.Outcome.next ((whenRunning_of_opened opened _).trans (if_neg ?_))
  simp [State.port, free]

section
variable {s : State} {f n : Frame} {fs ns : List Frame}

theorem transmitS_of_reply {rest : List Frame} (queue : s.replyQ = f :: rest) :
    transmitS s = beginSend .s f ((s.withReplyQ rest).withFullReset s.fullReset.replyTaken) := by
  simp only [transmitS, queue]

theorem transmitS_of_no_reply (queue : s.replyQ = []) (idle : s.fullReset = .idle) : transmitS s = transmitSOthers s := by
  simp [transmitS, queue, State.takesFrames, idle]

theorem transmitS_of_reset (queue : s.replyQ = []) (reset : s.fullReset ≠ .idle) : transmitS s = s := by
  simp [transmitS, queue, State.takesFrames, reset]

theorem transmitSOthers_of_notice (notices : s.alarm.notices = n :: ns) (due : s.portS.fwd = [] ∨ s.fwdRun = 4) :
    transmitSOthers s = sendNotice n s := by
  unfold transmitSOthers
  rcases due with empty | run
  · simp only [empty, notices]
  · cases waiting : s.portS.fwd with
    | nil => simp only [notices]
    | cons f fs => simp only [notices, if_pos run]

theorem transmitSOthers_of_forward (waiting : s.portS.fwd = f :: fs) (early : s.alarm.notices = [] ∨ s.fwdRun ≠ 4) :
    transmitSOthers s = sendForwardS f s := by
  unfold transmitSOthers
  rcases early with empty | run
  · simp only [waiting, empty]
  · cases notices : s.alarm.notices with
    | nil => simp only [waiting]
    | cons n ns => simp only [waiting, if_neg run]

theorem sendNotice_eq (notices : s.alarm.notices = n :: ns) : sendNotice n s = { s with
    alarm := { s.alarm with notices := ns }, fwdRun := 0, portS := { s.portS with tx := some ⟨n, s.portS.settings, 0, 0⟩ } } := by
  rw [sendNotice, notices]; rfl

theorem sendForwardS_eq (waiting : s.portS.fwd = f :: fs) : sendForwardS f s = { s with
    fwdRun := min 4 (s.fwdRun + 1), portS := { s.portS with fwd := fs, tx := some ⟨f, s.portS.settings, 0, 0⟩ } } := by
  have rest : s.portS.fwd.drop 1 = fs := by rw [waiting]; rfl
  rw [← rest]; rfl

/-- A notice goes when nothing waits to be forwarded, or when four forwarded frames have gone before it. -/
theorem exec_transmitTake_s_of_notice (opened : s.bridge = .opened) (idle : s.fullReset = .idle) (free : s.portS.tx = none)
    (queue : s.replyQ = []) (notices : s.alarm.notices = n :: ns) (due : s.portS.fwd = [] ∨ s.fwdRun = 4) :
    exec (.transmitTake .s) s = .next { s with
      alarm := { s.alarm with notices := ns }, fwdRun := 0,
      portS := { s.portS with tx := some ⟨n, s.portS.settings, 0, 0⟩ } } := by
  rw [exec_transmitTake_s_of_free opened free, ← sendNotice_eq notices, ← transmitSOthers_of_notice notices due,
    ← transmitS_of_no_reply queue idle]

theorem exec_transmitTake_s_of_forward (opened : s.bridge = .opened) (idle : s.fullReset = .idle) (free : s.portS.tx = none)
    (queue : s.replyQ = []) (waiting : s.portS.fwd = f :: fs) (early : s.alarm.notices = [] ∨ s.fwdRun ≠ 4) :
    exec (.transmitTake .s) s = .next { s with
      fwdRun := min 4 (s.fwdRun + 1),
      portS := { s.portS with fwd := fs, tx := some ⟨f, s.portS.settings, 0, 0⟩ } } := by
  rw [exec_transmitTake_s_of_free opened free, ← sendForwardS_eq waiting, ← transmitSOthers_of_forward waiting early,
    ← transmitS_of_no_reply queue idle]

end

/-! How long a notice waits (R171). -/

theorem exec_frameSent_of_sending {p : Port} {s : State} {x : Tx} (opened : s.bridge = .opened) (sends : (s.port p).tx = some x) :
    exec (.frameSent p) s = .next (endSend p Counters.frameOut s) := by
  refine congrArg Host.Outcome.next ((whenRunning_of_opened opened _).trans ?_)
  exact if_pos (by simp [sends])

/-- A forwarded frame goes, and is sent. -/
theorem runs_transmitTake_frameSent {s : State} {f : Frame} {fs : List Frame} (opened : s.bridge = .opened)
    (idle : s.fullReset = .idle) (free : s.portS.tx = none) (queue : s.replyQ = []) (waiting : s.portS.fwd = f :: fs)
    (early : s.alarm.notices = [] ∨ s.fwdRun ≠ 4) (after : List Instr) :
    runs (.transmitTake .s :: .frameSent .s :: after) s = runs after { s with
      fwdRun := min 4 (s.fwdRun + 1),
      portS := { s.portS with fwd := fs, tx := none, counters := s.portS.counters.frameOut } } := by
  have still : FullReset.frameEnded .s s.fullReset = s.fullReset := by rw [idle]; rfl
  refine (runs_cons_of_exec_eq_next (exec_transmitTake_s_of_forward opened idle free queue waiting early) _).trans
    ((runs_cons_of_exec_eq_next (exec_frameSent_of_sending (p := .s) (by exact opened) rfl) _).trans ?_)
  rw [endSend]
  dsimp only
  rw [still]
  rfl

/-- Each forwarded frame that goes before the notice adds 1 to the run, and at 4 the notice goes. -/
theorem notice_goes_within {n : Frame} {ns : List Frame} (m : Nat) : ∀ s : State, s.bridge = .opened → s.fullReset = .idle →
    s.portS.tx = none → s.replyQ = [] → s.fwdRun + m = 4 → s.alarm.notices = n :: ns →
    ∃ k ≤ m, ∃ t, runs ((List.replicate k [Instr.transmitTake .s, Instr.frameSent .s]).flatten ++ [.transmitTake .s]) s =
        .next t ∧ t.portS.tx.map (·.frame) = some n ∧ t.alarm.notices = ns ∧ t.portS.fwd = s.portS.fwd.drop k := by
  induction m with
  | zero =>
    intro s opened idle free queue run notices
    exact ⟨0, Nat.le_refl _, _, runs_cons_of_exec_eq_next
      (exec_transmitTake_s_of_notice opened idle free queue notices (.inr run)) [], rfl, rfl, rfl⟩
  | succ m ih =>
    intro s opened idle free queue run notices
    cases waiting : s.portS.fwd with
    | nil =>
      exact ⟨0, Nat.zero_le _, _, runs_cons_of_exec_eq_next
        (exec_transmitTake_s_of_notice opened idle free queue notices (.inl waiting)) [], rfl, rfl, waiting⟩
    | cons f fs =>
      have early : s.fwdRun ≠ 4 := by omega
      obtain ⟨k, le, t, ran, frame, left, rest⟩ := ih { s with
          fwdRun := min 4 (s.fwdRun + 1)
          portS := { s.portS with fwd := fs, tx := none, counters := s.portS.counters.frameOut } }
        opened idle rfl queue (by show min 4 (s.fwdRun + 1) + m = 4; omega) notices
      refine ⟨k + 1, Nat.succ_le_succ le, t, ?_, frame, left, rest⟩
      rw [List.replicate_succ, List.flatten_cons, List.append_assoc]
      exact (runs_transmitTake_frameSent opened idle free queue waiting (.inr early) _).trans ran

/-- Settles O10: one lemma for each thing that Port S may take, and the induction on the frames still to go. -/
theorem portSArbitrationSendsNoticesInTime : Obligations.PortSArbitrationSendsNoticesInTime := by
  refine ⟨fun s opened free => ⟨fun f rest queue idle => ?_, fun n ns f fs queue idle notices waiting =>
      ⟨fun run => exec_transmitTake_s_of_notice opened idle free queue notices (.inr run),
        fun run => exec_transmitTake_s_of_forward opened idle free queue waiting (.inr run)⟩,
      fun n ns queue idle notices empty => exec_transmitTake_s_of_notice opened idle free queue notices (.inl empty),
      fun f fs queue idle empty waiting => exec_transmitTake_s_of_forward opened idle free queue waiting (.inl empty),
      fun queue reset => ?_⟩,
    fun s n ns opened idle free queue run notices => ?_⟩
  · rw [exec_transmitTake_s_of_free opened free]
    have still : s.fullReset.replyTaken = s.fullReset := by rw [idle]; rfl
    rw [transmitS_of_reply queue, still]
    rfl
  · rw [exec_transmitTake_s_of_free opened free]
    exact congrArg _ (transmitS_of_reset queue reset)
  · obtain ⟨k, le, ran⟩ := notice_goes_within (4 - s.fwdRun) s opened idle free queue (by omega) notices
    exact ⟨k, by omega, ran⟩

end Sys2Proof.Machine
end

section
/-! PROOF. How a sending ends, and the repetition of a refused character (R166, R172, R173, R190). -/

namespace Sys2Proof.Machine

theorem FullReset.frameEnded_eq (p : Port) (x : FullReset) :
    FullReset.frameEnded p x = if p = .s ∧ x = .sending then .finished else x := by
  cases p
  · cases x <;> rfl
  · rfl

/-- The transmitter becomes free, a counter counts, and the reply of a Reset FULL brings the full reset on. -/
theorem endSend_eq (p : Port) (count : Counters → Counters) (s : State) : endSend p count s =
    State.withPort { s with fullReset := if p = .s ∧ s.fullReset = .sending then .finished else s.fullReset } p
      { s.port p with tx := none, counters := count (s.port p).counters } := by
  rw [endSend, FullReset.frameEnded_eq]
  cases p <;> rfl

/-- The error score rises in the port as it was written last. -/
theorem scoreUp_withPort (p : Port) (x : PortState) (s : State) : scoreUp p (s.withPort p x) =
    if x.settings.raiseLevel ≤ min 255 (x.score + 1) then
      raise codeLinkErrors (.port p) (some (BitVec.ofNat 32 (min 255 (x.score + 1))))
        (s.withPort p { x with score := min 255 (x.score + 1) })
    else s.withPort p { x with score := min 255 (x.score + 1) } := by
  rw [scoreUp]
  simp only [port_withPort, withPort_withPort]
  rfl

section
variable {s : State} {p : Port} {x : Tx}

/-- The fifth refusal of a character ends the frame (R166). -/
theorem exec_abandonedTx_of_fifth (opened : s.bridge = .opened) (sends : (s.port p).tx = some x) (fifth : x.refusals = 4) :
    exec (.abandonedTx p) s = .next (scoreUp p (endSend p Counters.abandonTx s)) := by
  refine congrArg Host.Outcome.next ((whenRunning_of_opened opened _).trans ?_)
  simp [abandonTx, sends, fifth, maxSendings]

theorem exec_characterRepeated_of_repeatAt {char : Nat} {t : Tx} (opened : s.bridge = .opened)
    (sends : (s.port p).tx = some x) (repeats : x.repeatAt char = some t) : exec (.characterRepeated p char) s =
      .next (s.withPort p { s.port p with tx := some t, counters := (s.port p).counters.repeated }) := by
  refine congrArg Host.Outcome.next ((whenRunning_of_opened opened _).trans ?_)
  simp only [characterRepeated, sends, Option.bind_some, repeats]
  rfl

end

theorem Tx.repeatAt_present {x : Tx} (few : x.refusals < 4) : x.repeatAt x.char = some { x with refusals := x.refusals + 1 } :=
  if_pos ⟨rfl, Nat.succ_lt_succ few⟩

theorem Tx.repeatAt_later {x : Tx} {char : Nat} (later : x.char < char) (within : char < 7 + x.frame.payload.length) :
    x.repeatAt char = some { x with char := char, refusals := 1 } :=
  (if_neg fun present => Nat.ne_of_gt later present.1).trans (if_pos ⟨later, within⟩)

end Sys2Proof.Machine
end

section
/-! PROOF. Reset TRAFFIC (R122, R144, R176, R191): the plans that halt, slot by slot, and what the ports and the Tracker
become. -/

namespace Sys2Proof.Machine

/-! The plans that halt (R144, R191). -/

/-- A plan in ISSUED stands in the slot. -/
def issuedAt (s : State) (g : Nat) : Bool := (plan? s g).any (fun p => p.state == .issued)

/-- The slot's plan halts with cause RESET when it is ISSUED: one step of `haltIssued`. -/
def haltIfIssued (s : State) (g : Nat) : State :=
  if issuedAt s g then haltPlan g .reset none s else s

/-- What the Alarm Unit takes when the slot's plan is one that halts. -/
def resetHaltActs (plans : Nat → Option Plan) (x : State) (g : Nat) : State :=
  match plans g with
  | some p => if p.state = .issued then queueNotice .planHalted [byteOf p.id, byteOf g, 8, 0, 0, 0]
      (raise codePlanHalted (.group g) (some 8) x) else x
  | none => x

/-- The ISSUED plans in the slots below `n` have halted between `s` and `t`, by ascending slot. -/
structure HaltedBelow (n : Nat) (s t : State) : Prop where
  plans : ∀ g, plan? t g = (plan? s g).map (fun p => if g < n ∧ p.state = .issued then p.halt .reset none else p)
  tracker : t.tracker = { s.tracker with orders := s.tracker.orders.map (fun e =>
    if e.origin = .plan ∧ ∃ g < n, e.slot = some g ∧ issuedAt s g = true then
      { e with state := .lapsed, window := none } else e) }
  counters : t.seq.groups = s.seq.groups ∧ t.seq.nextPlan = s.seq.nextPlan ∧ t.seq.nextSeq = s.seq.nextSeq
  prio : s.prio = [] → t.prio = []
  alarm : ∀ x : State, x.alarm = s.alarm → x.clock = s.clock → x.visits = s.visits →
    t.alarm = ((List.range n).foldl (resetHaltActs (plan? s)) x).alarm
  frame : Only planFields s t

theorem issuedAt_of_found {s : State} {g : Nat} {p : Plan} (found : plan? s g = some p) :
    issuedAt s g = (p.state == .issued) := by rw [issuedAt, found, Option.any_some]

theorem resetHaltActs_only (plans : Nat → Option Plan) (x : State) (g : Nat) : Only [.alarm] x (resetHaltActs plans x g) := by
  unfold resetHaltActs
  split
  · exact .ite ((raise_moves ..).trans (queueNotice_moves ..)).only (.refl _ x)
  · exact .refl _ x

theorem resetHaltActs_of_issued {plans : Nat → Option Plan} {g : Nat} {p : Plan} (x : State) (found : plans g = some p)
    (issued : p.state = .issued) : resetHaltActs plans x g =
      queueNotice .planHalted [byteOf p.id, byteOf g, 8, 0, 0, 0] (raise codePlanHalted (.group g) (some 8) x) := by
  simp only [resetHaltActs, found, if_pos issued]

theorem resetHaltActs_of_idle {plans : Nat → Option Plan} {g : Nat} (x : State)
    (idle : ∀ p, plans g = some p → p.state ≠ .issued) : resetHaltActs plans x g = x := by
  unfold resetHaltActs
  split
  · exact if_neg (idle _ ‹_›)
  · rfl

theorem haltPlan_siteCounts {g : Nat} {c : HaltCause} {d : Option Nat} {s : State} :
    (haltPlan g c d s).tracker = { s.tracker with orders := (haltPlan g c d s).tracker.orders } := by
  cases found : plan? s g with
  | none => simp only [haltPlan, found]
  | some p =>
    have eq : haltPlan g c d s = haltedNotice p.id g c d (raise codePlanHalted (.group g) (some (detailNat c.toCode))
      (dropPrio g (lapseSlot g (setPlan g (some (p.halt c d)) s)))) := by simp only [haltPlan, found]
    rw [eq, haltedNotice, queueNotice_tracker, raise_tracker]
    rfl

theorem HaltedBelow.zero (s : State) : HaltedBelow 0 s s := by
  refine ⟨fun g => by simp, by simp, ⟨rfl, rfl, rfl⟩, id, fun x alarm _ _ => alarm.symm, .refl _ s⟩

section
variable {n : Nat} {s t : State}

/-- A slot that is not reached yet holds its plan as it was. -/
theorem HaltedBelow.plan_eq (below : HaltedBelow n s t) : plan? t n = plan? s n := by
  simp [below.plans n]

theorem HaltedBelow.step_of_idle (below : HaltedBelow n s t) (idle : ∀ p, plan? s n = some p → p.state ≠ .issued) :
    HaltedBelow (n + 1) s t := by
  have reached : ∀ g p, plan? s g = some p → ((g < n + 1 ∧ p.state = .issued) ↔ (g < n ∧ p.state = .issued)) := by
    intro g p found
    have : g = n → p.state ≠ .issued := fun here => idle p (here ▸ found)
    grind
  have slots : ∀ e : OrderEntry, (∃ g < n + 1, e.slot = some g ∧ issuedAt s g = true) ↔
      ∃ g < n, e.slot = some g ∧ issuedAt s g = true := by
    intro e
    refine exists_congr fun g => ?_
    cases found : plan? s g with
    | none => simp [issuedAt, found]
    | some p => have := reached g p found; simp [issuedAt_of_found found]; grind
  refine ⟨fun g => ?_, ?_, below.counters, below.prio, fun x alarm clock visits => ?_, below.frame⟩
  · rw [below.plans g]
    cases found : plan? s g with
    | none => rfl
    | some p => simp only [Option.map_some, reached g p found]
  · rw [below.tracker]
    simp only [slots]
  · rw [List.range_succ, List.foldl_append]
    exact (below.alarm x alarm clock visits).trans (congrArg State.alarm (resetHaltActs_of_idle _ idle).symm)

theorem HaltedBelow.step_of_issued {p : Plan} (below : HaltedBelow n s t) (found : plan? s n = some p)
    (issued : p.state = .issued) : HaltedBelow (n + 1) s (haltPlan n .reset none t) := by
  have halts := haltPlan_halts .reset none (below.plan_eq.trans found)
  refine ⟨fun g => ?_, ?_, ?_, fun empty => ?_, fun x alarm clock visits => ?_, below.frame.trans halts.frame⟩
  · by_cases here : g = n
    · subst here
      rw [halts.plan, found, Option.map_some, if_pos ⟨Nat.lt_succ_self g, issued⟩]
      rfl
    · rw [halts.others g here, below.plans g]
      have reached : g < n + 1 ↔ g < n := by omega
      simp only [reached]
  · rw [haltPlan_siteCounts, halts.orders, below.tracker]
    have reached : ∀ e : OrderEntry, (∃ g < n + 1, e.slot = some g ∧ issuedAt s g = true) ↔
        e.slot = some n ∨ ∃ g < n, e.slot = some g ∧ issuedAt s g = true := by
      intro e
      simp only [Nat.lt_succ_iff_lt_or_eq, or_and_right, exists_or, exists_eq_left, issuedAt_of_found found, issued]
      simp [or_comm]
    simp only [List.map_map, reached]
    congr 1
    refine List.map_congr_left fun e _ => ?_
    simp only [Function.comp_apply]
    by_cases before : e.origin = .plan ∧ ∃ g < n, e.slot = some g ∧ issuedAt s g = true
    · rw [if_pos before, if_pos (And.intro before.1 (Or.inr before.2))]
      exact ite_self _
    · rw [if_neg before]
      exact if_congr (by grind) rfl rfl
  · obtain ⟨nextPlan, nextSeq, groups⟩ := halts.counters
    obtain ⟨groups', nextPlan', nextSeq'⟩ := below.counters
    exact ⟨groups.trans groups', nextPlan.trans nextPlan', nextSeq.trans nextSeq'⟩
  · rw [halts.prio, below.prio empty]; rfl
  · rw [List.range_succ, List.foldl_append, List.foldl_cons, List.foldl_nil, resetHaltActs_of_issued _ found issued, halts.alarm]
    have same := Only.foldl (resetHaltActs_only (plan? s)) (List.range n) x
    have sameClock := (below.frame.same .clock (by decide)).trans (clock.symm.trans (same.same .clock (by decide)).symm)
    have sameVisits := (below.frame.same .visits (by decide)).trans (visits.symm.trans (same.same .visits (by decide)).symm)
    refine queueNotice_alarm_congr _ _ ?_ ?_
    · exact raise_alarm_congr _ _ _ (below.alarm x alarm clock visits) sameClock sameVisits
    · exact sameClock

theorem HaltedBelow.step (below : HaltedBelow n s t) : HaltedBelow (n + 1) s (haltIfIssued t n) := by
  have test : issuedAt t n = issuedAt s n := by rw [issuedAt, issuedAt, below.plan_eq]
  rw [haltIfIssued, test]
  cases found : plan? s n with
  | none =>
    have free : ¬issuedAt s n = true := by simp [issuedAt, found]
    rw [if_neg free]
    exact below.step_of_idle (by simp [found])
  | some p =>
    by_cases issued : p.state = .issued
    · rw [if_pos ((issuedAt_of_found found).trans (beq_iff_eq.mpr issued))]
      exact below.step_of_issued found issued
    · rw [if_neg (by simpa [issuedAt_of_found found] using issued)]
      exact below.step_of_idle fun q here => Option.some.inj (found.symm.trans here) ▸ issued

end

theorem haltedBelow_foldl (s : State) (n : Nat) : HaltedBelow n s ((List.range n).foldl haltIfIssued s) := by
  induction n with
  | zero => exact .zero s
  | succ n ih =>
    rw [List.range_succ, List.foldl_append]
    exact ih.step

theorem haltIssued_halts (s : State) : HaltedBelow 4 s (haltIssued s) := haltedBelow_foldl s 4

/-! What a Reset TRAFFIC leaves (R176, R191). -/

/-- The ports and the Tracker are emptied and LINK_ERRORS is cleared for both ports; the ISSUED plans have not halted yet. -/
def trafficEmptied (s : State) : State :=
  clear codeLinkErrors (.port .f) (clear codeLinkErrors (.port .s) (emptyTracker (emptyPorts s)))

section
variable (s : State)

theorem emptyPorts_eq : emptyPorts s = (((((s.withPortS s.portS.cleanTraffic).withPortF s.portF.cleanTraffic).withPrio
    []).withReplyQ []).withFwdRun 0).withAlarm { s.alarm with notices := [] } := by
  simp only [emptyPorts, modPort, State.withPort, State.port, State.withPortS_portF, State.withPortF_alarm,
    State.withPortS_alarm]

theorem trafficEmptied_seq : (trafficEmptied s).seq = s.seq := by
  simp [trafficEmptied, emptyTracker, emptyPorts_eq]

theorem trafficEmptied_clock : (trafficEmptied s).clock = s.clock := by simp [trafficEmptied, emptyTracker, emptyPorts_eq]

theorem trafficEmptied_visits : (trafficEmptied s).visits = s.visits := by simp [trafficEmptied, emptyTracker, emptyPorts_eq]

theorem trafficEmptied_plan? : plan? (trafficEmptied s) = plan? s := by
  funext g
  rw [plan?, plan?, trafficEmptied_seq]

theorem trafficEmptied_issuedAt (g : Nat) : issuedAt (trafficEmptied s) g = issuedAt s g := by
  rw [issuedAt, issuedAt, trafficEmptied_plan?]

theorem trafficEmptied_tracker : (trafficEmptied s).tracker = ⟨s.tracker.orders.filter (fun e => e.origin != .site), 0, 0⟩ := by
  simp [trafficEmptied, emptyTracker, emptyPorts_eq, bne]

theorem trafficEmptied_alarm {x : State} (quiet : x.alarm = { s.alarm with notices := [] }) (clock : x.clock = s.clock) :
    (trafficEmptied s).alarm = (clear codeLinkErrors (.port .f) (clear codeLinkErrors (.port .s) x)).alarm := by
  refine clear_alarm_congr _ _ (clear_alarm_congr _ _ ?_ ?_) ?_ <;> simp [emptyTracker, emptyPorts_eq, quiet, clock]

theorem trafficEmptied_ports : (trafficEmptied s).portS = s.portS.cleanTraffic ∧
    (trafficEmptied s).portF = s.portF.cleanTraffic ∧ (trafficEmptied s).prio = [] ∧ (trafficEmptied s).replyQ = [] ∧
    (trafficEmptied s).fwdRun = 0 := by
  simp [trafficEmptied, emptyTracker, emptyPorts_eq]

theorem trafficReset_halts : HaltedBelow 4 (trafficEmptied s) (trafficReset s) := haltIssued_halts _

theorem trafficReset_plan? (g : Nat) : plan? (trafficReset s) g =
    (plan? s g).map (fun p => if p.state = .issued then p.halt .reset none else p) := by
  rw [(trafficReset_halts s).plans g, trafficEmptied_plan?]
  cases found : plan? s g with
  | none => rfl
  | some p => simp only [Option.map_some, plan?_lt found, true_and]

/-- The site orders are gone, so of those that stay every one is a plan's. -/
theorem trafficReset_tracker : (trafficReset s).tracker =
    ⟨(s.tracker.orders.filter (fun e => e.origin != .site)).map (fun e =>
      if ∃ g < 4, e.slot = some g ∧ issuedAt s g = true then { e with state := .lapsed, window := none } else e), 0, 0⟩ := by
  rw [(trafficReset_halts s).tracker, trafficEmptied_tracker]
  refine congrArg (Tracker.mk · 0 0) (List.map_congr_left fun e stays => if_congr ?_ rfl rfl)
  have notSite : e.origin ≠ .site := by simpa using (List.mem_filter.mp stays).2
  have plan : e.origin = .plan := by cases origin : e.origin with
    | site => exact absurd origin notSite
    | plan => rfl
  simp only [plan, true_and, trafficEmptied_issuedAt]

/-- The clears go before the raises and notices of the plans that halt, by ascending slot (log entry 17). -/
theorem trafficReset_alarm {x : State} (quiet : x.alarm = { s.alarm with notices := [] }) (clock : x.clock = s.clock)
    (visits : x.visits = s.visits) : (trafficReset s).alarm = ((List.range 4).foldl (resetHaltActs (plan? s))
      (clear codeLinkErrors (.port .f) (clear codeLinkErrors (.port .s) x))).alarm := by
  rw [← trafficEmptied_plan? s]
  exact (trafficReset_halts s).alarm _ (trafficEmptied_alarm s quiet clock).symm (clock.trans (trafficEmptied_clock s).symm)
    (visits.trans (trafficEmptied_visits s).symm)

theorem trafficReset_counters : (trafficReset s).seq.groups = s.seq.groups ∧
    (trafficReset s).seq.nextPlan = s.seq.nextPlan ∧ (trafficReset s).seq.nextSeq = s.seq.nextSeq := by
  rw [← trafficEmptied_seq s]
  exact (trafficReset_halts s).counters

/-- What no plan's halt touches is as the emptying left it. -/
theorem trafficReset_ports : (trafficReset s).portS = s.portS.cleanTraffic ∧ (trafficReset s).portF = s.portF.cleanTraffic ∧
    (trafficReset s).prio = [] ∧ (trafficReset s).replyQ = [] ∧ (trafficReset s).fwdRun = 0 := by
  obtain ⟨portS, portF, prio, replyQ, fwdRun⟩ := trafficEmptied_ports s
  have halts := trafficReset_halts s
  exact ⟨(halts.frame.same .portS (by decide)).trans portS, (halts.frame.same .portF (by decide)).trans portF,
    halts.prio prio, (halts.frame.same .replyQ (by decide)).trans replyQ,
    (halts.frame.same .fwdRun (by decide)).trans fwdRun⟩

end

end Sys2Proof.Machine
end

section
/-! PROOF. The management resets (R176, R190, R191): Reset TRAFFIC as a request, and what a Reset FULL holds back until its
reply has been sent. -/

namespace Sys2Proof.Machine

/-! While a Reset FULL is under way (R190). -/

section
variable {s : State}

theorem takesFrames_of_reset (reset : s.fullReset ≠ .idle) : s.takesFrames = false := beq_eq_false_iff_ne.mpr reset

theorem takeHead_of_reset (reset : s.fullReset ≠ .idle) (p : Port) (ready : State → Frame → Bool)
    (act : Frame → State → State) : takeHead p ready act s = s := by
  unfold takeHead
  split
  · exact if_neg (by simp [takesFrames_of_reset reset])
  · rfl

theorem responderReady_of_reset (reset : s.fullReset ≠ .idle) : ¬responderReady s = true := by
  simp [responderReady, takesFrames_of_reset reset]

theorem request_of_reset (opened : s.bridge = .opened) (reset : s.fullReset ≠ .idle) (code : Nat) (form : FieldForm)
    (effect : State → State × ManageReply) : request code form effect s = s := by
  refine (whenRunning_of_opened opened _).trans ?_
  split
  · exact if_neg fun ready => responderReady_of_reset reset ready.1
  · rfl

theorem badRequest_of_reset (reset : s.fullReset ≠ .idle) : badRequest s = s := by
  unfold badRequest
  split
  · exact if_neg fun ready => responderReady_of_reset reset ready.1
  · rfl

/-- Every request runs its act under `request`; two take no frame of the kind that another command takes. -/
theorem exec_isRequest_of_reset {i : Instr} (opened : s.bridge = .opened) (reset : s.fullReset ≠ .idle)
    (isReq : isRequest i = true) : exec i s = .next s := by
  have waits := request_of_reset opened reset
  cases i with
  | manageBadRequest =>
    exact congrArg Host.Outcome.next ((whenRunning_of_opened opened _).trans (badRequest_of_reset reset))
  | acceptReplacementNew | resetTraffic =>
    exact congrArg Host.Outcome.next ((congrArg _ (waits _ _ _)).trans (ite_self s))
  | readIdentity | writeNodeEntry | clearNodeEntry | readNodeEntry | startSupervision | stopSupervision
  | writeGroupParameters | writeLimitEntry | writeAlarmClass | writeGateEntry | writePortSettings | stageAgeingParameters
  | commitAgeingParameters | readAgeingParameters | readCabinetRecord | readStringRecord | readStringBlocks
  | readStringAgeing | stringRestore | acceptReplacementSame | readAlarmList | acknowledgeAlarm | planRequest | planResume
  | planAbandon | readPlan | visitOpen | visitClose | visitForceClose | visitCancel | readVisit | readPortCounters
  | resetFull => exact congrArg Host.Outcome.next (waits _ _ _)
  | _ => cases isReq

theorem exec_takeHead_of_reset (opened : s.bridge = .opened) (reset : s.fullReset ≠ .idle) :
    exec .reportInspection s = .next s ∧ exec .siteOrderJudgement s = .next s ∧ exec .replyMatch s = .next s ∧
      ∀ p, exec (.frameForward p) s = .next s := by
  have waits : ∀ p ready act, whenRunning (takeHead p ready act) s = s := fun p ready act =>
    (whenRunning_of_opened opened _).trans (takeHead_of_reset reset p ready act)
  exact ⟨congrArg Host.Outcome.next (waits ..), congrArg Host.Outcome.next (waits ..),
    congrArg Host.Outcome.next (waits ..), fun p => congrArg Host.Outcome.next (waits ..)⟩

/-! The reply of a Reset FULL (R190). -/

/-- The transmitter takes a waiting answer and counts it. -/
theorem exec_transmitTake_s_of_waiting {n : Nat} {f : Frame} {rest : List Frame} (opened : s.bridge = .opened)
    (reset : s.fullReset = .waiting n) (queue : s.replyQ = f :: rest) (free : s.portS.tx = none) :
    exec (.transmitTake .s) s = .next { s with
      replyQ := rest, portS := { s.portS with tx := some ⟨f, s.portS.settings, 0, 0⟩ }
      fullReset := if n ≤ 1 then .sending else .waiting (n - 1) } := by
  rw [exec_transmitTake_s_of_free opened free, transmitS_of_reply queue, reset]
  rfl

/-- The reply ends, sent or abandoned, and the full reset is to be taken. -/
theorem endSend_of_reply_sending (count : Counters → Counters) (sending : s.fullReset = .sending) :
    endSend .s count s = State.withPort { s with fullReset := .finished } .s
      { s.portS with tx := none, counters := count s.portS.counters } := by
  rw [endSend_eq, if_pos ⟨rfl, sending⟩]
  rfl

theorem exec_frameSent_of_reply_sending {x : Tx} (opened : s.bridge = .opened) (sending : s.fullReset = .sending)
    (sends : s.portS.tx = some x) : ∃ t, exec (.frameSent .s) s = .next t ∧ t.fullReset = .finished ∧
      Only [.portS, .fullReset] s t ∧
      t.portS = { s.portS with tx := none, counters := s.portS.counters.frameOut } := by
  refine ⟨_, exec_frameSent_of_sending opened sends, ?_, (endSend_moves .s _ s).only, ?_⟩ <;>
    rw [endSend_of_reply_sending _ sending] <;> rfl

theorem exec_abandonedTx_of_reply_sending {x : Tx} (opened : s.bridge = .opened) (sending : s.fullReset = .sending)
    (sends : s.portS.tx = some x) (fifth : x.refusals = 4) : ∃ t, exec (.abandonedTx .s) s = .next t ∧
      t.fullReset = .finished ∧
      t.portS = { s.portS with
        tx := none, score := min 255 (s.portS.score + 1), counters := s.portS.counters.abandonTx } ∧
      Only [.portS, .fullReset, .alarm] s t := by
  have moves : Moves [.portS, .fullReset, .alarm] s (scoreUp .s (endSend .s Counters.abandonTx s)) :=
    ((endSend_moves ..).mono (by decide)).trans ((scoreUp_moves ..).mono (by decide))
  refine ⟨_, exec_abandonedTx_of_fifth opened sends fifth, ?_, ?_, moves.only⟩ <;>
    rw [endSend_of_reply_sending _ sending, scoreUp_withPort] <;> split <;> rfl

end

/-! Reset TRAFFIC and Reset FULL as requests (R190, R191). -/

theorem exec_resetTraffic_of_takes {kind : Nat} {f : Frame} {s : State} (takes : Takes 33 (.exactly [kind]) f s)
    (notFull : kind ≠ 2) : exec (.resetTraffic kind) s = .next (answered f
      (resetTrafficEffect kind (dropHead .s s)).2 (resetTrafficEffect kind (dropHead .s s)).1) :=
  (congrArg Host.Outcome.next (if_neg notFull)).trans (next_request_takes _ takes)

theorem exec_resetTraffic_of_bad {kind : Nat} {f : Frame} {s : State} (takes : Takes 33 (.exactly [kind]) f s)
    (notFull : kind ≠ 2) (bad : kind ≠ 1) : exec (.resetTraffic kind) s =
      .next (answered f ⟨33, .refused, some .badValue, none, .none⟩ (dropHead .s s)) := by
  rw [exec_resetTraffic_of_takes takes notFull, resetTrafficEffect, refuseIf_true _ _ _ (bne_iff_ne.mpr bad)]
  rfl

theorem exec_resetTraffic_of_traffic {f : Frame} {s : State} (takes : Takes 33 (.exactly [1]) f s) :
    exec (.resetTraffic 1) s = .next (answered f ⟨33, .ok, none, none, .none⟩ (trafficReset (dropHead .s s))) := by
  rw [exec_resetTraffic_of_takes takes (by decide), resetTrafficEffect, refuseIf_false _ _ _ (by decide : (1 != 1) = false)]
  dsimp only [replyOk]

/-- Settles O54: the effect of Reset TRAFFIC field by field, and one lemma for each thing a Reset FULL holds back or ends. -/
theorem managementResetsActInOrder : Obligations.ManagementResetsActInOrder := by
  refine ⟨fun kind f s takes notFull => ⟨fun bad => exec_resetTraffic_of_bad takes notFull bad, fun one => ?_⟩,
    fun s opened => ⟨fun f takes => next_request_takes resetFullEffect takes,
      fun n f rest reset queue free => exec_transmitTake_s_of_waiting opened reset queue free, fun reset => ?_,
      fun x sending sends => ⟨exec_frameSent_of_reply_sending opened sending sends,
        fun fifth => exec_abandonedTx_of_reply_sending opened sending sends fifth⟩⟩⟩
  · subst one
    obtain ⟨portS, portF, prio, replyQ, fwdRun⟩ := trafficReset_ports (dropHead .s s)
    obtain ⟨groups, nextPlan, nextSeq⟩ := trafficReset_counters (dropHead .s s)
    have only := (((dropHead_moves .s s).mono (by decide)).trans (trafficReset_moves (dropHead .s s))).only
    refine ⟨_, exec_resetTraffic_of_traffic takes, portS, portF, prio, replyQ, fwdRun, trafficReset_tracker _, ?_,
      trafficReset_plan? _, groups, nextPlan, nextSeq, only.mono (by decide)⟩
    refine (trafficReset_alarm (dropHead .s s) (x := { s with alarm := { s.alarm with notices := [] } }) rfl rfl rfl).trans
      (congrArg (fun acts => State.alarm (List.foldl acts _ _)) (funext₂ fun x g => ?_))
    change resetHaltActs (plan? s) x g = _
    unfold resetHaltActs
    cases plan? s g <;> rfl
  · obtain ⟨inspection, judgement, matching, forward⟩ := exec_takeHead_of_reset opened reset
    exact ⟨inspection, judgement, matching, forward, fun i isReq => exec_isRequest_of_reset opened reset isReq⟩

end Sys2Proof.Machine
end

section
/-! PROOF. The Port F arbitration and the visit guard at sending (R109, R111, R112, R171). -/

namespace Sys2Proof.Machine

/-! The visit guard at sending (R111, R112). -/

theorem VisitState.covers_iff (x : VisitState) : x.covers = true ↔ x = .preparing ∨ x = .active ∨ x = .closing := by
  cases x <;> simp [VisitState.covers]

theorem OrderKind.returnsToService_iff (k : OrderKind) : k.returnsToService = true ↔
    k ∈ [.outputClose, .deisolate, .goInverter, .maintOpen, .batteryTestStart] := by
  cases k <;> simp [OrderKind.returnsToService]

/-- The cabinet lies in the scope of a visit that is PREPARING, ACTIVE or CLOSING (R161). -/
def InVisitScope (s : State) (c : Nat) : Prop := ∃ j v, visitEntry? s j = some v ∧
  (v.state = .preparing ∨ v.state = .active ∨ v.state = .closing) ∧ c ∈ v.cabinets

theorem cabCovered_iff_inVisitScope (s : State) (c : Nat) : cabCovered s c = true ↔ InVisitScope s c := by
  simp only [cabCovered_iff, VisitState.covers_iff, InVisitScope]

theorem anyVisit_iff (s : State) : anyVisit s = true ↔ ∃ j v, visitEntry? s j = some v ∧
    (v.state = .preparing ∨ v.state = .active ∨ v.state = .closing) := by
  rw [anyVisit, Bool.not_eq_true', List.isEmpty_eq_false_iff_exists_mem, exists_comm]
  simp only [mem_visitsIn_iff, VisitState.covers_iff]

/-- For MAINT_OPEN each member of the cabinet's group counts (R111). -/
theorem visitGuardFails_iff_inVisitScope (s : State) (k : OrderKind) (c : Nat) : visitGuardFails s k c = true ↔
    k.returnsToService = true ∧ (InVisitScope s c ∨
      (k = .maintOpen ∧ ∃ r m x, cab? s c = some r ∧ cab? s m = some x ∧ x.group = r.group ∧ InVisitScope s m)) := by
  have group : (groupOf? s c).any (fun g => (members s g).any (cabCovered s)) = true ↔
      ∃ r m x, cab? s c = some r ∧ cab? s m = some x ∧ x.group = r.group ∧ InVisitScope s m := by
    simp only [groupOf?, Option.any_map, Option.any_eq_true, List.any_eq_true, mem_members_iff,
      cabCovered_iff_inVisitScope]
    exact ⟨fun ⟨r, record, m, ⟨x, other, same⟩, inScope⟩ => ⟨r, m, x, record, other, same, inScope⟩,
      fun ⟨r, m, x, record, other, same, inScope⟩ => ⟨r, record, m, ⟨x, other, same⟩, inScope⟩⟩
  rw [visitGuardFails, Bool.and_eq_true, Bool.or_eq_true, Bool.and_eq_true, beq_iff_eq, group, cabCovered_iff_inVisitScope]

theorem sendingGuardFails_iff (s : State) (f : Frame) : sendingGuardFails s f = true ↔
    f.kind = .order ∧ ∃ k, OrderKind.ofCode (byteAt f.payload 0) = some k ∧
      k ∈ [.outputClose, .deisolate, .goInverter, .maintOpen, .batteryTestStart] ∧
      ((f.dest.toNat = 255 ∧ ∃ j v, visitEntry? s j = some v ∧
          (v.state = .preparing ∨ v.state = .active ∨ v.state = .closing)) ∨
        (f.dest.toNat ≠ 255 ∧ ∃ c, cabAt? s f.dest.toNat = some c ∧ (InVisitScope s c ∨
          (k = .maintOpen ∧ ∃ r m x, cab? s c = some r ∧ cab? s m = some x ∧ x.group = r.group ∧ InVisitScope s m)))) := by
  rw [sendingGuardFails, Bool.and_eq_true, beq_iff_eq]
  refine and_congr_right fun _ => ?_
  cases coded : OrderKind.ofCode (byteAt f.payload 0) with
  | none => simp
  | some k =>
    simp only [Option.some.injEq, exists_eq_left', Bool.and_eq_true, ← OrderKind.returnsToService_iff]
    refine and_congr_right fun returns => ?_
    by_cases broadcast : f.dest.toNat = 255
    · simp [broadcast, Config.broadcastAddr, anyVisit_iff]
    · simp [broadcast, Config.broadcastAddr, Option.any_eq_true, visitGuardFails_iff_inVisitScope, returns]

/-! What Port F takes (R171). -/

section
variable {s : State} {f : Frame}

theorem exec_transmitTake_f_of_free (opened : s.bridge = .opened) (free : s.portF.tx = none) :
    exec (.transmitTake .f) s = .next (transmitF s) := by
  refine congrArg Host.Outcome.next ((whenRunning_of_opened opened _).trans (if_neg ?_))
  simp [State.port, free]

theorem transmitF_of_prio {x : PrioFrame} {rest : List PrioFrame} (queue : s.prio = x :: rest) :
    transmitF s = beginSend .f x.frame (s.withPrio rest) := by
  simp only [transmitF, queue]

theorem transmitF_of_forward {rest : List Frame} (noPrio : s.prio = []) (waiting : s.portF.fwd = f :: rest) :
    transmitF s = takeForwardF f s := by
  simp only [transmitF, noPrio, waiting]

theorem transmitF_of_empty (noPrio : s.prio = []) (noForward : s.portF.fwd = []) : transmitF s = s := by
  simp only [transmitF, noPrio, noForward]

theorem takeForwardF_of_passed (passes : ¬sendingGuardFails s f = true) :
    takeForwardF f s = beginSend .f f (dropForward .f s) := if_neg passes

theorem takeForwardF_of_withheld (fails : sendingGuardFails s f = true) (room : s.replyQ.length < 4) :
    takeForwardF f s = withholdOrder f (dropForward .f s) :=
  (if_pos fails).trans (if_pos (decide_eq_true room))

theorem takeForwardF_of_no_room (fails : sendingGuardFails s f = true) (full : 4 ≤ s.replyQ.length) :
    takeForwardF f s = s :=
  (if_pos fails).trans (if_neg fun room => absurd (of_decide_eq_true room) (Nat.not_lt.mpr full))

theorem dropForward_f_eq {rest : List Frame} (waiting : s.portF.fwd = f :: rest) :
    dropForward .f s = { s with portF := { s.portF with fwd := rest } } := by
  have left : s.portF.fwd.drop 1 = rest := by rw [waiting]; rfl
  rw [← left]; rfl

/-- A withheld order is answered REFUSED, 5, with cause VISIT, 6, and its site entry goes (R112; log entry 38). -/
theorem withholdOrder_eq (f : Frame) (s : State) : withholdOrder f s = { s with
    replyQ := s.replyQ ++ [builtFrame 0 .reply f.seq [5, f.payload.headD (Config.absentOrderKind f.dest f.seq), f.dest, 6]]
    tracker := { s.tracker with
      orders := s.tracker.orders.filter (fun e => !(e.key == ⟨.site, f.dest.toNat, f.seq⟩)) } } := by
  rw [withholdOrder, gateAnswer, ← List.headD_eq_head?_getD]
  rfl

theorem exec_transmitTake_f_of_prio {x : PrioFrame} {rest : List PrioFrame} (opened : s.bridge = .opened)
    (free : s.portF.tx = none) (queue : s.prio = x :: rest) : exec (.transmitTake .f) s = .next { s with
      prio := rest, portF := { s.portF with tx := some ⟨x.frame, s.portF.settings, 0, 0⟩ } } := by
  rw [exec_transmitTake_f_of_free opened free, transmitF_of_prio queue]
  rfl

section
variable {rest : List Frame} (opened : s.bridge = .opened) (free : s.portF.tx = none) (noPrio : s.prio = [])
  (waiting : s.portF.fwd = f :: rest)
include opened free noPrio waiting

theorem exec_transmitTake_f_of_forward : exec (.transmitTake .f) s = .next (takeForwardF f s) := by
  rw [exec_transmitTake_f_of_free opened free, transmitF_of_forward noPrio waiting]

theorem exec_transmitTake_f_of_passed (passes : ¬sendingGuardFails s f = true) : exec (.transmitTake .f) s =
    .next { s with portF := { s.portF with fwd := rest, tx := some ⟨f, s.portF.settings, 0, 0⟩ } } := by
  rw [exec_transmitTake_f_of_forward opened free noPrio waiting, takeForwardF_of_passed passes, dropForward_f_eq waiting]
  rfl

theorem exec_transmitTake_f_of_withheld (fails : sendingGuardFails s f = true) (room : s.replyQ.length < 4) :
    exec (.transmitTake .f) s = .next { s with
      portF := { s.portF with fwd := rest }
      replyQ := s.replyQ ++ [builtFrame 0 .reply f.seq [5, f.payload.headD (Config.absentOrderKind f.dest f.seq), f.dest, 6]]
      tracker := { s.tracker with
        orders := s.tracker.orders.filter (fun e => !(e.key == ⟨.site, f.dest.toNat, f.seq⟩)) } } := by
  rw [exec_transmitTake_f_of_forward opened free noPrio waiting, takeForwardF_of_withheld fails room,
    dropForward_f_eq waiting, withholdOrder_eq]

theorem exec_transmitTake_f_of_no_room (fails : sendingGuardFails s f = true) (full : 4 ≤ s.replyQ.length) :
    exec (.transmitTake .f) s = .next s := by
  rw [exec_transmitTake_f_of_forward opened free noPrio waiting, takeForwardF_of_no_room fails full]

end

end

end Sys2Proof.Machine
end

section
/-! PROOF. Only the Port F arbitration puts a frame into a free Port F transmitter (R171): every other command leaves it
free. -/

namespace Sys2Proof.Machine

/-- The Port F transmitter sends nothing. -/
def FreeF (s : State) : Prop := s.portF.tx = none

theorem Only.freeF {fs : List Field} {s t : State} (h : Only fs s t) (noPort : .portF ∉ fs) (free : FreeF s) : FreeF t :=
  (congrArg PortState.tx (h.same .portF noPort)).trans free

section
variable {s : State}

theorem FreeF.withPort (free : FreeF s) (p : Port) {x : PortState} (keeps : (s.port p).tx = none → x.tx = none) :
    FreeF (s.withPort p x) := by
  cases p with
  | s => exact free
  | f => exact keeps free

theorem FreeF.modPort (free : FreeF s) (p : Port) {f : PortState → PortState} (keeps : ∀ x, x.tx = none → (f x).tx = none) :
    FreeF (modPort p f s) := free.withPort p (keeps _)

theorem FreeF.enqueueForward (free : FreeF s) (p : Port) (f : Frame) : FreeF (enqueueForward p f s) :=
  free.modPort p fun _ idle => idle

theorem FreeF.dropHead (free : FreeF s) (p : Port) : FreeF (dropHead p s) := free.modPort p fun _ idle => idle

theorem FreeF.ite {c : Prop} [Decidable c] {t u : State} (yes : FreeF t) (no : FreeF u) : FreeF (if c then t else u) := by
  split <;> assumption

/-! The receiver (R166 to R168, R174). -/

theorem FreeF.scoreUp (free : FreeF s) (p : Port) : FreeF (scoreUp p s) := by
  have scored : ∀ n, FreeF (s.withPort p { s.port p with score := n }) := fun n => free.withPort p id
  exact .ite ((raise_moves ..).only.freeF (by decide) (scored _)) (scored _)

theorem FreeF.soundFrame (free : FreeF s) (p : Port) : FreeF (soundFrame p s) := by
  have round : FreeF (s.withPort p { s.port p with sound := 0, score := (s.port p).score - 1 }) := free.withPort p id
  exact .ite (free.withPort p id) (.ite ((clear_moves ..).only.freeF (by decide) round) round)

theorem FreeF.dropCounted (free : FreeF s) (p : Port) (count : Counters → Counters) : FreeF (dropCounted p count s) :=
  (free.modPort p fun _ idle => by exact idle).scoreUp p

theorem FreeF.checkFrame (free : FreeF s) (p : Port) : FreeF (checkFrame p s) := by
  unfold Machine.checkFrame; dsimp only
  refine .ite (free.dropCounted p _) ?_
  split
  · exact free.dropCounted p _
  · exact .ite ((free.modPort p fun _ idle => by exact idle).soundFrame p)
      (.ite (free.dropCounted p _) ((free.modPort p fun _ idle => by exact idle).soundFrame p))

theorem PortState.receive_tx (x : PortState) (b : Byte) (faulty : Bool) : (x.receive b faulty).tx = x.tx := by
  have frameChar : ∀ r, (x.frameChar r b faulty).tx = x.tx := fun r => by unfold PortState.frameChar; split <;> rfl
  unfold PortState.receive
  split
  · exact frameChar _
  · split
    · split
      · rfl
      · exact frameChar _
    · rfl

theorem FreeF.waitExpires (free : FreeF s) (p : Port) (bits : Nat) : FreeF (waitExpires p bits s) := by
  have counted : FreeF (Machine.modPort p (fun x => { x with rx := { x.rx with idleBits := x.rx.idleBits + bits } }) s) :=
    free.modPort p fun _ idle => idle
  exact .ite (.ite (counted.dropCounted p _) counted) free

/-! The transmitters (R166, R171, R172). -/

theorem FreeF.endSend (free : FreeF s) (p : Port) (count : Counters → Counters) : FreeF (endSend p count s) :=
  FreeF.modPort (by exact free) p fun _ _ => rfl

theorem FreeF.frameSent (free : FreeF s) (p : Port) : FreeF (frameSent p s) :=
  .ite (free.endSend p _) free

theorem FreeF.abandonTx (free : FreeF s) (p : Port) : FreeF (abandonTx p s) := by
  unfold Machine.abandonTx; split
  · exact .ite ((free.endSend p _).scoreUp p) free
  · exact free

/-- A free transmitter repeats no character. -/
theorem FreeF.characterRepeated (free : FreeF s) (p : Port) (char : Nat) : FreeF (characterRepeated p char s) := by
  unfold Machine.characterRepeated; split
  next t repeats =>
    refine FreeF.withPort free p fun idle => ?_
    rw [idle] at repeats
    cases repeats
  · exact free

/-! Frames taken and passed on (R107, R118, R169). -/

theorem FreeF.takeHead (free : FreeF s) (p : Port) (ready : State → Frame → Bool) {act : Frame → State → State}
    (keeps : ∀ f, FreeF (Machine.dropHead p s) → FreeF (act f (Machine.dropHead p s))) : FreeF (takeHead p ready act s) := by
  rcases takeHead_cases p ready act s with idle | ⟨f, -, taken⟩
  · rwa [idle]
  · rw [taken]; exact keeps f (free.dropHead p)

theorem FreeF.judgeOrder (free : FreeF s) (f : Frame) : FreeF (judgeOrder f s) := by
  rcases judgeOrder_cases f s with ⟨a, c, answers⟩ | ⟨k, v, u, forwards, -, only⟩
  · rw [answers]; exact (gateAnswer_moves ..).only.freeF (by decide) free
  · rw [forwards]; exact (only.freeF (by decide) free).enqueueForward .f _

/-! The requests that write the ports (R173, R187, R191). -/

theorem FreeF.writePortEffect (free : FreeF s) (port : Nat) (fs : List (PortField × Nat)) :
    FreeF (writePortEffect port fs s).1 := by
  unfold Machine.writePortEffect; split
  · exact free
  next p _ => exact refuseIf_keeps (P := FreeF) _ _ free (free.modPort p fun _ idle => idle)

theorem FreeF.clearCounts (free : FreeF s) : FreeF (clearCounts s) := free

theorem FreeF.resetTrafficEffect (free : FreeF s) (kind : Nat) : FreeF (resetTrafficEffect kind s).1 := by
  rcases resetTrafficEffect_cases kind s with refused | reset
  · rw [refused]; exact free
  · obtain ⟨-, portF, -⟩ := trafficReset_ports s
    rw [reset, FreeF, portF]
    exact free

theorem FreeF.request (free : FreeF s) {code : Nat} {form : FieldForm} {effect : State → State × ManageReply}
    (keeps : FreeF (Machine.dropHead .s s) → FreeF (effect (Machine.dropHead .s s)).1) :
    FreeF (request code form effect s) := by
  rcases request_cases code form effect s with idle | ⟨f, taken⟩
  · rwa [idle]
  · rw [taken]; exact keeps free

end

/-- A free Port F transmitter stays free over every command but its own arbitration. -/
theorem exec_keeps_freeF {i : Instr} {s t : State} (free : FreeF s) (h : exec i s = .next t) (other : i ≠ .transmitTake .f) :
    FreeF t := by
  have running : ∀ {f : State → State}, Host.Outcome.next (φ := Fault) (ρ := Refusal) (whenRunning f s) = .next t →
      FreeF (f s) → FreeF t := fun {f} e acted => by
    rw [← Host.Outcome.next.inj e]
    rcases whenRunning_cases f s with idle | acts
    · rwa [idle]
    · rwa [acts]
  cases isReset : isFullReset i with
  | true =>
    rcases exec_fullReset_only h isReset with rfl | reset
    · exact free
    · exact reset.freeF (by decide) rfl
  | false =>
    cases i with
    | powerOn | resetLineReleased | fullResetTaken => cases isReset
    | idleDetected p bits => exact running h (free.modPort p fun _ idle => idle)
    | characterReceived p b parity stop => exact running h (free.modPort p fun x idle => (x.receive_tx ..).trans idle)
    | characterRepeated p char => exact running h (free.characterRepeated p char)
    | frameComplete p => exact running h (FreeF.ite (free.checkFrame p) free)
    | payloadLengthTooLong p | abandonedRx p =>
      exact running h (FreeF.ite (free.dropCounted p _) free)
    | characterWaitExpiry p bits => exact running h (free.waitExpires p bits)
    | reportInspection =>
      refine running h (free.takeHead _ _ fun f dropped => ?_)
      exact ((inspect_moves f _).only.freeF (by decide) dropped).enqueueForward .s f
    | replyMatch => exact running h (free.takeHead _ _ fun f dropped => (trackReply_moves f _).only.freeF (by decide) dropped)
    | siteOrderJudgement => exact running h (free.takeHead _ _ fun f dropped => dropped.judgeOrder f)
    | frameForward p => exact running h (free.takeHead _ _ fun f dropped => dropped.enqueueForward _ f)
    | transmitTake p =>
      cases p with
      | f => exact absurd rfl other
      | s => exact (exec_moves h rfl (by nofun)).only.freeF (by decide) free
    | frameSent p => exact running h (free.frameSent p)
    | abandonedTx p => exact running h (free.abandonTx p)
    | writePortSettings port fs => exact Host.Outcome.next.inj h ▸ free.request fun u => u.writePortEffect port fs
    | readPortCounters clear =>
      refine Host.Outcome.next.inj h ▸ free.request fun dropped => ?_
      exact FreeF.ite dropped.clearCounts dropped
    | resetTraffic kind =>
      have e := Host.Outcome.next.inj h
      split at e
      · exact e ▸ free
      · exact e ▸ free.request fun u => u.resetTrafficEffect kind
    | watchExpiry n => exact (exec_moves h rfl (by nofun)).only.freeF (by cases n <;> simp [touches]) free
    | replyWindowExpiry k | completionWindowExpiry k =>
      refine (exec_moves h rfl (by nofun)).only.freeF ?_ free
      dsimp only [touches]
      cases k.origin <;> decide
    | _ => exact (exec_moves h rfl (by nofun)).only.freeF (by simp [touches, requestFields, planFields]) free

end Sys2Proof.Machine
end

section
/-! PROOF. Port F (R111, R166, R171 to R173, R190): how every sending ends, and that no order of the return-to-service set
goes out to a cabinet in the scope of a visit. -/

namespace Sys2Proof.Machine

/-! How every sending ends (R166, R172, R173). -/

section
variable {s : State} {p : Port} {x : Tx}

theorem exec_frameSent_ends (opened : s.bridge = .opened) (sends : (s.port p).tx = some x) : exec (.frameSent p) s =
    .next (State.withPort { s with fullReset := if p = .s ∧ s.fullReset = .sending then .finished else s.fullReset } p
      { s.port p with tx := none, counters := (s.port p).counters.frameOut }) := by
  rw [exec_frameSent_of_sending opened sends, endSend_eq]

theorem exec_abandonedTx_ends (opened : s.bridge = .opened) (sends : (s.port p).tx = some x) (fifth : x.refusals = 4) :
    let score := min 255 ((s.port p).score + 1)
    let u := State.withPort { s with fullReset := if p = .s ∧ s.fullReset = .sending then .finished else s.fullReset } p
      { s.port p with tx := none, score := score, counters := (s.port p).counters.abandonTx }
    exec (.abandonedTx p) s = .next (if (s.port p).settings.raiseLevel ≤ score then
      raise codeLinkErrors (.port p) (some (BitVec.ofNat 32 score)) u else u) := by
  rw [exec_abandonedTx_of_fifth opened sends fifth, endSend_eq, scoreUp_withPort]

theorem exec_characterRepeated_repeats (opened : s.bridge = .opened) (sends : (s.port p).tx = some x) :
    (x.refusals < 4 → exec (.characterRepeated p x.char) s = .next (s.withPort p { s.port p with
      tx := some { x with refusals := x.refusals + 1 }, counters := (s.port p).counters.repeated })) ∧
    ∀ char, x.char < char → char < 7 + x.frame.payload.length →
      exec (.characterRepeated p char) s = .next (s.withPort p { s.port p with
        tx := some { x with char := char, refusals := 1 }, counters := (s.port p).counters.repeated }) :=
  ⟨fun few => exec_characterRepeated_of_repeatAt opened sends (Tx.repeatAt_present few), fun _ later within =>
    exec_characterRepeated_of_repeatAt opened sends (Tx.repeatAt_later later within)⟩

end

/-! The frames that Port F takes (R111). -/

/-- The frame names no cabinet in the scope of the visit, and it is no broadcast. -/
def AwayFrom (s : State) (v : Visit) (f : Frame) : Prop :=
  f.dest.toNat ≠ 255 ∧ ∀ c, cabAt? s f.dest.toNat = some c → c ∉ v.cabinets

theorem byteAt_planOrderFrame (o : PlanOrder) : byteAt (planOrderFrame o).payload 0 = o.kind.toCode := by
  have range := o.kind.toCode_range
  change (byteOf o.kind.toCode).toNat = o.kind.toCode
  rw [toNat_byteOf, Nat.mod_eq_of_lt (by omega)]

section
variable {s : State} {f : Frame} {k : OrderKind} {j : Nat} {v : Visit}
  (coded : OrderKind.ofCode (byteAt f.payload 0) = some k)
  (returns : k ∈ [.outputClose, .deisolate, .goInverter, .maintOpen, .batteryTestStart])
  (stands : visitEntry? s j = some v) (live : v.state = .preparing ∨ v.state = .active ∨ v.state = .closing)
include coded returns stands live

/-- A forwarded order that passes the guard is no broadcast and names no cabinet that a visit covers. -/
theorem awayFrom_of_passed (isOrder : f.kind = .order) (passes : ¬sendingGuardFails s f = true) : AwayFrom s v f := by
  have blocked := mt (sendingGuardFails_iff s f).mpr passes
  have notBroadcast : f.dest.toNat ≠ 255 := fun broadcast =>
    blocked ⟨isOrder, k, coded, returns, .inl ⟨broadcast, j, v, stands, live⟩⟩
  exact ⟨notBroadcast, fun c addressed inScope => blocked
    ⟨isOrder, k, coded, returns, .inr ⟨notBroadcast, c, addressed, .inl ⟨j, v, stands, live, inScope⟩⟩⟩⟩

/-- A plan's order goes to a cabinet that its plan returns, and such a cabinet lies in no visit's scope. -/
theorem awayFrom_of_prio {x : PrioFrame} (inv : PlansClearOfVisits s) (waits : x ∈ s.prio) (taken : x.frame = f) :
    AwayFrom s v f := by
  obtain ⟨p, o, found, frame, loop, plans⟩ := inv.frames x waits
  have dest : f.dest.toNat = o.target := by
    rw [← taken, frame]
    exact Nat.mod_eq_of_lt (by omega)
  have kind : k = o.kind := by
    rw [← taken, frame, byteAt_planOrderFrame, OrderKind.ofCode_toCode] at coded
    exact (Option.some.inj coded).symm
  refine ⟨by omega, fun c addressed inScope => ?_⟩
  have clear := inv.clear _ p c found (plans (kind ▸ k.returnsToService_iff.mpr returns) c (dest ▸ addressed))
  have covered := (cabCovered_iff_inVisitScope s c).mpr ⟨j, v, stands, live, inScope⟩
  exact Bool.noConfusion (clear.symm.trans covered)

end

/-- What the Port F arbitration takes comes from the priority queue or has passed the guard. -/
theorem transmitTake_f_takes {s t : State} {x : Tx} (h : exec (.transmitTake .f) s = .next t) (free : s.portF.tx = none)
    (sends : t.portF.tx = some x) : (∃ y ∈ s.prio, y.frame = x.frame) ∨ ¬sendingGuardFails s x.frame = true := by
  have unsent : ∀ {u : State}, u.portF.tx = none → u ≠ t := fun idle same => by
    rw [same, sends] at idle
    cases idle
  have sent : ∀ {u : State} {f : Frame} {line : LineSettings}, u = t → u.portF.tx = some ⟨f, line, 0, 0⟩ → f = x.frame :=
    fun same takes => congrArg Tx.frame (Option.some.inj (takes.symm.trans ((congrArg (·.portF.tx) same).trans sends)))
  have took : ∀ {u : State}, exec (.transmitTake .f) s = .next u → u = t := fun e => Host.Outcome.next.inj (e.symm.trans h)
  cases bridge : s.bridge with
  | closed => exact absurd (took (exec_of_closed bridge (by nofun) (by nofun) (by nofun))) (unsent free)
  | opened =>
    cases queue : s.prio with
    | cons y rest =>
      exact .inl ⟨y, List.mem_cons_self, sent (took (exec_transmitTake_f_of_prio bridge free queue)) rfl⟩
    | nil =>
      cases waiting : s.portF.fwd with
      | nil =>
        have idle := (exec_transmitTake_f_of_free bridge free).trans (congrArg _ (transmitF_of_empty queue waiting))
        exact absurd (took idle) (unsent free)
      | cons f rest =>
        by_cases fails : sendingGuardFails s f = true
        · by_cases room : s.replyQ.length < 4
          · exact absurd (took (exec_transmitTake_f_of_withheld bridge free queue waiting fails room)) (unsent free)
          · exact absurd (took (exec_transmitTake_f_of_no_room bridge free queue waiting fails (Nat.not_lt.mp room)))
              (unsent free)
        · have same := sent (took (exec_transmitTake_f_of_passed bridge free queue waiting fails)) rfl
          exact .inr (same ▸ fails)

/-- Settles O11: the arbitration case by case, the ends of a sending, and the guard over every frame that Port F takes. -/
theorem portFArbitrationAndSendingEnds : Obligations.PortFArbitrationAndSendingEnds := by
  refine ⟨fun s opened free => ⟨fun x rest queue => exec_transmitTake_f_of_prio opened free queue,
      fun f rest noPrio waiting => ?_⟩,
    fun p s x opened sends => ⟨exec_frameSent_ends opened sends, exec_abandonedTx_ends opened sends,
      exec_characterRepeated_repeats opened sends⟩,
    fun i s t x inv h free sends isOrder k coded returns j v stands live => ?_⟩
  · have guard := sendingGuardFails_iff s f
    exact ⟨fun passes => exec_transmitTake_f_of_passed opened free noPrio waiting (mt guard.mp passes),
      fun fails room => exec_transmitTake_f_of_withheld opened free noPrio waiting (guard.mpr fails) room,
      fun fails full => exec_transmitTake_f_of_no_room opened free noPrio waiting (guard.mpr fails) full⟩
  · by_cases take : i = .transmitTake .f
    · subst take
      rcases transmitTake_f_takes h free sends with ⟨y, waits, taken⟩ | passes
      · exact awayFrom_of_prio coded returns stands live inv waits taken
      · exact awayFrom_of_passed coded returns stands live isOrder passes
    · cases (exec_keeps_freeF free h take).symm.trans sends

end Sys2Proof.Machine
end

section
/-! PROOF. A step and the queue of commands (R182), and the state after reset: the values of R190 and the invariants of the
part. -/

namespace Sys2Proof.Machine

/-- Settles O1, by the two branches of `step`. -/
theorem stepRunsFrontCommand : Obligations.StepRunsFrontCommand := ⟨fun _ _ _ => rfl, fun _ => rfl⟩

theorem reset_floorEmpty : FloorEmpty State.reset := fullReset_floorEmpty State.reset

/-- Settles O2: the tables without entries by `reset_floorEmpty`, the others place by place. -/
theorem resetHoldsTheTableValues : Obligations.ResetHoldsTheTableValues := by
  obtain ⟨noCab, noStr, noPlan, noVisit, noForce, -, -⟩ := reset_floorEmpty
  have directory : ∀ i < 56, State.reset.resp.dir[i]? = some none := fun _ => Vector.getElem?_replicate_of_lt
  have limits : ∀ k < 32, State.reset.resp.limits[k]? = some none := fun _ => Vector.getElem?_replicate_of_lt
  have records : ∀ k < 32, State.reset.insp.records[k]? = some [] := fun _ => Vector.getElem?_replicate_of_lt
  have groups : ∀ g < 4, State.reset.seq.groups[g]? = some defaultGroup := fun _ => Vector.getElem?_replicate_of_lt
  have ports : ∀ p, State.reset.port p = resetPort := fun p => by cases p <;> rfl
  refine ⟨⟨rfl, rfl, rfl⟩, ⟨rfl, directory, limits⟩, ⟨records, rfl⟩, ⟨noCab, noStr⟩, ⟨rfl, rfl⟩,
    ⟨rfl, rfl, rfl, rfl, rfl, rfl⟩, rfl, ⟨rfl, rfl, rfl⟩, ⟨noPlan, rfl, rfl, groups⟩, ⟨noVisit, noForce⟩, fun p => ?_,
    rfl, rfl, rfl⟩
  rw [ports]
  exact ⟨rfl, rfl, rfl, rfl, rfl, rfl, rfl⟩

theorem reset_withinPlaces : WithinPlaces State.reset := by
  have alarm : State.reset.alarm.Within := ⟨Nat.zero_le _, Nat.zero_le _⟩
  have site : siteOrders State.reset ≤ sitePlaces := reset_floorEmpty.siteEntries.trans_le (Nat.zero_le _)
  have prio : PrioInPlace State.reset := ⟨List.nodup_nil, fun _ sent => nomatch sent⟩
  exact (withinPlaces_iff _).mpr ⟨reset_queuesWithin, alarm, site, reset_planEntriesInPlace, reset_scopesInRange, prio⟩

theorem reset_visitsDisjoint : VisitsDisjoint State.reset := by
  have absent : ∀ {k v}, visitEntry? State.reset k ≠ some v := fun {k v} held => by
    cases (visitEntry?_reset k).symm.trans held
  exact ⟨fun _ _ held => absurd held absent, fun _ _ _ _ held => absurd held absent,
    fun _ _ _ _ _ held => absurd held absent, fun _ _ _ _ _ held => absurd held absent⟩

theorem reset_plansInPlace : PlansInPlace State.reset := fun g _ held => by
  cases (reset_floorEmpty.plans g).symm.trans held

theorem reset_plansClear : PlansClearOfVisits State.reset := by
  refine .of_no_plan reset_floorEmpty.plans rfl (fun e listed => ?_) (fun c r record => ?_)
  · obtain ⟨i, stands⟩ := (mem_dirEntries_iff ..).mp listed
    cases (Option.join_eq_some_iff.mpr stands).symm.trans (getElem?_replicate_none_join ..)
  · cases (reset_floorEmpty.cabs c).symm.trans record

/-- Settles O60: the queues and lists are empty, and nothing of the floor stands. -/
theorem invariantsHoldAtReset : Obligations.InvariantsHoldAtReset :=
  ⟨reset_withinPlaces, List.nodup_nil, List.nodup_nil, fun _ => reset_floorEmpty, reset_visitsDisjoint, reset_plansInPlace,
    reset_plansClear⟩

end Sys2Proof.Machine
end

section
/-! PROOF. The frame of every command (R185): beside those of `exec_moves`, the full resets and the judgement of a site
order keep it. -/

namespace Sys2Proof.Machine

theorem fullReset_only (s : State) : Only resetFields s (fullReset s) :=
  ⟨fun f kept => by
    cases f with
    | pending | resetLine => rfl
    | _ => exact absurd (by decide) kept⟩

theorem exec_powerOn_only {s t : State} (h : exec .powerOn s = .next t) : Only (touches .powerOn) s t :=
  Host.Outcome.next.inj h ▸ (fullReset_only s).trans ((only_withBridge ..).mono (by decide))

theorem exec_resetLineReleased_only {s t : State} (h : exec .resetLineReleased s = .next t) :
    Only (touches .resetLineReleased) s t :=
  Host.Outcome.next.inj h ▸ Only.ite (((fullReset_only s).mono (by decide)).trans ((only_withResetLine ..).mono (by decide)))
    (Only.refl ..)

theorem exec_fullResetTaken_only {s t : State} (h : exec .fullResetTaken s = .next t) :
    Only (touches .fullResetTaken) s t :=
  Host.Outcome.next.inj h ▸ Only.ite (Only.ite (fullReset_only s) (Only.refl ..)) (Only.refl ..)

theorem exec_siteOrderJudgement_only {s t : State} (h : exec .siteOrderJudgement s = .next t) :
    Only (touches .siteOrderJudgement) s t := by
  rcases exec_siteOrderJudgement_cases h with rfl | ⟨f, -, rfl⟩
  · exact Only.refl ..
  · exact ((dropHead_moves .s s).only.mono (by decide)).trans ((judgeOrder_only f _).mono (by decide))

/-- Settles O5: the full resets and the judgement of a site order by their own frames, every other command by its moves. -/
theorem everyCommandKeepsItsFrame : Obligations.EveryCommandKeepsItsFrame := by
  intro i s t h
  cases i with
  | powerOn => exact exec_powerOn_only h
  | resetLineReleased => exact exec_resetLineReleased_only h
  | fullResetTaken => exact exec_fullResetTaken_only h
  | siteOrderJudgement => exact exec_siteOrderJudgement_only h
  | _ => exact (exec_moves h rfl nofun).only

end Sys2Proof.Machine
end

section
/-! PROOF. Read Identity (R186): the entries, plans and visits it counts are the occupied places of their tables. -/

namespace Sys2Proof.Machine

theorem visitsIn_all (s : State) : visitsIn s (fun _ => true) = s.visits.entries.toList.filterMap id := by
  have all : (fun o : Option Visit => o.filter (fun _ => true)) = id := by funext o; cases o <;> rfl
  rw [visitsIn, all]

theorem readIdentityEffect_eq (s : State) : readIdentityEffect s = (s, ⟨1, .ok, none, none,
    .identity 4120 1 s.resp.mode s.clock.sec s.clock.ms (s.resp.dir.toList.countP Option.isSome)
      (s.seq.plans.toList.countP Option.isSome) (s.visits.entries.toList.countP Option.isSome) s.alarm.list.length⟩) := by
  rw [readIdentityEffect, visitsIn_all, dirEntries, plansHeld]
  simp only [List.length_filterMap_eq_countP]
  rfl

/-- Settles O51, by the effect of the request. -/
theorem readIdentityNamesThePart : Obligations.ReadIdentityNamesThePart := fun _ s takes =>
  next_request_of_effect takes (readIdentityEffect_eq (dropHead .s s))

end Sys2Proof.Machine
end

section
/-! PROOF. The bytes that fit each form of fields (R184; log entry 3). -/

namespace Sys2Proof.Machine

/-- What a reader that skips `n` bytes accepts: so many bytes and then something it accepts. -/
theorem skip_iff (n : Nat) (accepts : List Byte → Prop) (p : List Byte) : n ≤ p.length ∧ accepts (p.drop n) ↔
    ∃ front rest, p = front ++ rest ∧ front.length = n ∧ accepts rest := by
  constructor
  · rintro ⟨room, accepted⟩
    exact ⟨p.take n, p.drop n, (List.take_append_drop n p).symm, List.length_take_of_le room, accepted⟩
  · rintro ⟨front, rest, rfl, rfl, accepted⟩
    exact ⟨by simp, by rwa [List.drop_left]⟩

theorem namedFit_cons_iff (x : Byte × Nat) (named : List (Byte × Nat)) (p : List Byte) : namedFit (x :: named) p = true ↔
    ∃ value rest, p = x.1 :: value ++ rest ∧ value.length = x.2 ∧ namedFit named rest = true := by
  cases p with
  | nil => simp [namedFit]
  | cons b p =>
    simp only [namedFit, Bool.and_eq_true, beq_iff_eq, decide_eq_true_eq, and_assoc, List.cons_append, List.cons.injEq,
      skip_iff x.2 (fun rest => namedFit named rest = true), exists_and_left]

/-- Named fields fit the bytes that are each its identifier and its value, in order. -/
theorem namedFit_iff (named : List (Byte × Nat)) : ∀ p : List Byte, namedFit named p = true ↔
    ∃ values : List (List Byte), p = (List.zipWith (fun (x : Byte × Nat) v => x.1 :: v) named values).flatten ∧
      values.map List.length = named.map Prod.snd := by
  induction named with
  | nil => intro p; simp [namedFit]
  | cons x named ih =>
    intro p
    rw [namedFit_cons_iff]
    constructor
    · rintro ⟨value, rest, rfl, size, fit⟩
      obtain ⟨values, rfl, sizes⟩ := (ih rest).mp fit
      exact ⟨value :: values, by simp, by simp [size, sizes]⟩
    · rintro ⟨_ | ⟨value, values⟩, rfl, sizes⟩
      · cases sizes
      · obtain ⟨size, sizes⟩ := List.cons.inj sizes
        exact ⟨value, _, by simp, size, (ih _).mpr ⟨values, rfl, sizes⟩⟩

theorem listsFit_cons_iff (width behind n : Nat) (counts : List Nat) (p : List Byte) :
    listsFit width behind (n :: counts) p = true ↔ n < 256 ∧
      ∃ list rest, p = byteOf n :: list ++ rest ∧ list.length = width * n ∧ listsFit width behind counts rest = true := by
  cases p with
  | nil => simp [listsFit]
  | cons b p =>
    have count : b.toNat = n ↔ n < 256 ∧ b = byteOf n := by
      constructor
      · rintro rfl
        exact ⟨b.isLt, (byteOf_toNat b).symm⟩
      · rintro ⟨small, rfl⟩
        rw [toNat_byteOf, Nat.mod_eq_of_lt small]
    simp only [listsFit, Bool.and_eq_true, beq_iff_eq, decide_eq_true_eq, count, and_assoc, List.cons_append,
      List.cons.injEq, skip_iff (width * n) (fun rest => listsFit width behind counts rest = true), exists_and_left]

/-- Lists fit the bytes that are each its own count and its entries, in order, and then the bytes behind them. -/
theorem listsFit_iff (width behind : Nat) (counts : List Nat) : ∀ p : List Byte, listsFit width behind counts p = true ↔
    ∃ lists back, p = (List.zipWith (fun c l => byteOf c :: l) counts lists).flatten ++ back ∧
      lists.map List.length = counts.map (width * ·) ∧ (∀ c ∈ counts, c < 256) ∧ back.length = behind := by
  induction counts with
  | nil => intro p; simp [listsFit]
  | cons n counts ih =>
    intro p
    rw [listsFit_cons_iff]
    constructor
    · rintro ⟨small, list, rest, rfl, size, fit⟩
      obtain ⟨lists, back, rfl, sizes, smalls, behind⟩ := (ih rest).mp fit
      exact ⟨list :: lists, back, by simp, by simp [size, sizes], List.forall_mem_cons.mpr ⟨small, smalls⟩, behind⟩
    · rintro ⟨_ | ⟨list, lists⟩, back, rfl, sizes, smalls, behind⟩
      · cases sizes
      · obtain ⟨size, sizes⟩ := List.cons.inj sizes
        obtain ⟨small, smalls⟩ := List.forall_mem_cons.mp smalls
        exact ⟨small, list, _, by simp, size, (ih _).mpr ⟨lists, back, rfl, sizes, smalls, behind⟩⟩

theorem fits_exactly_iff (bs : List Nat) (p : List Byte) : (FieldForm.exactly bs).fits p = true ↔ p.map BitVec.toNat = bs :=
  beq_iff_eq

theorem fits_flag_iff (b : Bool) (p : List Byte) :
    (FieldForm.flag b).fits p = true ↔ ∃ x, p = [x] ∧ (b = true ↔ x ≠ 0) := by
  match p with
  | [] | _ :: _ :: _ => simp [FieldForm.fits]
  | [x] => cases b <;> simp [FieldForm.fits]

theorem fits_sized_iff (n : Nat) (p : List Byte) : (FieldForm.sized n).fits p = true ↔ p.length = n := beq_iff_eq

theorem fits_named_iff (n : Nat) (named : List (Byte × Nat)) (p : List Byte) :
    (FieldForm.named n named).fits p = true ↔ ∃ head values, p = head ++
      (List.zipWith (fun (x : Byte × Nat) v => x.1 :: v) named values).flatten ∧
      head.length = n ∧ values.map List.length = named.map Prod.snd := by
  rw [FieldForm.fits, Bool.and_eq_true, decide_eq_true_eq, skip_iff n (fun rest => namedFit named rest = true)]
  simp only [namedFit_iff]
  constructor
  · rintro ⟨head, _, rfl, size, values, rfl, sizes⟩
    exact ⟨head, values, rfl, size, sizes⟩
  · rintro ⟨head, values, rfl, size, sizes⟩
    exact ⟨head, _, rfl, size, values, rfl, sizes⟩

theorem fits_lists_iff (n width : Nat) (counts : List Nat) (behind : Nat) (p : List Byte) :
    (FieldForm.lists n width counts behind).fits p = true ↔ ∃ front lists back, p = front ++
      (List.zipWith (fun c l => byteOf c :: l) counts lists).flatten ++ back ∧ front.length = n ∧
      lists.map List.length = counts.map (width * ·) ∧ (∀ c ∈ counts, c < 256) ∧ back.length = behind := by
  rw [FieldForm.fits, Bool.and_eq_true, decide_eq_true_eq, skip_iff n (fun rest => listsFit width behind counts rest = true)]
  simp only [listsFit_iff]
  constructor
  · rintro ⟨front, _, rfl, size, lists, back, rfl, rest⟩
    exact ⟨front, lists, back, (List.append_assoc ..).symm, size, rest⟩
  · rintro ⟨front, lists, back, rfl, size, rest⟩
    exact ⟨front, _, List.append_assoc .., size, lists, back, rfl, rest⟩

end Sys2Proof.Machine
end

section
/-! PROOF. The requests that are refused without an effect: a frame that does not parse (R183, R184), a request outside its
mode, a plan or a visit that nothing holds (R185). -/

namespace Sys2Proof.Machine

/-! BAD_REQUEST. -/

theorem badRequest_of_ready {f : Frame} {s : State} (head : manageHead? s = some f) (ready : responderReady s = true) :
    badRequest s = if requestParses f = true then s else answered f (badRequestReply f) (dropHead .s s) := by
  cases parses : requestParses f <;> simp [badRequest, head, ready, parses, answered]

theorem exec_manageBadRequest_of_ready {f : Frame} {s : State} (opened : s.bridge = .opened)
    (head : manageHead? s = some f) (ready : responderReady s = true) : exec .manageBadRequest s =
      .next (if requestParses f = true then s else answered f (badRequestReply f) (dropHead .s s)) :=
  congrArg Host.Outcome.next ((whenRunning_of_opened opened _).trans (badRequest_of_ready head ready))

theorem requestShape_of_unknown {code : Nat} (unknown : code = 0 ∨ 33 < code) : requestShape code = none := by
  rcases unknown with rfl | above
  · rfl
  · obtain ⟨more, rfl⟩ := Nat.exists_eq_add_of_le' above
    simp [requestShape]

theorem requestParses_of_unknown {f : Frame}
    (unknown : requestCode f = none ∨ ∃ c, requestCode f = some c ∧ (c = 0 ∨ 33 < c)) : requestParses f = false := by
  rcases unknown with empty | ⟨c, coded, out⟩
  · rw [requestParses, empty]; rfl
  · rw [requestParses, coded, Option.bind_some, requestShape_of_unknown out]; rfl

/-! MODE and NOT_FOUND. -/

theorem refuseIf_not_supervising {s : State} (unconf : s.resp.mode = .unconfigured) (r : ManageReply)
    (rest : State → State × ManageReply) : refuseIf (!s.supervising) r rest s = (s, r) :=
  refuseIf_true _ _ _ (by simp [State.supervising, unconf])

theorem onPlan_of_unconfigured {s : State} (unconf : s.resp.mode = .unconfigured) (code id : Nat)
    (act : Nat → Plan → State → State × ManageReply) : onPlan code id act s = (s, replyRefused code .mode) :=
  refuseIf_not_supervising unconf _ _

theorem onVisit_of_unconfigured {s : State} (unconf : s.resp.mode = .unconfigured) (code id : Nat)
    (allowed : VisitState → Bool) (act : Nat → Visit → State → State × ManageReply) :
    onVisit code id allowed act s = (s, replyRefused code .mode) := refuseIf_not_supervising unconf _ _

/-- A request whose first check is that the part is SUPERVISING is answered MODE while it is not. -/
theorem next_request_of_unconfigured {code : Nat} {form : FieldForm} {f : Frame} {s : State}
    {effect rest : State → State × ManageReply} (unconf : s.resp.mode = .unconfigured)
    (check : effect (dropHead .s s) =
      refuseIf (!(dropHead .s s).supervising) (replyRefused code .mode) rest (dropHead .s s)) (takes : Takes code form f s) :
    Host.Outcome.next (φ := Fault) (ρ := Refusal) (request code form effect s) =
      .next (answered f ⟨code, .refused, some .mode, none, .none⟩ (dropHead .s s)) :=
  next_request_of_effect takes (check.trans (refuseIf_not_supervising (s := dropHead .s s) unconf _ _))

section
variable {s : State} (sup : s.resp.mode = .supervising)
include sup

theorem clearNodeEffect_of_supervising (index : Nat) : clearNodeEffect index s = (s, replyRefused 3 .mode) :=
  refuseIf_true _ _ _ (by simp [State.supervising, sup])

theorem startEffect_of_supervising : startEffect s = (s, replyRefused 5 .mode) :=
  refuseIf_true _ _ _ (by simp [State.supervising, sup])

theorem onPlan_of_absent {id : Nat} (absent : planById s id = none) (code : Nat)
    (act : Nat → Plan → State → State × ManageReply) : onPlan code id act s = (s, replyRefused code .notFound) :=
  (refuseIf_mode_of_supervising sup _ _).trans (by simp only [absent])

theorem onVisit_of_absent {id : Nat} (absent : visitById s id = none) (code : Nat) (allowed : VisitState → Bool)
    (act : Nat → Visit → State → State × ManageReply) : onVisit code id allowed act s = (s, replyRefused code .notFound) :=
  (refuseIf_mode_of_supervising sup _ _).trans (by simp only [absent])

theorem readVisitEffect_of_absent {id : Nat} (one : id ≠ 0) (absent : visitById s id = none) :
    readVisitEffect id s = (s, replyRefused 31 .notFound) :=
  (refuseIf_mode_of_supervising sup _ _).trans ((if_neg one).trans (by simp only [absent]))

end

/-- Settles O55: a frame that does not parse by `requestParses_iff`, the forms of fields one by one, and each refused request
by its first check that fails. -/
theorem badAndUntimelyRequestsAreRefused : Obligations.BadAndUntimelyRequestsAreRefused := by
  refine ⟨?_, fun p bs b n width named counts behind => ⟨fits_exactly_iff bs p, fits_flag_iff b p, fits_sized_iff n p,
    fits_named_iff n named p, fits_lists_iff n width counts behind p⟩, fun f s => ⟨fun sup => ?_, fun unconf => ?_⟩⟩
  · intro f s opened idle room head parses
    have ready : responderReady s = true := by simp [responderReady, State.takesFrames, replyRoom, replyPlaces, idle, room]
    have parsed : requestParses f = true ↔ parses := requestParses_iff f
    have ran := exec_manageBadRequest_of_ready opened head ready
    exact ⟨fun bad => ran.trans (congrArg _ (if_neg (mt parsed.mp bad))),
      fun good => ran.trans (congrArg _ (if_pos (parsed.mpr good))),
      fun unknown good => Bool.false_ne_true ((requestParses_of_unknown unknown).symm.trans (parsed.mpr good))⟩
  · replace sup : (dropHead .s s).resp.mode = .supervising := sup
    refine ⟨fun k takes => next_request_of_effect takes (clearNodeEffect_of_supervising sup k),
      fun takes => next_request_of_effect takes (startEffect_of_supervising sup), fun id absent => ?_, fun id absent => ?_⟩
    · replace absent : planById (dropHead .s s) id = none := absent
      exact ⟨fun takes => next_request_of_effect takes (onPlan_of_absent sup absent 24 _),
        fun takes => next_request_of_effect takes (onPlan_of_absent sup absent 25 _)⟩
    · replace absent : visitById (dropHead .s s) id = none := absent
      exact ⟨fun takes => next_request_of_effect takes (onVisit_of_absent sup absent 28 _ _),
        fun takes => next_request_of_effect takes (onVisit_of_absent sup absent 29 _ _),
        fun takes => next_request_of_effect takes (onVisit_of_absent sup absent 30 _ _),
        fun one takes => next_request_of_effect takes (readVisitEffect_of_absent sup one absent)⟩
  · have mode {code form effect rest} := next_request_of_unconfigured (code := code) (form := form) (f := f)
      (effect := effect) (rest := rest) unconf
    refine ⟨mode rfl, fun _ => ⟨mode rfl, mode rfl⟩, fun _ _ => mode rfl, fun _ _ _ => mode rfl, fun _ _ => mode rfl,
      fun _ => mode rfl, fun i choice other takes => ?_, fun _ _ _ => mode rfl, fun _ _ _ => mode rfl, fun _ => mode rfl,
      fun id => ?_⟩
    · have asked : exec (.acceptReplacementNew i choice) s =
          .next (request 20 (plainForm 20) (acceptNewEffect i choice) s) := congrArg Host.Outcome.next (if_neg other)
      exact asked.trans (mode rfl takes)
    · replace unconf : (dropHead .s s).resp.mode = .unconfigured := unconf
      exact ⟨fun takes => next_request_of_effect takes (onPlan_of_unconfigured unconf 24 id _),
        fun takes => next_request_of_effect takes (onPlan_of_unconfigured unconf 25 id _), mode rfl,
        fun takes => next_request_of_effect takes (onVisit_of_unconfigured unconf 28 id _ _),
        fun takes => next_request_of_effect takes (onVisit_of_unconfigured unconf 29 id _ _),
        fun takes => next_request_of_effect takes (onVisit_of_unconfigured unconf 30 id _ _), mode rfl⟩

end Sys2Proof.Machine
end
